-- ==== Sys2Proof/Word.lean ====
section
/-! DEFINITION. The plain word types of the part: a line character, a millisecond count of the time base and a
converter code. -/

namespace Sys2Proof

/-- One character of the niche line, or one payload byte (R1). -/
abbrev Byte := BitVec 8

/-- A 32-bit count of milliseconds: uptime, the tunnel clock, or an uptime stamp (R20, R22). -/
abbrev Ms := BitVec 32

/-- A code of the 12-bit converter (R34). -/
abbrev Code := BitVec 12

end Sys2Proof
end

