-- ==== Sys2Proof/Syntax.lean ====
section
/-! DEFINITION. The commands of the block: one constructor for each row of spec/opcode_table.json, with the operands the
row's rule gives it. A request row carries the form of its frame and its field bytes as they stand on the line, so that a
wrong length and an unclamped field can be said; an event row carries the fan, door, input or code that the event is about. -/

namespace Sys2Proof

/-- A channel number 0–9 (00_scope.md, Numbering of items). -/
abbrev ChanNo := Fin 10

/-- A fan number 0–3. -/
abbrev FanNo := Fin 4

/-- A door number 0–1. -/
abbrev DoorNo := Fin 2

/-- The strap levels that a full reset reads (R2). -/
structure Straps where
  /-- the number formed by the six address straps, 0–63 -/
  address : Fin 64
  /-- the number formed by the two bit-rate straps, 0–3 -/
  bitRate : Fin 4
  /-- the FALLBACK strap -/
  fallback : Bool
deriving DecidableEq, Repr

/-- How a request frame reaches the node: addressed to it, or as a group frame with a selection map, whose bit n stands for
node n (R6, R7). -/
inductive Form where
  | addressed
  | group (map : BitVec 64)
deriving DecidableEq, Repr

/-- The two edges of a tach input (R112). -/
inductive TachEdge where
  | rising
  | falling
deriving DecidableEq, Repr

/-- The two debounced trip inputs of a fan (R128). -/
inductive TripInput where
  | vibration
  | driveFault
deriving DecidableEq, Repr

/-- The five contacts of a door (chapter 10, The door record). -/
inductive Contact where
  | closed
  | latch
  | escapeBar
  | reverseHandle
  | lockFeedback
deriving DecidableEq, Repr

/-- The commands of the block, one for each row of spec/opcode_table.json. -/
inductive Instr where
  /-- R19: power-up or the reset pin, with the strap levels it reads. -/
  | fullReset (straps : Straps)
  /-- R4: a character whose stop bit is missing. -/
  | framingError
  /-- R4: more than three character times have passed since the last character of a frame being assembled. -/
  | interCharacterGap
  /-- R5, R6, R7: a whole frame, as the line carries it, that the node judges and drops. -/
  | foreignFrame (dest kind : Byte) (payload : List Byte) (check : BitVec 16)
  /-- R9: a request whose KIND names no request kind. -/
  | unknownRequest (form : Form) (kind : Byte) (fields : List Byte)
  /-- R8: the reply's first start bit. -/
  | replyStart
  /-- R8: the reply's last stop bit has been sent. -/
  | replySent
  /-- R25. -/
  | statusPoll (form : Form) (fields : List Byte)
  /-- R49. -/
  | readValues (form : Form) (fields : List Byte)
  /-- R30. -/
  | fetchEvents (form : Form) (fields : List Byte)
  /-- R15. -/
  | readPage (form : Form) (fields : List Byte)
  /-- R23. -/
  | setTime (form : Form) (fields : List Byte)
  /-- R18. -/
  | nodeReset (form : Form) (fields : List Byte)
  /-- R17. -/
  | setNode (form : Form) (fields : List Byte)
  /-- R35. -/
  | setChannel (form : Form) (fields : List Byte)
  /-- R40. -/
  | setScan (form : Form) (fields : List Byte)
  /-- R41. -/
  | scanStart (form : Form) (fields : List Byte)
  /-- R44. -/
  | scanStop (form : Form) (fields : List Byte)
  /-- R42: the settle time of the visit has passed. -/
  | settleTimeExpiry
  /-- R34: a conversion completes with this code. -/
  | conversionComplete (code : Code)
  /-- R43: the pass pause has passed. -/
  | passPauseExpiry
  /-- R77, R80. -/
  | zero (form : Form) (fields : List Byte)
  /-- R81. -/
  | zeroCancel (form : Form) (fields : List Byte)
  /-- R84: the purge time has passed. -/
  | purgeTimeExpiry
  /-- R91: 120 s without a window sum. -/
  | noSamples
  /-- R95. -/
  | spanEnter (form : Form) (fields : List Byte)
  /-- R98. -/
  | spanStep (form : Form) (fields : List Byte)
  /-- R99. -/
  | spanSet (form : Form) (fields : List Byte)
  /-- R102. -/
  | spanExit (form : Form) (fields : List Byte)
  /-- R103: 1,800 s since the last-request time. -/
  | spanTimeout
  /-- R106. -/
  | setFan (form : Form) (fields : List Byte)
  /-- R112: an edge of a fan's tach input. -/
  | tachMeasurement (fan : FanNo) (edge : TachEdge)
  /-- R112: a fan's tach count reaches 65535. -/
  | tachSaturation (fan : FanNo)
  /-- R118: the start timeout passes in STARTING. -/
  | startTimeout (fan : FanNo)
  /-- R119: the start timeout passes in CHANGING. -/
  | changeTimeout (fan : FanNo)
  /-- R122: the coast timeout passes in COASTING. -/
  | coastTimeout (fan : FanNo)
  /-- R123: 1,000 ms of the stall watch pass. -/
  | stallWatchExpiry (fan : FanNo)
  /-- R139: the oldest in-window stamp of a waiting fan ages out. -/
  | budgetRecheck (fan : FanNo)
  /-- R21: stamps whose age has reached 2^31 ms are held as expired. -/
  | stampExpiry
  /-- R128: the overcurrent comparator input takes this level. -/
  | overcurrentChange (fan : FanNo) (level : Bool)
  /-- R128: a vibration switch or drive fault contact input takes this level. -/
  | tripInputChange (fan : FanNo) (input : TripInput) (level : Bool)
  /-- R128: the input has stood 50 ms at the other level. -/
  | tripSourceDebounced (fan : FanNo) (input : TripInput)
  /-- R132. -/
  | tripReset (form : Form) (fields : List Byte)
  /-- R134: a retry due. -/
  | autoRetry (fan : FanNo)
  /-- R135: 600 s of continuous RUNNING. -/
  | retryCountClear (fan : FanNo)
  /-- R125: the OUTPUT INHIBIT input takes this level. -/
  | inhibitInputChange (level : Bool)
  /-- R126: the debounced OUTPUT INHIBIT becomes active. -/
  | inhibitOn
  /-- R126: the debounced OUTPUT INHIBIT becomes inactive. -/
  | inhibitOff
  /-- R145, R146. -/
  | regime (form : Form) (fields : List Byte)
  /-- R151. -/
  | fanCommand (form : Form) (fields : List Byte)
  /-- R155. -/
  | setDemand (form : Form) (fields : List Byte)
  /-- R13: the silence timeout passes. -/
  | silenceTimeout
  /-- R162: the auto hold passes while a fall is waiting. -/
  | autoHoldExpiry
  /-- R170. -/
  | setDoor (form : Form) (fields : List Byte)
  /-- R173. -/
  | doorCommand (form : Form) (fields : List Byte)
  /-- R174: a contact input takes this level. -/
  | doorContactInputChange (door : DoorNo) (contact : Contact) (level : Bool)
  /-- R174: a contact has stood at the other level for the debounce time. -/
  | doorContactDebounced (door : DoorNo) (contact : Contact)
  /-- R179: an OPEN door reaches its hold limit. -/
  | holdLimitExpiry (door : DoorNo)
  /-- R180: the bar of an UNLATCHED door has been held for the open wait. -/
  | openWaitExpiry (door : DoorNo)
  /-- R182: a fault condition has stood for 2 s. -/
  | doorFaultTimeout (door : DoorNo)
  /-- R3: a character arrives on the line. -/
  | characterReceived (char : Byte)
deriving DecidableEq, Repr

end Sys2Proof
end

