-- ==== Sys2Proof/Machine/Arith.lean ====
section
/-! DEFINITION. The roundings of the conventions (00_scope.md, Arithmetic) and the clamps of R10 step 5. -/

namespace Sys2Proof.Machine

/-- "Rounded": the quotient n ÷ d to the nearest integer, halves away from zero. -/
def roundDiv (n : Int) (d : Nat) : Int :=
  if 0 ≤ n then (((2 * n.natAbs + d) / (2 * d) : Nat) : Int) else -(((2 * n.natAbs + d) / (2 * d) : Nat) : Int)

/-- The rounded quotient of two counts, halves up. -/
def roundDivNat (n d : Nat) : Nat := (2 * n + d) / (2 * d)

/-- "Truncated": the quotient n ÷ d rounded toward zero. -/
def truncDiv (n : Int) (d : Nat) : Int := Int.tdiv n (d : Int)

/-- The quotient rounded up. -/
def ceilDiv (n d : Nat) : Nat := (n + d - 1) / d

/-- The value, or the nearer end of lo..hi when it lies outside. -/
def clampNat (lo hi x : Nat) : Nat := if x < lo then lo else if hi < x then hi else x

/-- The value, or the nearer end of lo..hi when it lies outside. -/
def clampInt (lo hi x : Int) : Int := if x < lo then lo else if hi < x then hi else x

end Sys2Proof.Machine
end

