-- ==== Sys2Proof/Config.lean ====
section
/-! DEFINITION. What the part fixes (the numbers of the manual that no request changes) and the one free value of the model,
which decides every order that the manual leaves open. -/

namespace Sys2Proof.Config

/-- DESIGN CHOICE (assumption 3): the free value that decides each order the manual leaves open ("either may be taken first":
R28, R52, R90, R129, R185 and others). It has no body, so nothing can be proved of it; it is applied to State.choices. -/
opaque freeChoice : Nat → Nat

/-- Ticks of 10 µs in a millisecond (R22). -/
abbrev ticksPerMs : Nat := 100

/-- Ticks of 10 µs in a second: the unit of the line's bit-time comparisons. -/
abbrev ticksPerSecond : Nat := 100000

/-- Ticks of one conversion, 50 µs (R34). -/
abbrev conversionTicks : Nat := 5

/-- Most entries of the event queue (R28). -/
abbrev eventCapacity : Nat := 64

/-- Most payload bytes of a frame (chapter 1, Frames). -/
abbrev maxPayload : Nat := 96

/-- Latest start of a reply, 10 ms in ticks (R8). -/
abbrev latestReplyTicks : Nat := 1000

/-- The count that completes a saturated tach measurement (R112). -/
abbrev tachSaturated : Nat := 65535

/-- The debounce of OUTPUT INHIBIT, VIBRATION and DRIVE FAULT, in ms (R125, R128). -/
abbrev inputDebounceMs : Nat := 50

/-- The stall watch, in ms (R123). -/
abbrev stallMs : Nat := 1000

/-- Continuous RUNNING that clears the retry count, in ms (R135). -/
abbrev retryClearMs : Nat := 600000

/-- The NO SAMPLES timeout, in ms (R91). -/
abbrev noSamplesMs : Nat := 120000

/-- The span inactivity timeout, in ms (R103). -/
abbrev spanTimeoutMs : Nat := 1800000

/-- The door fault time, in ms (R182). -/
abbrev doorFaultMs : Nat := 2000

/-- The age at which an uptime stamp is held as expired, 2^31 ms (R21). -/
abbrev stampExpiryMs : Nat := 2147483648

/-- The bit rate, in baud, that a bit-rate strap value selects (R1). -/
def baud (bitRate : Fin 4) : Nat :=
  match bitRate with
  | 0 => 9600
  | 1 => 19200
  | 2 => 38400
  | 3 => 57600

end Sys2Proof.Config
end

