-- ==== Sys2Proof/Machine/State.lean ====
section
/-! DEFINITION. The state of the part, block by block as the manual names it (00_scope.md, Block overview), with the queue of
commands that are waiting, and its value right after a full reset. -/

namespace Sys2Proof.Machine

/-- No command of this block faults: each has the effect its rule gives. -/
inductive Fault : Type
deriving DecidableEq, Repr

/-- Why a command has no meaning. -/
inductive Refusal where
  /-- Raised by `exec` alone, for a row that has no meaning yet; safe, since the model stops. No arm raises it. -/
  | notModelled (mnemonic : String)
deriving DecidableEq, Repr

/-! ### Names of the manual -/

/-- A direction of airflow (R26: 0 FORWARD, 1 REVERSE). -/
inductive Dir where
  | forward
  | reverse
deriving DecidableEq, Repr

/-- The ventilation regime (R144). -/
inductive Regime where
  | manual
  | auto
  | incident
deriving DecidableEq, Repr

/-- The niche's place relative to a fire (R145). -/
inductive Role where
  | upstream
  | downstream
  | fireZone
deriving DecidableEq, Repr

/-- The outcome byte of a reply (R11). -/
inductive ReqOutcome where
  | done
  | clamped
  | notNow
  | notKnown
  | badLength
  | outOfRange
  | inconsistent
deriving DecidableEq, Repr

/-! ### Line interface -/

/-- The frame receiver's state, with the bytes kept so far (R3). -/
inductive Rx where
  | hunt
  /-- DEST and KIND as far as they are kept -/
  | header (kept : List Byte)
  | payload (dest kind : Byte) (len : Nat) (kept : List Byte)
  /-- the payload is complete; the first check byte, once kept -/
  | check (dest kind : Byte) (kept : List Byte) (first : Option Byte)
deriving DecidableEq, Repr

/-- A request in service and its reply (R8). -/
structure Service where
  /-- the reply's DEST, KIND and payload -/
  dest : Byte
  kind : Byte
  payload : List Byte
  /-- the driver-enable output is on and the reply is being sent -/
  sending : Bool
  /-- ticks since the request's last check character ended, or, while sending, since the reply began -/
  elapsed : Nat
  /-- the reply answers an accepted NODE RESET, which is carried out at its end (R18) -/
  resetAfter : Bool
deriving DecidableEq, Repr

/-- The line interface (R19). -/
structure Lif where
  /-- the strap readings in use (R2) -/
  straps : Straps
  rx : Rx
  /-- ticks since the last character, while a frame is being assembled (R4) -/
  gapTicks : Nat
  service : Option Service
  /-- the last restart of the silence timer, or none while it is stopped (R13) -/
  silenceSince : Option Ms
  /-- the timeout in s with which the timer was last restarted (R13) -/
  silenceLimit : Nat
  lineLost : Bool
  /-- the silence timeout node setting, s (R17) -/
  silenceTimeout : Nat
deriving DecidableEq, Repr

/-! ### Time base and event queue -/

/-- The time base (R20, R22, R24). -/
structure TimeBase where
  uptime : Ms
  /-- sub-millisecond prescaler of uptime, 0–99 -/
  uptimePre : Nat
  clock : Ms
  /-- sub-millisecond prescaler of the tunnel clock, 0–99 -/
  clockPre : Nat
  clockUnset : Bool
deriving DecidableEq, Repr

/-- An uptime stamp that no timer runs against; expired once its age has reached 2^31 ms (R21). -/
structure Stamp where
  time : Ms
  expired : Bool
deriving DecidableEq, Repr

/-- The source of an event (R27). -/
inductive Source where
  | node
  | line
  | channel (c : ChanNo)
  | cal (c : ChanNo)
  | fan (f : FanNo)
  | door (d : DoorNo)
  /-- DOOR, index 2: the vestibule as a whole -/
  | vestibule
deriving DecidableEq, Repr

/-- The event codes (R31). -/
inductive EventCode where
  | nodeStart
  | nodeReset
  | regimeChanged
  | inhibitOn
  | inhibitOff
  | clockSet
  | demandShortOn
  | demandShortOff
  | lineLost
  | lineRestored
  | alarmUp
  | alarmDown
  | sensorFault
  | sensorRecovered
  | channelReconfigured
  | calDone
  | calFailed
  | calDrift
  | calAborted
  | spanExit
  | spanTimeout
  | spanAborted
  | fanRunning
  | fanStop
  | fanReverse
  | coastTimeout
  | speedOff
  | fanTrip
  | tripCleared
  | budgetWait
  | doorState
  | breachOn
  | breachOff
deriving DecidableEq, Repr

/-- An event entry (R27). -/
structure Event where
  stamp : Ms
  source : Source
  code : EventCode
  level : Option Nat
  value : Option Int
  gap : Bool
deriving DecidableEq, Repr

/-- The event queue, oldest entry first, and its pending GAP mark (R28, R29). -/
structure EventQueue where
  entries : List Event
  gapPending : Bool
deriving DecidableEq, Repr

/-! ### Scan sequencer and channel table -/

/-- The scan mode (R40). -/
inductive ScanMode where
  | single
  | continuous
deriving DecidableEq, Repr

/-- The scan state (R26). -/
inductive ScanState where
  | idle
  | settling
  | converting
  | pausing
deriving DecidableEq, Repr

/-- The scan record (chapter 3, The scan list and passes; R53). -/
structure Scan where
  list : List ChanNo
  mode : ScanMode
  /-- pass pause, ms -/
  pause : Nat
  state : ScanState
  start : Nat
  current : Nat
  visits : Nat
  stopPending : Bool
  /-- the input that the selector connects, 0–11 -/
  selector : Nat
  /-- ticks since the scan state was entered, and ticks after which it ends -/
  ticks : Nat
  due : Nat
  /-- a visit of the current pass has begun and was not skipped (R43) -/
  begun : Bool
deriving DecidableEq, Repr

/-- The kind of a channel (R37). -/
inductive ChanKind where
  | co
  | no2
  | visibility
  | airVelocity
  | temperature
  | diffPressure
  | general
deriving DecidableEq, Repr

/-- The state of a channel (chapter 3, The channel table). -/
inductive ChanState where
  | disabled
  | noValue
  | valid
  | sensorFault
deriving DecidableEq, Repr

/-- A channel's configuration (R35). -/
structure ChanConfig where
  enabled : Bool
  kind : ChanKind
  input : Nat
  settle : Nat
  liveZero : Bool
  faultLow : Nat
  faultHigh : Nat
  fs : Nat
  base : Int
  /-- zero offset Z, quarter-codes -/
  zero : Int
  /-- span factor G, units of 1/4096 -/
  span : Nat
  tc : Int
  tempSource : Option ChanNo
  crossSource : Option ChanNo
  xs : Int
  smoothing : Nat
  l1 : Nat
  l2 : Nat
  l3 : Nat
  hyst : Nat
  fanSensitive : Bool
  settleWindows : Nat
  participates : Bool
  longPurge : Nat
  shortPurge : Nat
  trimLimit : Nat
deriving DecidableEq, Repr

/-- The value flags of a channel (R50). -/
structure ValueFlags where
  fresh : Bool
  overwritten : Bool
  transient : Bool
  calibrating : Bool
  trim : Bool
  unsettled : Bool
  atLimit : Bool
deriving DecidableEq, Repr

/-- A channel record with its sample window (R45, R54). -/
structure Channel where
  cfg : ChanConfig
  state : ChanState
  /-- the published value F -/
  value : Int
  flags : ValueFlags
  /-- the "has published" mark -/
  published : Bool
  /-- the smoothing filter's "initialised" mark (R64) -/
  filterInit : Bool
  level : Nat
  /-- the computed index (R71) -/
  index : Nat
  /-- settle-window countdown (R52) -/
  countdown : Nat
  /-- consecutive faulty-window count (R46) -/
  faulty : Nat
  window : List Code
deriving DecidableEq, Repr

/-! ### Calibration unit -/

/-- The type of a zero calibration (chapter 5). -/
inductive CalType where
  | long
  | short
deriving DecidableEq, Repr

/-- An entry of the calibration queue (R76). -/
structure CalEntry where
  channel : ChanNo
  type : CalType
  retried : Bool
deriving DecidableEq, Repr

/-- The phase of the queue's head; none while the CAL is IDLE (R26, R82). -/
inductive CalPhase where
  | none
  | waitingQuiet
  | purging
  | accumulating
deriving DecidableEq, Repr

/-- The step size of a span session (R96). -/
inductive StepSize where
  | coarse
  | fine
deriving DecidableEq, Repr

/-- An open span session (chapter 6, The session record). -/
structure SpanSession where
  channel : ChanNo
  step : StepSize
  entryG : Nat
  currentG : Nat
  countdown : Nat
  lastRequest : Ms
deriving DecidableEq, Repr

/-- The calibration unit (R93, R105). -/
structure Cal where
  queue : List CalEntry
  phase : CalPhase
  purgeStart : Ms
  /-- the purge time in force, s -/
  purgeTime : Nat
  received : Nat
  total : Nat
  lastSum : Ms
  valve : Bool
  headSelect : ChanNo
  longDone : Vector Bool 10
  span : Option SpanSession
deriving DecidableEq, Repr

/-! ### Fan drive units -/

/-- The states of a present fan (R115). -/
inductive FanState where
  | stopped
  | waitingBudget
  | starting
  | changing
  | running
  | coasting
  | tripped
  | inhibited
deriving DecidableEq, Repr

/-- The causes that a trip latch records (R26). -/
inductive TripCause where
  | overcurrent
  | vibration
  | driveFault
  | stall
deriving DecidableEq, Repr

/-- A debounced input: its level as it stands, its debounced level, and the start of a debounce in progress (R125, R128). -/
structure Debounced where
  input : Bool
  level : Bool
  since : Option Ms
deriving DecidableEq, Repr

/-- A completed tach measurement (R112). -/
inductive Reading where
  | saturated
  | period (ticks : Nat)
deriving DecidableEq, Repr

/-- A fan's configuration (R106). -/
structure FanConfig where
  present : Bool
  rated : Nat
  pulses : Nat
  stage1 : Nat
  stage2 : Nat
  stage3 : Nat
  minCode : Nat
  startTimeout : Nat
  coastTimeout : Nat
  /-- trip source mask: bit 0 OVERCURRENT, 1 VIBRATION, 2 DRIVE FAULT, 3 STALL -/
  mask : BitVec 4
  retryInterval : Nat
  maxRetries : Nat
  budget : Nat
  /-- budget window, min -/
  window : Nat
deriving DecidableEq, Repr

/-- An auto-retry due one interval, in s, after the moment it was recorded (R134). -/
structure RetryDue where
  since : Ms
  interval : Nat
deriving DecidableEq, Repr

/-- A fan record (chapter 7, The fan record; R127, R143). -/
structure Fan where
  cfg : FanConfig
  /-- none while the fan is not present -/
  state : Option FanState
  reqStage : Nat
  effStage : Nat
  reqDir : Dir
  /-- the DIRECTION output -/
  dirOut : Dir
  /-- the RUN output -/
  run : Bool
  drive : Nat
  /-- the count in progress, or none in WAITING EDGE (R112) -/
  tachCount : Option Nat
  /-- the tach input as it stands -/
  tachLevel : Bool
  reading : Option Reading
  /-- the latest measurement completed since the present state was entered (R113) -/
  stateReading : Option Reading
  /-- the last unsaturated period since the present state was entered (R118, R119) -/
  lastPeriod : Option Nat
  /-- start of the current STARTING, CHANGING or COASTING -/
  since : Ms
  /-- start of the stall watch, or none while it does not run (R123) -/
  stallSince : Option Ms
  /-- entry into RUNNING, while the 600 s of R135 are counted -/
  runSince : Option Ms
  /-- the trip latch, with its recorded cause -/
  latch : Option TripCause
  retryCount : Nat
  retryDue : Option RetryDue
  /-- in WAITING BUDGET, a start is due and not yet granted (R141) -/
  startDue : Bool
  /-- the start history, oldest first (R136) -/
  history : List Stamp
  /-- the overcurrent comparator input: true at its fault level -/
  overcurrent : Bool
  vibration : Debounced
  driveFault : Debounced
deriving DecidableEq, Repr

/-! ### Regime and allocation unit -/

/-- What the RAU holds for one fan (R144). -/
structure RauFan where
  req : Nat
  eff : Nat
  dir : Dir
deriving DecidableEq, Repr

/-- One step of the demand table (R155). -/
structure DemandStep where
  threshold : Nat
  thrust : Nat
deriving DecidableEq, Repr

/-- What the CAU has handed of one channel (R74, R154). -/
structure Contribution where
  participates : Bool
  index : Nat
  state : ChanState
  calibrating : Bool
  trim : Bool
deriving DecidableEq, Repr

/-- The regime record (chapter 9; R169). -/
structure Rau where
  regime : Regime
  autoDir : Dir
  floor : Nat
  /-- the role last taken; none since a reset -/
  role : Option Role
  incDir : Dir
  incStage : Nat
  respectCap : Bool
  fallback : Bool
  doorCap : Nat
  /-- auto hold, s -/
  autoHold : Nat
  faultIndex : Nat
  urgentIndex : Nat
  steps : List DemandStep
  /-- the decrease hysteresis dh -/
  dh : Nat
  imax : Nat
  /-- the current step, numbered from 1; 0 is none (R156) -/
  step : Nat
  sought : Nat
  /-- D, the demand in force -/
  demand : Nat
  lastChange : Option Stamp
  fallWaiting : Bool
  fans : Vector RauFan 4
  /-- DEMAND SHORT -/
  short : Bool
  /-- the door open condition (R163) -/
  doorOpen : Bool
  contrib : Vector Contribution 10
deriving DecidableEq, Repr

/-! ### Door supervisors -/

/-- The states of a present door (chapter 10, The door record). -/
inductive DoorState where
  | secured
  | free
  | unlatched
  | opened
  | heldOpen
  | forced
  | obstructed
  | fault
  | initial
deriving DecidableEq, Repr

/-- A door's lock mode (R173). -/
inductive LockMode where
  | locked
  | released
deriving DecidableEq, Repr

/-- An exit sign (R187). -/
inductive Sign where
  | off
  | steady
  | flash
deriving DecidableEq, Repr

/-- The closed state from which an opening episode was entered (R177, R184). -/
inductive EpisodeFrom where
  | none
  | secured
  | free
deriving DecidableEq, Repr

/-- How a door was last opened (R172). -/
inductive OpeningWay where
  | none
  | escapeBar
  | reverseHandle
  | neither
deriving DecidableEq, Repr

/-- The cause of the last obstruction (R180). -/
inductive ObstructionCause where
  | none
  | pressure
  | mechanical
  | unknown
deriving DecidableEq, Repr

/-- One contact of a door: its input, its debounced level (none before the first since a reset) and the start of a debounce in
progress (R174). -/
structure ContactState where
  input : Bool
  level : Option Bool
  since : Option Ms
deriving DecidableEq, Repr

/-- The five contacts of a door. -/
structure Contacts where
  closed : ContactState
  latch : ContactState
  escapeBar : ContactState
  reverseHandle : ContactState
  lockFeedback : ContactState
deriving DecidableEq, Repr

/-- A door's configuration (R170). -/
structure DoorConfig where
  present : Bool
  debounce : Nat
  holdLimit : Nat
  openWait : Nat
  pressure : Option ChanNo
  forceLimit : Nat
deriving DecidableEq, Repr

/-- A door record (chapter 10, The door record; R190). -/
structure Door where
  cfg : DoorConfig
  lockMode : LockMode
  contacts : Contacts
  /-- none while the door is not present -/
  state : Option DoorState
  /-- the lock drive: true engaged -/
  lock : Bool
  engageWaiting : Bool
  sign : Sign
  episode : EpisodeFrom
  /-- the armed opening-time measurement -/
  armed : Option Stamp
  barSeen : Bool
  handleSeen : Bool
  /-- OPEN entry, while the hold timer runs -/
  openSince : Option Ms
  /-- the escape bar held since, while the open wait runs -/
  barSince : Option Ms
  disagreeSince : Option Ms
  latchOpenSince : Option Ms
  lastTime : Nat
  lastWay : OpeningWay
  lastCause : ObstructionCause
deriving DecidableEq, Repr

/-- The vestibule logic (chapter 10). -/
structure Vestibule where
  breach : Bool
  buzzer : Bool
  silenced : Bool
deriving DecidableEq, Repr

/-! ### The part -/

/-- The whole part. `choices` counts the free choices taken and `pending` is the queue of commands, first in first out: both
are the model's own, not the manual's. -/
structure State where
  lif : Lif
  tb : TimeBase
  evq : EventQueue
  scn : Scan
  channels : Vector Channel 10
  cal : Cal
  fans : Vector Fan 4
  inhibit : Debounced
  rau : Rau
  doors : Vector Door 2
  vestibule : Vestibule
  choices : Nat
  pending : List Instr
deriving DecidableEq, Repr

/-! ### Full-reset values -/

/-- The full-reset configuration of a channel (R35). -/
def ChanConfig.initial : ChanConfig :=
  { enabled := false, kind := .general, input := 0, settle := 0, liveZero := false, faultLow := 600, faultHigh := 4080,
    fs := 4000, base := 0, zero := 0, span := 4096, tc := 0, tempSource := none, crossSource := none, xs := 0, smoothing := 0,
    l1 := 1000, l2 := 2000, l3 := 3000, hyst := 0, fanSensitive := false, settleWindows := 2, participates := false,
    longPurge := 180, shortPurge := 60, trimLimit := 32 }

/-- All value flags clear. -/
def ValueFlags.clear : ValueFlags :=
  { fresh := false, overwritten := false, transient := false, calibrating := false, trim := false, unsettled := false,
    atLimit := false }

/-- A channel record at full reset (R54). -/
def Channel.initial : Channel :=
  { cfg := .initial, state := .disabled, value := 0, flags := .clear, published := false, filterInit := false, level := 0,
    index := 0, countdown := 0, faulty := 0, window := [] }

/-- The scan record at full reset (R53). -/
def Scan.initial : Scan :=
  { list := [], mode := .single, pause := 0, state := .idle, start := 0, current := 0, visits := 0, stopPending := false,
    selector := 0, ticks := 0, due := 0, begun := false }

/-- The calibration unit at full reset (R93, R105). -/
def Cal.initial : Cal :=
  { queue := [], phase := .none, purgeStart := 0, purgeTime := 0, received := 0, total := 0, lastSum := 0, valve := false,
    headSelect := 0, longDone := Vector.replicate 10 false, span := none }

/-- An input at its inactive level (assumption 2), debounced inactive. -/
def Debounced.initial : Debounced := { input := false, level := false, since := none }

/-- The full-reset configuration of a fan (R106). -/
def FanConfig.initial : FanConfig :=
  { present := false, rated := 1480, pulses := 2, stage1 := 500, stage2 := 750, stage3 := 1000, minCode := 200,
    startTimeout := 20, coastTimeout := 90, mask := 15#4, retryInterval := 0, maxRetries := 0, budget := 4, window := 60 }

/-- A fan record at full reset (R127, R143). -/
def Fan.initial : Fan :=
  { cfg := .initial, state := none, reqStage := 0, effStage := 0, reqDir := .forward, dirOut := .forward, run := false,
    drive := 0, tachCount := none, tachLevel := false, reading := none, stateReading := none, lastPeriod := none, since := 0,
    stallSince := none, runSince := none, latch := none, retryCount := 0, retryDue := none, startDue := false, history := [],
    overcurrent := false, vibration := .initial, driveFault := .initial }

/-- What the RAU holds for a fan at full reset (R169). -/
def RauFan.initial : RauFan := { req := 0, eff := 0, dir := .forward }

/-- What the RAU holds of a channel at full reset (R54, R154). -/
def Contribution.initial : Contribution :=
  { participates := false, index := 0, state := .disabled, calibrating := false, trim := false }

/-- The regime record at full reset, with the fallback setting taken from the strap (R17, R169). -/
def Rau.initial (fallback : Bool) : Rau :=
  { regime := .manual, autoDir := .forward, floor := 0, role := none, incDir := .forward, incStage := 0, respectCap := false,
    fallback := fallback, doorCap := 1, autoHold := 120, faultIndex := 100, urgentIndex := 100, steps := [], dh := 0, imax := 0,
    step := 0, sought := 0, demand := 0, lastChange := none, fallWaiting := false, fans := Vector.replicate 4 .initial,
    short := false, doorOpen := false, contrib := Vector.replicate 10 .initial }

/-- A contact after a reset: no level, its debounce started (R174). -/
def ContactState.initial : ContactState := { input := false, level := none, since := some 0 }

/-- The full-reset configuration of a door (R170). -/
def DoorConfig.initial : DoorConfig :=
  { present := true, debounce := 50, holdLimit := 60, openWait := 8, pressure := none, forceLimit := 500 }

/-- A door record at full reset: present, LOCKED, INITIAL, the drive released with an engage waiting (R190). -/
def Door.initial : Door :=
  { cfg := .initial, lockMode := .locked,
    contacts := { closed := .initial, latch := .initial, escapeBar := .initial, reverseHandle := .initial,
                  lockFeedback := .initial },
    state := some .initial, lock := false, engageWaiting := true, sign := .steady, episode := .none, armed := none,
    barSeen := false, handleSeen := false, openSince := none, barSince := none, disagreeSince := none, latchOpenSince := none,
    lastTime := 0, lastWay := .none, lastCause := .none }

/-- The vestibule logic at either reset (R190). -/
def Vestibule.initial : Vestibule := { breach := false, buzzer := false, silenced := false }

/-- The NODE START entry that a full reset leaves alone in the queue (R32). -/
def Event.nodeStart : Event :=
  { stamp := 0, source := .node, code := .nodeStart, level := none, value := none, gap := false }

/-- The line interface at full reset, with the straps it has read (R19). -/
def Lif.initial (straps : Straps) : Lif :=
  { straps := straps, rx := .hunt, gapTicks := 0, service := none, silenceSince := some 0, silenceLimit := 30,
    lineLost := false, silenceTimeout := 30 }

/-- The time base at full reset (R24). -/
def TimeBase.initial : TimeBase := { uptime := 0, uptimePre := 0, clock := 0, clockPre := 0, clockUnset := true }

/-- DESIGN CHOICE (assumption 1): the strap levels of `State.reset`, which the manual leaves to the installation. -/
def initialStraps : Straps := { address := 1, bitRate := 0, fallback := false }

/-- The part right after a full reset, every field input at its inactive level (assumption 2) and no command waiting. -/
def State.reset : State :=
  { lif := .initial initialStraps, tb := .initial, evq := { entries := [.nodeStart], gapPending := false }, scn := .initial,
    channels := Vector.replicate 10 .initial, cal := .initial, fans := Vector.replicate 4 .initial, inhibit := .initial,
    rau := .initial false, doors := Vector.replicate 2 .initial, vestibule := .initial, choices := 0, pending := [] }

end Sys2Proof.Machine
end

