-- ==== Sys2Proof/Machine/Operands.lean ====
section
/-! DEFINITION. The fields of a request and of a reply: least significant byte first, signed fields in two's complement
(00_scope.md, Frame fields), and the codes of the named values that fields carry. -/

namespace Sys2Proof.Machine

/-! ### Reading the field bytes of a request -/

/-- The byte at an offset; the length check has made every offset of a kind's fields lie inside. -/
def u8 (fs : List Byte) (i : Nat) : Nat := (fs.getD i 0).toNat

/-- Two bytes, unsigned. -/
def u16 (fs : List Byte) (i : Nat) : Nat := u8 fs i + 256 * u8 fs (i + 1)

/-- Two bytes, two's complement. -/
def s16 (fs : List Byte) (i : Nat) : Int := (BitVec.ofNat 16 (u16 fs i)).toInt

/-- Four bytes, as a millisecond count. -/
def u32 (fs : List Byte) (i : Nat) : Ms := BitVec.ofNat 32 (u16 fs i + 65536 * u16 fs (i + 2))

/-- A number below n, if it is one (the index check of R10 step 3). -/
def indexOf (n : Nat) (x : Nat) : Option (Fin n) := if h : x < n then some ⟨x, h⟩ else none

/-- A channel field that may be FFh for none: none when the byte is neither FFh nor 0–9. -/
def optChannel (x : Nat) : Option (Option ChanNo) :=
  if x = 0xFF then some none else (indexOf 10 x).map some

/-! ### Writing the fields of a reply -/

/-- One byte of a count. -/
def byte (n : Nat) : Byte := BitVec.ofNat 8 n

/-- One byte of a yes/no field. -/
def flag (b : Bool) : Byte := if b then 1 else 0

/-- Two bytes of a count. -/
def le16 (n : Nat) : List Byte := [byte n, byte (n / 256)]

/-- Two bytes of a signed value. -/
def le16i (i : Int) : List Byte := le16 (BitVec.ofInt 16 i).toNat

/-- Four bytes of a 32-bit word. -/
def le32 (w : BitVec 32) : List Byte :=
  [byte w.toNat, byte (w.toNat / 256), byte (w.toNat / 65536), byte (w.toNat / 16777216)]

/-- Four bytes of a signed value. -/
def le32i (i : Int) : List Byte := le32 (BitVec.ofInt 32 i)

/-- A source field: the channel number, or FFh for none. -/
def optByte {n : Nat} (c : Option (Fin n)) : Byte :=
  match c with
  | none => 0xFF
  | some k => byte k.val

/-! ### Codes -/

/-- R11. -/
def ReqOutcome.code (o : ReqOutcome) : Byte :=
  match o with
  | .done => 0
  | .clamped => 1
  | .notNow => 2
  | .notKnown => 3
  | .badLength => 4
  | .outOfRange => 5
  | .inconsistent => 6

/-- R26: 0 FORWARD, 1 REVERSE. -/
def Dir.code (d : Dir) : Nat :=
  match d with
  | .forward => 0
  | .reverse => 1

/-- The direction that a field names once it is clamped to 0..1. -/
def Dir.ofCode (x : Nat) : Dir := if x = 0 then .forward else .reverse

/-- R26: 0 MANUAL, 1 AUTO, 2 INCIDENT. -/
def Regime.code (r : Regime) : Nat :=
  match r with
  | .manual => 0
  | .auto => 1
  | .incident => 2

/-- R26, R145: 1 UPSTREAM, 2 DOWNSTREAM, 3 FIRE ZONE. -/
def Role.code (r : Role) : Nat :=
  match r with
  | .upstream => 1
  | .downstream => 2
  | .fireZone => 3

/-- The role that a field names once it is clamped to 1..3. -/
def Role.ofCode (x : Nat) : Role := if x ≤ 1 then .upstream else if x = 2 then .downstream else .fireZone

/-- R37. -/
def ChanKind.code (k : ChanKind) : Nat :=
  match k with
  | .co => 0
  | .no2 => 1
  | .visibility => 2
  | .airVelocity => 3
  | .temperature => 4
  | .diffPressure => 5
  | .general => 6

/-- R37 step 1: a kind code above 6 is taken as 6, GENERAL. -/
def ChanKind.ofCode (x : Nat) : ChanKind :=
  match x with
  | 0 => .co
  | 1 => .no2
  | 2 => .visibility
  | 3 => .airVelocity
  | 4 => .temperature
  | 5 => .diffPressure
  | _ => .general

/-- R26, R50. -/
def ChanState.code (s : ChanState) : Nat :=
  match s with
  | .disabled => 0
  | .noValue => 1
  | .valid => 2
  | .sensorFault => 3

/-- R26: 0 stands for a fan that is not present. -/
def fanStateCode (s : Option FanState) : Nat :=
  match s with
  | none => 0
  | some .stopped => 1
  | some .waitingBudget => 2
  | some .starting => 3
  | some .changing => 4
  | some .running => 5
  | some .coasting => 6
  | some .tripped => 7
  | some .inhibited => 8

/-- R26. -/
def TripCause.code (c : TripCause) : Nat :=
  match c with
  | .overcurrent => 1
  | .vibration => 2
  | .driveFault => 3
  | .stall => 4

/-- R26: 9 stands for a door that is not present. -/
def doorStateCode (s : Option DoorState) : Nat :=
  match s with
  | some .secured => 0
  | some .free => 1
  | some .unlatched => 2
  | some .opened => 3
  | some .heldOpen => 4
  | some .forced => 5
  | some .obstructed => 6
  | some .fault => 7
  | some .initial => 8
  | none => 9

/-- R26. -/
def ScanState.code (s : ScanState) : Nat :=
  match s with
  | .idle => 0
  | .settling => 1
  | .converting => 2
  | .pausing => 3

/-- R26. -/
def CalPhase.code (p : CalPhase) : Nat :=
  match p with
  | .none => 0
  | .waitingQuiet => 1
  | .purging => 2
  | .accumulating => 3

/-- R77: 0 LONG, 1 SHORT. -/
def CalType.code (t : CalType) : Nat :=
  match t with
  | .long => 0
  | .short => 1

/-- R95: 0 COARSE, 1 FINE. -/
def StepSize.code (t : StepSize) : Nat :=
  match t with
  | .coarse => 0
  | .fine => 1

/-- The change of G made by one step (chapter 6, The session record). -/
def StepSize.size (t : StepSize) : Nat :=
  match t with
  | .coarse => 64
  | .fine => 4

/-- R40: 0 SINGLE, 1 CONTINUOUS. -/
def ScanMode.code (m : ScanMode) : Nat :=
  match m with
  | .single => 0
  | .continuous => 1

/-- R173: 0 LOCKED, 1 RELEASED. -/
def LockMode.code (m : LockMode) : Nat :=
  match m with
  | .locked => 0
  | .released => 1

/-- R172. -/
def Sign.code (s : Sign) : Nat :=
  match s with
  | .off => 0
  | .steady => 1
  | .flash => 2

/-- R172. -/
def OpeningWay.code (w : OpeningWay) : Nat :=
  match w with
  | .none => 0
  | .escapeBar => 1
  | .reverseHandle => 2
  | .neither => 3

/-- R172, R180. -/
def ObstructionCause.code (c : ObstructionCause) : Nat :=
  match c with
  | .none => 0
  | .pressure => 1
  | .mechanical => 2
  | .unknown => 3

/-- R31. -/
def EventCode.code (c : EventCode) : Nat :=
  match c with
  | .nodeStart => 1
  | .nodeReset => 2
  | .regimeChanged => 3
  | .inhibitOn => 4
  | .inhibitOff => 5
  | .clockSet => 6
  | .demandShortOn => 7
  | .demandShortOff => 8
  | .lineLost => 10
  | .lineRestored => 11
  | .alarmUp => 20
  | .alarmDown => 21
  | .sensorFault => 22
  | .sensorRecovered => 23
  | .channelReconfigured => 24
  | .calDone => 30
  | .calFailed => 31
  | .calDrift => 32
  | .calAborted => 33
  | .spanExit => 34
  | .spanTimeout => 35
  | .spanAborted => 36
  | .fanRunning => 40
  | .fanStop => 41
  | .fanReverse => 42
  | .coastTimeout => 43
  | .speedOff => 44
  | .fanTrip => 45
  | .tripCleared => 46
  | .budgetWait => 47
  | .doorState => 50
  | .breachOn => 51
  | .breachOff => 52

/-- R31: the source kind. -/
def Source.kindCode (s : Source) : Nat :=
  match s with
  | .node => 0
  | .line => 1
  | .channel _ => 2
  | .cal _ => 3
  | .fan _ => 4
  | .door _ => 5
  | .vestibule => 5

/-- R27: the source index. -/
def Source.indexCode (s : Source) : Nat :=
  match s with
  | .node => 0
  | .line => 0
  | .channel c => c.val
  | .cal c => c.val
  | .fan f => f.val
  | .door d => d.val
  | .vestibule => 2

end Sys2Proof.Machine
end

