-- ==== Sys2Proof/Machine/Ops.lean ====
section
/-! DEFINITION. The named operations over the state: reading and writing one channel, fan, door or RAU record, ages on uptime
(R21), appending to and fetching from the event queue (R28–R30), the debounces (R125, R174) and the free order of things that
fall together. -/

namespace Sys2Proof.Machine

/-! ### Reading and writing the records -/

/-- Every record of a table changed alike. -/
def each {α β : Type} {n : Nat} (g : α → β) (v : Vector α n) : Vector β n := Vector.ofFn fun i => g v[i]

/-- The channel record of channel c. -/
def State.ch (s : State) (c : ChanNo) : Channel := s.channels[c]

/-- Channel c with its record replaced. -/
def State.setCh (s : State) (c : ChanNo) (x : Channel) : State := { s with channels := s.channels.set c x }

/-- Channel c with its record changed. -/
def State.modCh (s : State) (c : ChanNo) (g : Channel → Channel) : State := s.setCh c (g (s.ch c))

/-- The fan record of fan f. -/
def State.fan (s : State) (f : FanNo) : Fan := s.fans[f]

/-- Fan f with its record replaced. -/
def State.setFan (s : State) (f : FanNo) (x : Fan) : State := { s with fans := s.fans.set f x }

/-- Fan f with its record changed. -/
def State.modFan (s : State) (f : FanNo) (g : Fan → Fan) : State := s.setFan f (g (s.fan f))

/-- The door record of door d. -/
def State.door (s : State) (d : DoorNo) : Door := s.doors[d]

/-- Door d with its record replaced. -/
def State.setDoor (s : State) (d : DoorNo) (x : Door) : State := { s with doors := s.doors.set d x }

/-- Door d with its record changed. -/
def State.modDoor (s : State) (d : DoorNo) (g : Door → Door) : State := s.setDoor d (g (s.door d))

/-- What the RAU holds for fan f. -/
def State.held (s : State) (f : FanNo) : RauFan := s.rau.fans[f]

/-- What the RAU holds for fan f, replaced. -/
def State.setHeld (s : State) (f : FanNo) (r : RauFan) : State := { s with rau := { s.rau with fans := s.rau.fans.set f r } }

/-! ### Time -/

/-- The time in ms since an uptime stamp, modulo 2^32 (R21). -/
def State.age (s : State) (t : Ms) : Nat := (s.tb.uptime - t).toNat

/-- A duration of n ms that began at t has passed (R21). -/
def State.passed (s : State) (t : Ms) (n : Nat) : Bool := n ≤ s.age t

/-- A timer that may not be running has run for n ms. -/
def State.passedOpt (s : State) (t : Option Ms) (n : Nat) : Bool :=
  match t with
  | none => false
  | some t => s.passed t n

/-- The age of a stamp has reached n ms; an expired stamp is older than any limit (R21). -/
def State.stampPassed (s : State) (t : Stamp) (n : Nat) : Bool := t.expired || s.passed t.time n

/-- A stamp taken now. -/
def State.stampNow (s : State) : Stamp := { time := s.tb.uptime, expired := false }

/-- A stamp held as expired once its age has reached 2^31 ms (R21). -/
def State.expire (s : State) (t : Stamp) : Stamp :=
  if s.passed t.time Config.stampExpiryMs then { t with expired := true } else t

/-! ### The event queue -/

/-- The oldest entry given the GAP mark (R29). -/
def markOldest (es : List Event) : List Event :=
  match es with
  | [] => []
  | e :: rest => { e with gap := true } :: rest

/-- Appending an entry: to a full queue, with the loss of the oldest (R28, R29). -/
def EventQueue.push (q : EventQueue) (e : Event) : EventQueue :=
  if q.entries.length < Config.eventCapacity then { q with entries := q.entries ++ [e] }
  else { entries := markOldest (q.entries.drop 1 ++ [e]), gapPending := true }

/-- An entry stamped with the tunnel clock and appended (R27). -/
def appendEvent (source : Source) (code : EventCode) (level : Option Nat) (value : Option Int) (s : State) : State :=
  { s with evq := s.evq.push { stamp := s.tb.clock, source, code, level, value, gap := false } }

/-- The oldest entries, up to six, removed; the pending GAP mark goes with the marked entry (R29, R30). -/
def EventQueue.fetch (q : EventQueue) : List Event × EventQueue :=
  (q.entries.take 6,
   { entries := q.entries.drop 6, gapPending := q.gapPending && !(q.entries.take 6).any (·.gap) })

/-! ### Debounced inputs -/

/-- The input takes a level: a change starts or abandons the debounce (R125, R128). -/
def Debounced.change (d : Debounced) (level : Bool) (now : Ms) : Debounced :=
  if level = d.input then d
  else { d with input := level, since := if level = d.level then none else some now }

/-- The input has stood at the other level for the debounce time. -/
def State.debounced (s : State) (d : Debounced) : Bool :=
  s.passedOpt d.since Config.inputDebounceMs && d.input != d.level

/-- The debounced level follows the input. -/
def Debounced.settle (d : Debounced) : Debounced := { d with level := d.input, since := none }

/-- At full reset the debounced level is inactive and the debounce starts (R125, R128). -/
def Debounced.restart (d : Debounced) (now : Ms) : Debounced :=
  { d with level := false, since := if d.input then some now else none }

/-- One contact of a door. -/
def Contacts.get (cs : Contacts) (c : Contact) : ContactState :=
  match c with
  | .closed => cs.closed
  | .latch => cs.latch
  | .escapeBar => cs.escapeBar
  | .reverseHandle => cs.reverseHandle
  | .lockFeedback => cs.lockFeedback

/-- One contact of a door, replaced. -/
def Contacts.set (cs : Contacts) (c : Contact) (x : ContactState) : Contacts :=
  match c with
  | .closed => { cs with closed := x }
  | .latch => { cs with latch := x }
  | .escapeBar => { cs with escapeBar := x }
  | .reverseHandle => { cs with reverseHandle := x }
  | .lockFeedback => { cs with lockFeedback := x }

/-- A contact's input takes a level (R174). A contact with no level yet starts its debounce again at every change. -/
def ContactState.change (c : ContactState) (level : Bool) (now : Ms) : ContactState :=
  if level = c.input then c
  else { c with input := level, since := if c.level = some level then none else some now }

/-- A contact's debounced level follows its input. -/
def ContactState.settle (c : ContactState) : ContactState := { c with level := some c.input, since := none }

/-- At a reset a contact loses its level and its debounce starts afresh (R174). -/
def ContactState.restart (c : ContactState) (now : Ms) : ContactState := { c with level := none, since := some now }

/-- A contact has stood at a level it does not show for the door's debounce time (R174). -/
def State.contactDue (s : State) (x : Door) (c : Contact) : Bool :=
  s.passedOpt (x.contacts.get c).since x.cfg.debounce && (x.contacts.get c).level != some (x.contacts.get c).input

/-! ### Free order -/

/-- An element put into a list at a place that the free value decides. -/
def insertFree {α : Type} (n : Nat) (x : α) (l : List α) : List α :=
  l.insertIdx (Config.freeChoice n % (l.length + 1)) x

/-- A list in an order that the free value decides, with the count of choices taken (assumption 3). A list of at most one
element takes no choice. -/
def freeOrder {α : Type} (n : Nat) (l : List α) : List α × Nat :=
  match l with
  | [] => ([], n)
  | [x] => ([x], n)
  | x :: y :: rest => (insertFree (freeOrder n (y :: rest)).2 x (freeOrder n (y :: rest)).1, (freeOrder n (y :: rest)).2 + 1)

end Sys2Proof.Machine
end

