-- ==== Sys2Proof/Machine/Pipeline.lean ====
section
/-! DEFINITION. The channel arithmetic unit: the value pipeline stage by stage (R55–R64), TRANSIENT and UNSETTLED marking, alarm
evaluation, the channel index (R68–R73) and the publish (R48). -/

namespace Sys2Proof.Machine

/-- The channel numbers, in ascending order. -/
def allChans : List ChanNo := [0, 1, 2, 3, 4, 5, 6, 7, 8, 9]

/-- The fan numbers, in ascending order. -/
def allFans : List FanNo := [0, 1, 2, 3]

/-- The door numbers, in ascending order. -/
def allDoors : List DoorNo := [0, 1]

/-! ### Kinds (R37) -/

/-- AIR VELOCITY and DIFF PRESSURE are bipolar (R37). -/
def ChanKind.bipolar (k : ChanKind) : Bool :=
  match k with
  | .airVelocity => true
  | .diffPressure => true
  | .co => false
  | .no2 => false
  | .visibility => false
  | .temperature => false
  | .general => false

/-- CO and NO2: the gas cells of stages 5 and 6 (R38, R59). -/
def ChanKind.gas (k : ChanKind) : Bool := k == .co || k == .no2

/-- CO, NO2 and VISIBILITY are calibratable, and may participate in demand (R37). -/
def ChanKind.calibratable (k : ChanKind) : Bool := k == .co || k == .no2 || k == .visibility

/-- The full scale that a full scale field of 0 selects (R37). -/
def ChanKind.defaultFs (k : ChanKind) : Nat :=
  match k with
  | .co => 3000
  | .no2 => 2000
  | .visibility => 1500
  | .airVelocity => 2000
  | .temperature => 2000
  | .diffPressure => 2000
  | .general => 4000

/-! ### The stages -/

/-- Stages 2 and 3: zero correction and polarity (R56). -/
def polarCount (cfg : ChanConfig) (w : Nat) : Int :=
  if cfg.kind.bipolar then (w : Int) - cfg.zero - 8192 else (w : Int) - cfg.zero

/-- Stage 4: E (R57). -/
def scaledValue (cfg : ChanConfig) (w : Nat) : Int :=
  roundDiv (polarCount cfg w * cfg.span * cfg.fs) (4096 * (if cfg.kind.bipolar then 8192 else 16384)) + cfg.base

/-- What a source channel gives: its F, whatever its flags, once it has published since its last restart (R60). -/
def sourceValue (s : State) (source : Option ChanNo) : Option Int :=
  match source with
  | none => none
  | some c => if (s.ch c).published then some (s.ch c).value else none

/-- Stage 5: E2 (R59). -/
def compensatedValue (cfg : ChanConfig) (t : Option Int) (e : Int) : Int :=
  match t with
  | none => e
  | some t => if cfg.kind.gas then e + roundDiv (e * cfg.tc * (t - 200)) 100000 else e

/-- Stage 6: E3 (R61). -/
def crossedValue (cfg : ChanConfig) (xv : Option Int) (e2 : Int) : Int :=
  match xv with
  | none => e2
  | some xv => e2 - roundDiv (xv * cfg.xs) 1000

/-- The lower end of a channel's range (R62). -/
def rangeLow (cfg : ChanConfig) : Int := if cfg.kind.bipolar then -(cfg.fs : Int) else cfg.base

/-- The upper end of a channel's range (R62). -/
def rangeHigh (cfg : ChanConfig) : Int := if cfg.kind.bipolar then (cfg.fs : Int) else cfg.base + cfg.fs

/-- Stage 7's input: E3 of a window sum, with the sources as they stand (R55). -/
def unlimitedValue (s : State) (c : ChanNo) (w : Nat) : Int :=
  crossedValue (s.ch c).cfg (sourceValue s (s.ch c).cfg.crossSource)
    (compensatedValue (s.ch c).cfg (sourceValue s (s.ch c).cfg.tempSource) (scaledValue (s.ch c).cfg w))

/-- Stage 7: the clamped value (R62). -/
def limitedValue (cfg : ChanConfig) (e3 : Int) : Int := clampInt (rangeLow cfg) (rangeHigh cfg) e3

/-- Stage 7: AT LIMIT says whether the clamp acted (R62). -/
def actsLimit (cfg : ChanConfig) (e3 : Int) : Bool := e3 < rangeLow cfg || rangeHigh cfg < e3

/-- Stage 8: F (R63). -/
def smoothedValue (x : Channel) (limited : Int) : Int :=
  if x.filterInit then x.value + roundDiv (limited - x.value) (2 ^ x.cfg.smoothing) else limited

/-! ### Alarm levels and the index -/

/-- The judged amount A (R68). -/
def judgedAmount (cfg : ChanConfig) (f : Int) : Int := if cfg.kind.bipolar then (f.natAbs : Int) else f

/-- "rise": the highest threshold reached (R68). -/
def riseLevel (cfg : ChanConfig) (a : Int) : Nat :=
  if (cfg.l3 : Int) ≤ a then 3 else if (cfg.l2 : Int) ≤ a then 2 else if (cfg.l1 : Int) ≤ a then 1 else 0

/-- "keep": the highest level, at or below the current one, that the hysteresis keeps (R68). -/
def keepLevel (cfg : ChanConfig) (a : Int) (level : Nat) : Nat :=
  if 3 ≤ level ∧ (cfg.l3 : Int) - cfg.hyst ≤ a then 3
  else if 2 ≤ level ∧ (cfg.l2 : Int) - cfg.hyst ≤ a then 2
  else if 1 ≤ level ∧ (cfg.l1 : Int) - cfg.hyst ≤ a then 1 else 0

/-- The new alarm level (R68). -/
def judgedLevel (cfg : ChanConfig) (f : Int) (level : Nat) : Nat :=
  max (riseLevel cfg (judgedAmount cfg f)) (keepLevel cfg (judgedAmount cfg f) level)

/-- The computed index (R71). -/
def channelIndex (cfg : ChanConfig) (f : Int) : Nat := min 250 (truncDiv (f * 100) cfg.l2).toNat

/-! ### Publishing -/

/-- A fan is in STARTING, CHANGING or COASTING (R51, R82). -/
def FanState.moving (x : FanState) : Bool :=
  match x with
  | .starting => true
  | .changing => true
  | .coasting => true
  | .stopped => false
  | .waitingBudget => false
  | .running => false
  | .tripped => false
  | .inhibited => false

/-- A fan that may not be present is in STARTING, CHANGING or COASTING. -/
def movingState (x : Option FanState) : Bool :=
  match x with
  | none => false
  | some x => x.moving

/-- Some present fan is in STARTING, CHANGING or COASTING (R51, R82). -/
def State.fansMoving (s : State) : Bool := allFans.any fun f => movingState (s.fan f).state

/-- The open session is this channel's. -/
def State.inSession (s : State) (c : ChanNo) : Bool :=
  match s.cal.span with
  | none => false
  | some sp => sp.channel == c

/-- The unsettled countdown that a publish of the channel meets (R100). -/
def State.unsettledCount (s : State) (c : ChanNo) : Nat :=
  match s.cal.span with
  | none => 0
  | some sp => if sp.channel = c then sp.countdown else 0

/-- The TRANSIENT mark of a value published now (R51). -/
def transientNow (s : State) (x : Channel) : Bool := x.cfg.fanSensitive && (s.fansMoving || 0 < x.countdown)

/-- The flags of a value published now (R48, R51, R62, R100). -/
def publishedFlags (s : State) (c : ChanNo) (w : Nat) : ValueFlags :=
  { (s.ch c).flags with
    fresh := true
    overwritten := (s.ch c).flags.overwritten || (s.ch c).flags.fresh
    transient := transientNow s (s.ch c)
    unsettled := if s.inSession c then decide (0 < s.unsettledCount c) else (s.ch c).flags.unsettled
    atLimit := actsLimit (s.ch c).cfg (unlimitedValue s c w) }

/-- The published value F of a window sum (stages 1 to 8). -/
def publishedValue (s : State) (c : ChanNo) (w : Nat) : Int :=
  smoothedValue (s.ch c) (limitedValue (s.ch c).cfg (unlimitedValue s c w))

/-- The alarm level after a publish: held under TRANSIENT, TRIM and CALIBRATING (R66, R68). -/
def publishedLevel (s : State) (c : ChanNo) (w : Nat) : Nat :=
  if transientNow s (s.ch c) || (s.ch c).flags.trim || (s.ch c).flags.calibrating then (s.ch c).level
  else judgedLevel (s.ch c).cfg (publishedValue s c w) (s.ch c).level

/-- The computed index after a publish: held under TRIM and CALIBRATING (R71, R73). -/
def publishedIndex (s : State) (c : ChanNo) (w : Nat) : Nat :=
  if (s.ch c).cfg.participates && !(s.ch c).flags.trim && !(s.ch c).flags.calibrating then
    channelIndex (s.ch c).cfg (publishedValue s c w)
  else (s.ch c).index

/-- The channel record after a publish (R48). -/
def publishedChannel (s : State) (c : ChanNo) (w : Nat) : Channel :=
  { s.ch c with
    state := .valid
    value := publishedValue s c w
    flags := publishedFlags s c w
    published := true
    filterInit := true
    level := publishedLevel s c w
    index := publishedIndex s c w
    countdown := if (s.ch c).cfg.fanSensitive then (s.ch c).countdown - 1 else (s.ch c).countdown }

/-- A publish of the session's channel lowers the unsettled countdown (R100). -/
def lowerUnsettled (c : ChanNo) (s : State) : State :=
  match s.cal.span with
  | none => s
  | some sp =>
    if sp.channel = c then { s with cal := { s.cal with span := some { sp with countdown := sp.countdown - 1 } } } else s

/-- ALARM UP or ALARM DOWN when the level has changed (R69). -/
def alarmEntry (c : ChanNo) (before after : Nat) (f : Int) (s : State) : State :=
  if before < after then appendEvent (.channel c) .alarmUp (some after) (some f) s
  else if after < before then appendEvent (.channel c) .alarmDown (some after) (some f) s
  else s

/-- The publish of a window sum (R48, R55). -/
def publish (c : ChanNo) (w : Nat) (s : State) : State :=
  alarmEntry c (s.ch c).level (publishedLevel s c w) (publishedValue s c w)
    (lowerUnsettled c (s.setCh c (publishedChannel s c w)))

/-! ### The sensor loop (R46, R47) -/

/-- A sample is faulty (R46). -/
def faultySample (cfg : ChanConfig) (x : Code) : Bool :=
  cfg.liveZero && (x.toNat < cfg.faultLow || cfg.faultHigh < x.toNat)

/-- A window holds a faulty sample (R46). -/
def faultyWindow (cfg : ChanConfig) (w : List Code) : Bool := w.any (faultySample cfg)

/-- The window sum W (R45). -/
def windowSum (w : List Code) : Nat := (w.map (·.toNat)).sum

/-- The contributed index (R72), with what goes with it (R74). -/
def contributionOf (s : State) (c : ChanNo) : Contribution :=
  { participates := (s.ch c).cfg.participates
    index := if (s.ch c).state = .sensorFault then s.rau.faultIndex else (s.ch c).index
    state := (s.ch c).state
    calibrating := (s.ch c).flags.calibrating
    trim := (s.ch c).flags.trim }

end Sys2Proof.Machine
end

