-- ==== Sys2Proof/Machine/Work.lean ====
section
/-! DEFINITION. The hand-overs between the blocks (00_scope.md, Block overview; R74, R89, R116, R124, R185): what one block still
has to tell another inside one command. A command leaves a list of them, and `cascade` (Machine/Cascade.lean) carries them out,
each before those that were already waiting, so that a hand-over made "at once" is. -/

namespace Sys2Proof.Machine

/-- One hand-over, or one act that a hand-over has asked for. -/
inductive Work where
  /-- R124: a change of a fan's state or presence goes to the CAU, the CAL and the RAU -/
  | fanMoved (f : FanNo) (before after : Option FanState)
  /-- R117: a fan that has entered STOPPED follows its stored stage -/
  | startAttempt (f : FanNo)
  /-- R116: the RAU hands a fan what it holds for it, where that has changed -/
  | handFan (f : FanNo)
  /-- R140, R146: the RAU hands a fan what it holds for it together with the regime -/
  | handRegime (f : FanNo)
  /-- R74: the CAU (or the CAL) hands a channel's contributed index, state and flags to the RAU -/
  | contribution (c : ChanNo)
  /-- R89 step 5: the CAL hands the end of a phase, with the channel's flag and index -/
  | calEnded (c : ChanNo)
  /-- R89: the next entry becomes head -/
  | nextHead
  /-- R82: the quiet test -/
  | quietTest
  /-- R124, R158: a fan's availability has changed -/
  | availability
  /-- R158: the RAU re-evaluates the allocation -/
  | reevaluate
  /-- R163: the RAU forms the effective stages anew -/
  | reform
  /-- R149: the RAU gives a fan made present in INCIDENT the role's stage and direction -/
  | giveRole (f : FanNo)
  /-- R164: the RAU evaluates DEMAND SHORT -/
  | demandShort
  /-- R166, R167, R168: the RAU grants every start due, in ascending fan number (DESIGN CHOICE, assumption 21) -/
  | grantDue
  /-- R141: the RAU grants one fan's due start -/
  | grant (f : FanNo)
deriving DecidableEq, Repr

/-- The RAU hands a fan what it holds for it. -/
def Work.handsFan (w : Work) : Bool :=
  match w with
  | .handFan _ | .handRegime _ => true
  | .fanMoved _ _ _ | .startAttempt _ | .contribution _ | .calEnded _ | .nextHead | .quietTest | .availability | .reevaluate
  | .reform | .giveRole _ | .demandShort | .grantDue | .grant _ => false

/-- What an act leaves: the state, and the hand-overs it asks for, the first first. -/
abbrev Effect := State × List Work

/-- The RAU hands every fan its changes, in ascending fan number (R144). -/
def handAll : List Work := [.handFan 0, .handFan 1, .handFan 2, .handFan 3]

/-- The RAU hands every fan the regime and what it holds for it (R146). -/
def handRegimeAll : List Work := [.handRegime 0, .handRegime 1, .handRegime 2, .handRegime 3]

end Sys2Proof.Machine
end

