-- ==== Sys2Proof/Machine/Fdu.lean ====
section
/-! DEFINITION. The fan drive units (chapters 7 and 8): the periods derived from a fan's configuration, the moves between the fan
states with the outputs each gives, the hand-over from the RAU, start attempts and the start budget, the tach and its speed loop,
the trip latch and its release. -/

namespace Sys2Proof.Machine

/-! ### Speeds as periods (R111, R113) -/

/-- The permille of a stage; 0 for stage 0. -/
def FanConfig.permille (cfg : FanConfig) (stage : Nat) : Nat :=
  match stage with
  | 0 => 0
  | 1 => cfg.stage1
  | 2 => cfg.stage2
  | _ => cfg.stage3

/-- The target period Pt of a stage, in ticks (R111). -/
def FanConfig.targetPeriod (cfg : FanConfig) (stage : Nat) : Nat :=
  roundDivNat 6000000000 (cfg.rated * cfg.permille stage * cfg.pulses)

/-- The fine band of a stage (R111). -/
def FanConfig.fineBand (cfg : FanConfig) (stage : Nat) : Nat := cfg.targetPeriod stage / 100

/-- The coarse band of a stage (R111). -/
def FanConfig.coarseBand (cfg : FanConfig) (stage : Nat) : Nat := cfg.targetPeriod stage * 8 / 100

/-- The coast threshold period Pc (R111). -/
def FanConfig.coastPeriod (cfg : FanConfig) : Nat := roundDivNat 6000000000 (cfg.rated * 100 * cfg.pulses)

/-- The feed-forward code of a stage (R111). -/
def FanConfig.feedForward (cfg : FanConfig) (stage : Nat) : Nat :=
  max cfg.minCode (roundDivNat (1023 * cfg.permille stage) 1000)

/-- "Speed above the coast threshold" (R113). -/
def aboveCoast (cfg : FanConfig) (r : Option Reading) : Bool :=
  match r with
  | none => false
  | some .saturated => false
  | some (.period p) => p < cfg.coastPeriod

/-- The distance of two periods. -/
def periodError (p q : Nat) : Nat := (p - q) + (q - p)

/-- "Within 8 % of the target" of a stage (R113). -/
def withinBand (cfg : FanConfig) (stage p : Nat) : Bool := periodError p (cfg.targetPeriod stage) ≤ cfg.coarseBand stage

/-- "At least 80 % of the target speed" of a stage (R113). -/
def atLeast80 (cfg : FanConfig) (stage : Nat) (r : Option Reading) : Bool :=
  match r with
  | none => false
  | some .saturated => false
  | some (.period p) => 4 * p ≤ 5 * cfg.targetPeriod stage

/-- The drive code after the speed loop's correction (R114). -/
def correctedDrive (cfg : FanConfig) (stage p drive : Nat) : Nat :=
  let e := periodError p (cfg.targetPeriod stage)
  let k := if e ≤ cfg.fineBand stage then 0 else if e ≤ cfg.coarseBand stage then 1 else 8
  clampNat cfg.minCode 1023 (if cfg.targetPeriod stage < p then drive + k else drive - k)

/-! ### The states and their outputs (R115) -/

/-- RUN off and drive code 0, with the watches and the waiting start of the state that ends (R115, R131). -/
def Fan.powerOff (x : Fan) : Fan := { x with run := false, drive := 0, stallSince := none, runSince := none, startDue := false }

/-- Into STOPPED (R120, R126, R133). -/
def Fan.toStopped (x : Fan) : Fan := { x.powerOff with state := some .stopped }

/-- Into WAITING BUDGET (R139). -/
def Fan.toWaiting (x : Fan) : Fan := { x.powerOff with state := some .waitingBudget }

/-- Into COASTING (R121). -/
def Fan.toCoasting (x : Fan) (now : Ms) : Fan :=
  { x.powerOff with state := some .coasting, since := now, stateReading := none, lastPeriod := none }

/-- Into INHIBITED (R126). -/
def Fan.toInhibited (x : Fan) : Fan := { x.powerOff with state := some .inhibited }

/-- The newest stamp appended to a start history; a history of 8 loses its oldest first (R138). -/
def recordStart (h : List Stamp) (t : Stamp) : List Stamp := (if 8 ≤ h.length then h.drop 1 else h) ++ [t]

/-- Into STARTING, with the start recorded (R117, R137). -/
def Fan.toStarting (x : Fan) (now : Ms) : Fan :=
  { x with
    state := some .starting, dirOut := x.reqDir, drive := x.cfg.feedForward x.effStage, run := true, since := now,
    stateReading := none, lastPeriod := none, stallSince := none, runSince := none, startDue := false,
    history := recordStart x.history { time := now, expired := false } }

/-- Into CHANGING from RUNNING (R119); the stall watch goes on (R123). -/
def Fan.toChanging (x : Fan) (now : Ms) : Fan :=
  { x with
    state := some .changing, drive := x.cfg.feedForward x.effStage, run := true, since := now, stateReading := none,
    lastPeriod := none, runSince := none }

/-- Into RUNNING from STARTING or CHANGING: from STARTING the stall watch starts (R123), and the 600 s of R135 start. -/
def Fan.toRunning (x : Fan) (now : Ms) : Fan :=
  { x with
    state := some .running, run := true, runSince := some now,
    stallSince := if x.state = some .starting then some now else x.stallSince }

/-- The retry that a set latch records as due (R134). -/
def Fan.dueRetry (x : Fan) (now : Ms) : Option RetryDue :=
  if x.cfg.retryInterval ≠ 0 ∧ x.retryCount < x.cfg.maxRetries then some { since := now, interval := x.cfg.retryInterval }
  else none

/-- Into TRIPPED with the latch set (R129, R134). -/
def Fan.toTripped (x : Fan) (cause : TripCause) (now : Ms) : Fan :=
  { x.powerOff with state := some .tripped, latch := some cause, retryDue := x.dueRetry now }

/-- A fan that is not TRIPPED, INHIBITED or absent (R158). -/
def availableState (x : Option FanState) : Bool :=
  match x with
  | none => false
  | some .tripped => false
  | some .inhibited => false
  | some .stopped => true
  | some .waitingBudget => true
  | some .starting => true
  | some .changing => true
  | some .running => true
  | some .coasting => true

/-- RUN on: STARTING, CHANGING or RUNNING (R115). -/
def poweredState (x : Option FanState) : Bool :=
  match x with
  | none => false
  | some .starting => true
  | some .changing => true
  | some .running => true
  | some .stopped => false
  | some .waitingBudget => false
  | some .coasting => false
  | some .tripped => false
  | some .inhibited => false

/-- The fan changed by a move, with the hand-over of the move (R124). -/
def moveFan (f : FanNo) (g : Fan → Fan) (s : State) : Effect :=
  (s.modFan f g, [.fanMoved f (s.fan f).state (g (s.fan f)).state])

/-- An event of one fan, before the move it stands for (R124). -/
def fanEvent (f : FanNo) (code : EventCode) (level : Option Nat) (value : Option Int) (s : State) : State :=
  appendEvent (.fan f) code level value s

/-! ### The start budget (R136–R139) -/

/-- The budget window in ms (R136). -/
def FanConfig.windowMs (cfg : FanConfig) : Nat := 60000 * cfg.window

/-- A stamp is in window (R136). -/
def State.inWindow (s : State) (cfg : FanConfig) (t : Stamp) : Bool := !s.stampPassed t cfg.windowMs

/-- The in-window stamps of a fan (R136). -/
def State.windowStamps (s : State) (f : FanNo) : List Stamp := (s.fan f).history.filter (s.inWindow (s.fan f).cfg)

/-- The seconds, rounded up, until the oldest of these stamps ages out (R139). -/
def State.waitSeconds (s : State) (cfg : FanConfig) (stamps : List Stamp) : Nat :=
  match stamps with
  | [] => 0
  | t :: _ => ceilDiv (cfg.windowMs - s.age t.time) 1000

/-- A start, made and recorded (R117, R137). -/
def makeStart (f : FanNo) (s : State) : Effect := moveFan f (·.toStarting s.tb.uptime) s

/-- A start attempt at the start budget (R137, R138, R139). -/
def budgetAttempt (f : FanNo) (s : State) : Effect :=
  let kept := s.windowStamps f
  let s1 := s.modFan f fun x => { x with history := kept }
  if s.rau.regime = .incident ∨ kept.length < (s.fan f).cfg.budget then makeStart f s1
  else moveFan f Fan.toWaiting (fanEvent f .budgetWait none (some (s.waitSeconds (s.fan f).cfg kept)) s1)

/-- A reversal into COASTING (R117, R121). -/
def reverseFan (f : FanNo) (s : State) : Effect :=
  moveFan f (·.toCoasting s.tb.uptime) (fanEvent f .fanReverse (some (s.fan f).reqDir.code) none s)

/-- FAN STOP and STOPPED (R120, R122, R140). -/
def stopFan (f : FanNo) (s : State) : Effect := moveFan f Fan.toStopped (fanEvent f .fanStop none none s)

/-- A start attempt of a fan that is STOPPED with an effective stage above 0 (R117). -/
def startAttempt (f : FanNo) (s : State) : Effect :=
  let x := s.fan f
  if x.state = some .stopped ∧ 0 < x.effStage then
    if x.reqDir ≠ x.dirOut ∧ aboveCoast x.cfg x.reading = true then reverseFan f s else budgetAttempt f s
  else (s, [])

/-! ### The hand-over from the RAU (R116) -/

/-- The three values that a hand-over stores. -/
def Fan.store (x : Fan) (r : RauFan) : Fan := { x with reqStage := r.req, effStage := r.eff, reqDir := r.dir }

/-- The fan holds what the RAU holds for it. -/
def Fan.holds (x : Fan) (r : RauFan) : Bool := x.reqStage == r.req && x.effStage == r.eff && x.reqDir == r.dir

/-- A stage change of a powered fan: RUNNING goes to CHANGING; STARTING and CHANGING load the new code, with
the readings kept (R118, R119; DEDUCED, assumption 16). -/
def changeStage (f : FanNo) (s : State) : Effect :=
  match (s.fan f).state with
  | some .running => moveFan f (·.toChanging s.tb.uptime) s
  | some .changing =>
    (s.modFan f fun x => { x with drive := x.cfg.feedForward x.effStage, since := s.tb.uptime }, [])
  | some .starting => (s.modFan f fun x => { x with drive := x.cfg.feedForward x.effStage }, [])
  | _ => (s, [])

/-- What a fan does with the stage and direction it has just stored, the effective stage before them being `eff` (R116, R140). -/
def followHandover (f : FanNo) (eff : Nat) (s : State) : Effect :=
  let x := s.fan f
  match x.state with
  | none => (s, [])
  | some .stopped => startAttempt f s
  | some .waitingBudget =>
    if x.effStage = 0 then stopFan f s else if s.rau.regime = .incident then budgetAttempt f s else (s, [])
  | some .starting | some .changing | some .running =>
    if x.effStage = 0 then stopFan f s
    else if x.reqDir ≠ x.dirOut then reverseFan f s
    else if x.effStage ≠ eff then changeStage f s
    else (s, [])
  | some .coasting => (s, [])
  | some .tripped => (s, [])
  | some .inhibited => (s, [])

/-- A hand-over of what the RAU holds for a fan (R116). -/
def receiveHandover (f : FanNo) (s : State) : Effect :=
  followHandover f (s.fan f).effStage (s.modFan f (·.store (s.held f)))

/-- A start due in WAITING BUDGET, granted (R141). -/
def grantStart (f : FanNo) (s : State) : Effect :=
  if (s.fan f).state = some .waitingBudget ∧ (s.fan f).startDue = true then makeStart f s else (s, [])

/-! ### The trip latch (R128–R133) -/

/-- The bit of a source in the trip source mask (R106). -/
def maskBit (cause : TripCause) : Nat := cause.code - 1

/-- The source is enabled. -/
def Fan.enabled (x : Fan) (cause : TripCause) : Bool := x.cfg.mask.getLsbD (maskBit cause)

/-- The level source is active; STALL is not a level (R128). -/
def Fan.sourceLevel (x : Fan) (cause : TripCause) : Bool :=
  match cause with
  | .overcurrent => x.overcurrent
  | .vibration => x.vibration.level
  | .driveFault => x.driveFault.level
  | .stall => false

/-- The enabled level sources that are active. -/
def Fan.activeSources (x : Fan) : List TripCause :=
  [TripCause.overcurrent, .vibration, .driveFault].filter fun c => x.enabled c && x.sourceLevel c

/-- Setting the latch of a present fan whose latch is clear (R129, R130). -/
def tripFan (f : FanNo) (cause : TripCause) (s : State) : Effect :=
  if (s.fan f).state.isSome ∧ (s.fan f).latch = none then
    moveFan f (·.toTripped cause s.tb.uptime) (fanEvent f .fanTrip (some cause.code) none s)
  else (s, [])

/-- STALL raised: it sets the latch while it is enabled (R118, R123, R129). -/
def raiseStall (f : FanNo) (s : State) : Effect :=
  if (s.fan f).enabled .stall then tripFan f .stall s else (s, [])

/-- An enabled level source that has just become active sets the latch (R129). -/
def sourceActive (f : FanNo) (cause : TripCause) (s : State) : Effect :=
  if (s.fan f).enabled cause && (s.fan f).sourceLevel cause then tripFan f cause s else (s, [])

/-- The state a fan is released into, by the debounced OUTPUT INHIBIT (R133, R109). -/
def Fan.releasedTo (x : Fan) (inhibited : Bool) : Fan := if inhibited then x.toInhibited else x.toStopped

/-- A released fan, which follows its stored stage from STOPPED (R133). -/
def releaseFan (f : FanNo) (s : State) : Effect :=
  let m := moveFan f (·.releasedTo s.inhibit.level) s
  (m.1, m.2 ++ [.startAttempt f])

/-- The latch cleared, with the retry count it leaves and no retry due (R132, R134). -/
def Fan.clearLatch (x : Fan) (count : Nat) : Fan := { x with latch := none, retryDue := none, retryCount := count }

/-- A clearing with its TRIP CLEARED entry and the release (R132, R134). -/
def clearTrip (f : FanNo) (level count : Nat) (s : State) : Effect :=
  releaseFan f (fanEvent f .tripCleared (some level) (some count) (s.modFan f (·.clearLatch count)))

/-! ### The tach (R112) -/

/-- A completed measurement becomes the reading, and that of the present state (R112, R113). -/
def Fan.measured (x : Fan) (r : Reading) : Fan :=
  { x with reading := some r, stateReading := some r,
           lastPeriod := match r with | .period p => some p | .saturated => x.lastPeriod }

/-- The end of COASTING (R122). -/
def endCoast (f : FanNo) (s : State) : Effect := if 0 < (s.fan f).effStage then budgetAttempt f s else stopFan f s

/-- A saturated measurement, which ends COASTING (R112, R122). -/
def saturate (f : FanNo) (s : State) : Effect :=
  let s1 := s.modFan f fun x => { x.measured .saturated with tachCount := none }
  if (s.fan f).state = some .coasting then endCoast f s1 else (s1, [])

/-- The speed loop and the stall watch at an unsaturated measurement (R114, R123). -/
def Fan.regulated (x : Fan) (p : Nat) (now : Ms) : Fan :=
  { x with
    drive := if poweredState x.state then correctedDrive x.cfg x.effStage p x.drive else x.drive
    stallSince := if x.state = some .running ∨ x.state = some .changing then some now else x.stallSince }

/-- FAN RUNNING and RUNNING (R118, R119). -/
def reachSpeed (f : FanNo) (p : Nat) (s : State) : Effect :=
  moveFan f (·.toRunning s.tb.uptime) (fanEvent f .fanRunning (some (s.fan f).effStage) (some p) s)

/-- The end tests of the fan's state at an unsaturated measurement (R118, R119, R122). -/
def endTests (f : FanNo) (p : Nat) (s : State) : Effect :=
  let x := s.fan f
  match x.state with
  | some .starting | some .changing => if withinBand x.cfg x.effStage p then reachSpeed f p s else (s, [])
  | some .coasting => if x.cfg.coastPeriod ≤ p then endCoast f s else (s, [])
  | _ => (s, [])

/-- An unsaturated measurement: the reading, the speed loop, then the end tests (R112, R114). -/
def measure (f : FanNo) (p : Nat) (s : State) : Effect :=
  endTests f p (s.modFan f fun x => { (x.measured (.period p)).regulated p s.tb.uptime with tachCount := some 0 })

/-- A rising edge of the tach input (R112). A count that has already reached 65535 completes its saturated measurement first. -/
def risingEdge (f : FanNo) (s : State) : Effect :=
  match (s.fan f).tachCount with
  | none => (s.modFan f fun x => { x with tachCount := some 0 }, [])
  | some n =>
    if n < Config.tachSaturated then measure f (max 1 n) s
    else
      let m := saturate f s
      (m.1.modFan f fun x => { x with tachCount := some 0 }, m.2)

/-- RUNNING with SPEED OFF at a timeout (R118, R119). -/
def speedOff (f : FanNo) (s : State) : Effect :=
  moveFan f (·.toRunning s.tb.uptime)
    (fanEvent f .speedOff (some (s.fan f).effStage) (some ((s.fan f).lastPeriod.getD 65535)) s)

end Sys2Proof.Machine
end

