-- ==== Sys2Proof/Machine/Allocation.lean ====
section
/-! DEFINITION. The regime and allocation unit (chapter 9): the niche index and the demand, the ranking and the split of the demand
over the fans, the auto hold and the calibration deferral, the door cap and DEMAND SHORT. -/

namespace Sys2Proof.Machine

/-! ### The niche index and the demand (R154, R156, R157) -/

/-- The index with which a channel counts; a channel that does not count gives 0 (R154). -/
def Contribution.counts (k : Contribution) : Nat :=
  if k.participates && (k.state == .valid || k.state == .sensorFault) then k.index else 0

/-- The niche index Imax (R154). -/
def State.nicheIndex (s : State) : Nat := (s.rau.contrib.toList.map (·.counts)).foldl max 0

/-- Among the steps numbered from `n`, the highest whose threshold less the margin is at or below the index, and no higher than
`top`; 0 when there is none (R156). -/
def highestStep (steps : List DemandStep) (margin index top : Nat) (n : Nat) : Nat :=
  match steps with
  | [] => 0
  | st :: rest =>
    max (if n ≤ top ∧ st.threshold ≤ index + margin then n else 0) (highestStep rest margin index top (n + 1))

/-- The current step selected anew (R156). -/
def selectedStep (r : Rau) (imax current : Nat) : Nat :=
  max (highestStep r.steps 0 imax r.steps.length 1) (highestStep r.steps r.dh imax current 1)

/-- The thrust of a step; 0 for none. -/
def Rau.thrustOf (r : Rau) (step : Nat) : Nat :=
  match step with
  | 0 => 0
  | n + 1 => match r.steps[n]? with | none => 0 | some st => st.thrust

/-- The sought demand computed from the current step and the floor; outside AUTO, D takes it at once (R157). -/
def seekDemand (s : State) : State :=
  let sought := max (s.rau.thrustOf s.rau.step) s.rau.floor
  { s with rau := { s.rau with sought := sought, demand := if s.rau.regime = .auto then s.rau.demand else sought } }

/-- Imax recomputed, the step selected and the sought demand computed (R154, R156, R157). -/
def recomputeDemand (s : State) : State :=
  let imax := s.nicheIndex
  seekDemand { s with rau := { s.rau with imax := imax, step := selectedStep s.rau imax s.rau.step } }

/-! ### Allocation (R158–R161) -/

/-- A present fan that is neither TRIPPED nor INHIBITED (R158). -/
def State.available (s : State) (f : FanNo) : Bool := availableState (s.fan f).state

/-- The class of an available fan in the ranking (R159). -/
def State.rankClass (s : State) (f : FanNo) : Nat :=
  if poweredState (s.fan f).state && (s.fan f).dirOut == s.rau.autoDir then 1
  else if (s.windowStamps f).length < (s.fan f).cfg.budget then 2 else 3

/-- The order of two fans inside the ranking: class, then (in classes 2 and 3) in-window stamps, then fan number (R159). -/
def State.rankedBefore (s : State) (f g : FanNo) : Bool :=
  if s.rankClass f ≠ s.rankClass g then s.rankClass f < s.rankClass g
  else if s.rankClass f = 1 then f ≤ g
  else if (s.windowStamps f).length ≠ (s.windowStamps g).length then
    (s.windowStamps f).length < (s.windowStamps g).length
  else f ≤ g

/-- A fan put into a ranking, before the first fan that it precedes. -/
def insertRanked (s : State) (f : FanNo) (l : List FanNo) : List FanNo :=
  match l with
  | [] => [f]
  | g :: rest => if s.rankedBefore f g then f :: g :: rest else g :: insertRanked s f rest

/-- The available fans in ranking order (R159). -/
def State.ranking (s : State) : List FanNo := (allFans.filter s.available).foldr (insertRanked s) []

/-- The stage of the fan at a place of the ranking, for a demand to be served over so many available fans (R160). -/
def splitStage (demand available place : Nat) : Nat :=
  let dm := min demand (3 * available)
  let n := ceilDiv dm 3
  if place < n then dm / n + (if place < dm % n then 1 else 0) else 0

/-- The stage that the allocation of a demand gives a fan (R160). -/
def State.allocatedStage (s : State) (demand : Nat) (f : FanNo) : Nat :=
  match s.ranking.idxOf? f with
  | none => 0
  | some place => splitStage demand s.ranking.length place

/-- The allocation of a demand would change a fan's requested stage or direction (R161, R165). -/
def State.allocationChanges (s : State) (demand : Nat) : Bool :=
  allFans.any fun f => (s.held f).req != s.allocatedStage demand f || (s.held f).dir != s.rau.autoDir

/-! ### The door cap (R163) -/

/-- The door cap limits the effective stages. -/
def Rau.capped (r : Rau) : Bool := r.doorOpen && (r.regime != .incident || r.respectCap)

/-- The effective stage that a requested stage gives (R163). -/
def Rau.effective (r : Rau) (req : Nat) : Nat := if r.capped then min req r.doorCap else req

/-- The effective stage of every fan formed anew (R163). -/
def formEffective (s : State) : State :=
  { s with rau := { s.rau with fans := each (fun r : RauFan => { r with eff := s.rau.effective r.req }) s.rau.fans } }

/-- Every fan's requested stage and direction set, and the effective stages formed. -/
def setRequests (g : FanNo → RauFan → RauFan) (s : State) : State :=
  formEffective { s with rau := { s.rau with fans := Vector.ofFn fun f => g f (s.held f) } }

/-- The allocation of a demand put in force in the RAU's record (R161). -/
def applyAllocation (demand : Nat) (s : State) : State :=
  setRequests (fun f r => { r with req := s.allocatedStage demand f, dir := s.rau.autoDir })
    { s with rau := { s.rau with
        lastChange := if s.allocationChanges demand then some s.stampNow else s.rau.lastChange } }

/-! ### Hold, deferral and urgency (R162, R165, R166) -/

/-- The auto hold has passed since the last-change time (R162). -/
def State.holdPassed (s : State) : Bool :=
  match s.rau.lastChange with
  | none => true
  | some t => s.stampPassed t (1000 * s.rau.autoHold)

/-- The head is PURGING or ACCUMULATING. -/
def CalPhase.airOn (p : CalPhase) : Bool :=
  match p with
  | .purging => true
  | .accumulating => true
  | .none => false
  | .waitingQuiet => false

/-- The calibration deferral holds (R165). -/
def State.deferral (s : State) : Bool := s.rau.regime == .auto && s.cal.phase.airOn

/-- The current step is urgent (R166). -/
def State.urgent (s : State) : Bool :=
  match s.rau.step with
  | 0 => false
  | n + 1 => match s.rau.steps[n]? with | none => false | some st => s.rau.urgentIndex ≤ st.threshold

/-- The deferral holds a change back (R165, R166). -/
def State.heldBack (s : State) : Bool := s.deferral && !s.urgent

/-- The demand in force, with the fall-waiting mark (R157, R162). -/
def setDemandInForce (demand : Nat) (waiting : Bool) (s : State) : State :=
  { s with rau := { s.rau with demand := demand, fallWaiting := waiting } }

/-- What follows every re-evaluation: DEMAND SHORT (R164), then the starts that may be granted (R166, R167). -/
def afterAllocation : List Work := [.demandShort, .grantDue]

/-- The allocation of a demand applied, with the hand-overs to the fans (R161). -/
def applied (demand : Nat) (s : State) : Effect := (applyAllocation demand s, handAll ++ afterAllocation)

/-- The RAU re-evaluates the allocation (R158, R162, R165). -/
def reevaluate (s : State) : Effect :=
  if s.rau.regime ≠ .auto then (s, [])
  else if s.rau.demand ≤ s.rau.sought then
    let s1 := setDemandInForce s.rau.sought false s
    if s1.allocationChanges s.rau.sought && !s.heldBack then applied s.rau.sought s1 else (s1, afterAllocation)
  else if s.holdPassed then
    if !s.allocationChanges s.rau.sought then (setDemandInForce s.rau.sought false s, afterAllocation)
    else if s.heldBack then (s, afterAllocation)
    else applied s.rau.sought (setDemandInForce s.rau.sought false s)
  else
    let s1 := setDemandInForce s.rau.demand true s
    if s1.allocationChanges s.rau.demand && !s.heldBack then applied s.rau.demand s1 else (s1, afterAllocation)

/-! ### DEMAND SHORT (R164) -/

/-- The delivered thrust: the effective stages of the available fans. -/
def State.delivered (s : State) : Nat := ((allFans.filter s.available).map fun f => (s.held f).eff).sum

/-- The present fans. -/
def State.presentFans (s : State) : List FanNo := allFans.filter fun f => (s.fan f).state.isSome

/-- The thrust sought in AUTO and INCIDENT; none in MANUAL. -/
def State.thrustSought (s : State) : Nat :=
  match s.rau.regime with
  | .manual => 0
  | .auto => s.rau.demand
  | .incident => (s.presentFans.map fun f => (s.held f).req).sum

/-- DEMAND SHORT evaluated (R164). -/
def evaluateShort (s : State) : State :=
  if s.delivered < s.thrustSought then
    if s.rau.short then s
    else appendEvent .node .demandShortOn none (some ((s.thrustSought - s.delivered : Nat) : Int))
      { s with rau := { s.rau with short := true } }
  else if s.rau.short then
    appendEvent .node .demandShortOff none none { s with rau := { s.rau with short := false } }
  else s

/-! ### The incident role (R149) -/

/-- The requested stage that the role gives a present fan (R149). -/
def Rau.roleStage (r : Rau) : Nat := if r.role = some .fireZone then 0 else r.incStage

/-- What the role gives a fan that is present, or not (R149). -/
def Rau.roleRequest (r : Rau) (present : Bool) (x : RauFan) : RauFan :=
  if present then { x with req := r.roleStage, dir := r.incDir } else { x with req := 0 }

/-- A fan made present in INCIDENT is given the role's stage and direction (R149). -/
def giveRole (f : FanNo) (s : State) : Effect :=
  if s.rau.regime = .incident ∧ (s.fan f).state.isSome then
    (formEffective (s.setHeld f (s.rau.roleRequest true (s.held f))), [.handFan f, .demandShort])
  else (s, [])

/-- The RAU may grant due starts now (R141, R168). -/
def State.mayGrant (s : State) : Bool :=
  match s.rau.regime with
  | .manual => true
  | .auto => !s.heldBack
  | .incident => false

/-- The RAU takes what the CAU or CAL hands of a channel (R74, R154). -/
def takeContribution (c : ChanNo) (s : State) : State :=
  recomputeDemand { s with rau := { s.rau with contrib := s.rau.contrib.set c (contributionOf s c) } }

/-- A hand-over from the CAU: the demand recomputed and, in AUTO, the allocation re-evaluated (R154, R158). -/
def receiveContribution (c : ChanNo) (s : State) : Effect :=
  (takeContribution c s, if s.rau.regime = .auto then [.reevaluate] else [])

/-- The CAL hands the end of a phase, with the channel's flag where the channel participates (R89 step 5, R167;
DEDUCED, assumption 11). -/
def receiveCalEnd (c : ChanNo) (s : State) : Effect :=
  (if (s.ch c).cfg.participates then takeContribution c s else s, if s.rau.regime = .auto then [.reevaluate] else [])

/-- The CAU hands a channel to the RAU only where it participates (R74). -/
def contributes (s : State) (c : ChanNo) : List Work := if (s.ch c).cfg.participates then [.contribution c] else []

end Sys2Proof.Machine
end

