-- ==== Sys2Proof/Machine/Calibrate.lean ====
section
/-! DEFINITION. The calibration unit (chapters 5 and 6): the queue and its head's phases, results and aborts, and the ending of a
span session. -/

namespace Sys2Proof.Machine

/-! ### The queue (R76) -/

/-- The head of the calibration queue. -/
def Cal.head (k : Cal) : Option CalEntry := k.queue.head?

/-- The channel has an entry in the queue, in any position. -/
def Cal.queued (k : Cal) (c : ChanNo) : Bool := k.queue.any (·.channel == c)

/-- The channel is the head and its phase is PURGING or ACCUMULATING. -/
def Cal.inPhase (k : Cal) (c : ChanNo) (p : CalPhase) : Bool :=
  match k.head with
  | none => false
  | some e => e.channel == c && k.phase == p

/-- The causes of CAL ABORTED (R31). -/
inductive AbortCause where
  | cancelled
  | quietLost
  | noSamples
  | incident
deriving DecidableEq, Repr

/-- R31. -/
def AbortCause.code (a : AbortCause) : Nat :=
  match a with
  | .cancelled => 1
  | .quietLost => 2
  | .noSamples => 3
  | .incident => 4

/-- A CAL ABORTED entry; its value says whether the entry was re-queued. -/
def abortEntry (c : ChanNo) (a : AbortCause) (requeued : Bool) (s : State) : State :=
  appendEvent (.cal c) .calAborted (some a.code) (some (if requeued then 1 else 0)) s

/-! ### Phases (R82–R84) -/

/-- The purge time of an entry, s (R83). -/
def ChanConfig.purgeTime (cfg : ChanConfig) (t : CalType) : Nat :=
  match t with
  | .long => cfg.longPurge
  | .short => cfg.shortPurge

/-- The CALIBRATING flag of a channel. -/
def Channel.setCalibrating (x : Channel) (b : Bool) : Channel := { x with flags := { x.flags with calibrating := b } }

/-- PURGING entry (R83). -/
def enterPurging (e : CalEntry) (s : State) : State :=
  { s.modCh e.channel (·.setCalibrating true) with
    cal := { s.cal with
      phase := .purging, headSelect := e.channel, valve := true, purgeStart := s.tb.uptime,
      purgeTime := (s.ch e.channel).cfg.purgeTime e.type } }

/-- The quiet test of a head in WAITING QUIET (R82). -/
def quietTest (s : State) : Effect :=
  match s.cal.head with
  | none => (s, [])
  | some e =>
    if s.cal.phase = .waitingQuiet ∧ s.fansMoving = false then
      (enterPurging e s, contributes s e.channel)
    else (s, [])

/-- The next entry becomes head and enters WAITING QUIET (R82, R89). -/
def nextHead (s : State) : Effect :=
  match s.cal.head with
  | none => (s, [])
  | some _ =>
    if s.cal.phase = .none then ({ s with cal := { s.cal with phase := .waitingQuiet } }, [.quietTest]) else (s, [])

/-- ACCUMULATING entry (R84). -/
def enterAccumulating (s : State) : State :=
  { s with cal := { s.cal with phase := .accumulating, received := 0, total := 0, lastSum := s.tb.uptime } }

/-- An accepted entry joins the queue at its tail, and is head at once where the queue was empty (R79). -/
def enqueue (c : ChanNo) (t : CalType) (s : State) : Effect :=
  ({ s with cal := { s.cal with queue := s.cal.queue ++ [{ channel := c, type := t, retried := false }] } },
   if s.cal.queue.isEmpty then [.nextHead] else [])

/-! ### Endings (R89) -/

/-- Steps 1 to 3 of an ending: VALVE closes, CALIBRATING clears and the filter is uninitialised. -/
def closeCalibration (c : ChanNo) (s : State) : State :=
  { s.modCh c fun x => { x.setCalibrating false with filterInit := false } with
    cal := { s.cal with phase := .none, valve := false } }

/-- Step 4: the head leaves the queue, to its tail where it is re-queued. -/
def dropHead (requeued : List CalEntry) (s : State) : State :=
  { s with cal := { s.cal with queue := s.cal.queue.drop 1 ++ requeued } }

/-- Steps 1 to 4 of an ending, with step 5 and the next head to follow (R89). -/
def endCalibration (c : ChanNo) (requeued : List CalEntry) (s : State) : Effect :=
  (dropHead requeued (closeCalibration c s), [.calEnded c, .nextHead])

/-- QUIET LOST: a fan's transition aborts a head in PURGING or ACCUMULATING (R90). -/
def quietLost (s : State) : Effect :=
  match s.cal.head with
  | none => (s, [])
  | some e =>
    if s.cal.phase.airOn then
      endCalibration e.channel (if e.retried then [] else [{ e with retried := true }])
        (abortEntry e.channel .quietLost (!e.retried) s)
    else (s, [])

/-- An abort that removes the head (R81, R91). -/
def abortHead (e : CalEntry) (a : AbortCause) (s : State) : Effect :=
  endCalibration e.channel [] (abortEntry e.channel a false s)

/-- A head in WAITING QUIET is removed: there is nothing to undo (R81, R89). -/
def removeWaiting (e : CalEntry) (s : State) : Effect :=
  let s1 := dropHead [] (abortEntry e.channel .cancelled false s)
  ({ s1 with cal := { s1.cal with phase := .none } }, [.nextHead])

/-! ### Results (R85–R88) -/

/-- The number N of window sums of an entry (R85). -/
def CalType.sums (t : CalType) : Nat :=
  match t with
  | .long => 16
  | .short => 4

/-- The target zero offset (R86). -/
def targetZero (total : Nat) (t : CalType) : Nat := roundDivNat total t.sums

/-- The new zero offset of a channel. -/
def setZero (c : ChanNo) (z : Int) (s : State) : State := s.modCh c fun x => { x with cfg := { x.cfg with zero := z } }

/-- A CAL entry that carries a value. -/
def calEntry (c : ChanNo) (code : EventCode) (v : Int) (s : State) : State := appendEvent (.cal c) code none (some v) s

/-- The result of a LONG entry (R87). -/
def longResult (c : ChanNo) (zt : Nat) (s : State) : State :=
  if zt ≤ 4095 then
    calEntry c .calDone zt
      { setZero c zt s with cal := { s.cal with longDone := s.cal.longDone.set c true } }
  else calEntry c .calFailed zt s

/-- The result of a SHORT entry (R88). -/
def shortResult (c : ChanNo) (zt : Nat) (s : State) : State :=
  let z := (s.ch c).cfg.zero
  let lim : Int := (s.ch c).cfg.trimLimit
  let d : Int := (zt : Int) - z
  if 4095 < zt then calEntry c .calFailed zt s
  else if (d.natAbs : Int) ≤ lim then calEntry c .calDone zt (setZero c zt s)
  else
    let z' := if 0 < d then z + lim else z - lim
    calEntry c .calDone z' (calEntry c .calDrift d (setZero c z' s))

/-- The head finishes with the total it has received (R86, R89). -/
def finishCalibration (e : CalEntry) (total : Nat) (s : State) : Effect :=
  endCalibration e.channel []
    (match e.type with
     | .long => longResult e.channel (targetZero total .long) s
     | .short => shortResult e.channel (targetZero total .short) s)

/-- A good window sum of the head in ACCUMULATING (R85). -/
def receiveSum (e : CalEntry) (w : Nat) (s : State) : Effect :=
  let total := s.cal.total + w
  let s1 := { s with cal := { s.cal with received := s.cal.received + 1, total := total, lastSum := s.tb.uptime } }
  if e.type.sums ≤ s.cal.received + 1 then finishCalibration e total s1 else (s1, [])

/-! ### Span sessions (R94, R101) -/

/-- The span factor of a channel. -/
def setSpan (c : ChanNo) (g : Nat) (s : State) : State := s.modCh c fun x => { x with cfg := { x.cfg with span := g } }

/-- TRIM of a channel, with UNSETTLED cleared. -/
def Channel.setTrim (x : Channel) (b : Bool) : Channel := { x with flags := { x.flags with trim := b, unsettled := false } }

/-- The ending of a session that leaves span factor g in force (R101). -/
def endSession (sp : SpanSession) (code : EventCode) (g : Nat) (s : State) : Effect :=
  let s1 := (setSpan sp.channel g s).modCh sp.channel (·.setTrim false)
  let s2 := calEntry sp.channel code g s1
  ({ s2 with cal := { s2.cal with span := none } }, contributes s sp.channel)

/-- A new span factor for the session's channel, kept in both places (R94), with the countdown loaded (R100) and the
last-request time set (R98, R99). -/
def writeSpan (sp : SpanSession) (g : Nat) (s : State) : State :=
  { setSpan sp.channel g s with
    cal := { s.cal with span := some { sp with currentG := g, countdown := 2, lastRequest := s.tb.uptime } } }

/-- The calibration work of a node entering INCIDENT (R92): the abort, the steps 1 to 3 of a head in phase, the emptied queue. -/
def clearForIncident (s : State) : State :=
  match s.cal.head with
  | none => s
  | some e =>
    let s1 := abortEntry e.channel .incident false s
    let s2 := if s.cal.phase.airOn then closeCalibration e.channel s1 else s1
    { s2 with cal := { s2.cal with queue := [], phase := .none } }

end Sys2Proof.Machine
end

