-- ==== Sys2Proof/Machine/Cascade.lean ====
section
/-! DEFINITION. The hand-overs carried out: `perform` does one, and `cascade` does them in order, those that one asks for before
those that were waiting. A cascade ends: `Work.weight` and `Cal.potential` bound it (assumption 6), and `run` gives it that bound
as its fuel. -/

namespace Sys2Proof.Machine

/-! ### The change of a fan's state (R52, R90, R124) -/

/-- The change loads the settle-window countdowns (R52). -/
def loadsCountdown (before after : Option FanState) : Bool :=
  before != after &&
    (movingState before || after == some .tripped || after == some .inhibited)

/-- The countdown of every fan-sensitive channel that is not DISABLED is loaded (R52). -/
def Channel.loadCountdown (x : Channel) : Channel :=
  if x.cfg.fanSensitive && x.state != .disabled then { x with countdown := x.cfg.settleWindows } else x

/-- The load of R52. -/
def loadCountdowns (s : State) : State := { s with channels := each Channel.loadCountdown s.channels }

/-- The change aborts a calibration in PURGING or ACCUMULATING (R90). -/
def disturbs (before after : Option FanState) : Bool :=
  before != after && (movingState after || after == some .tripped || after == some .inhibited)

/-- The CAL's part of a fan's change: an abort, or the quiet test of a fan that has left a transition (R82, R90). -/
def calHears (before after : Option FanState) (s : State) : Effect :=
  if disturbs before after && s.cal.phase.airOn then quietLost s
  else (s, if movingState before && before != after then [.quietTest] else [])

/-- The RAU's part: a change of availability or of presence (R124, R158). -/
def rauHears (before after : Option FanState) : List Work :=
  if availableState before != availableState after || before.isSome != after.isSome then [.availability] else []

/-- A fan's change handed to the CAU, the CAL and the RAU (R124), in this order (DEDUCED, assumption 10). -/
def fanMoved (before after : Option FanState) (s : State) : Effect :=
  let s1 := if loadsCountdown before after then loadCountdowns s else s
  let m := calHears before after s1
  (m.1, m.2 ++ rauHears before after)

/-! ### Performing one hand-over -/

/-- One hand-over carried out: the state it leaves and the hand-overs it asks for. DESIGN CHOICE (assumption 21): where
several starts are due at one release, they are granted in ascending fan number; R141 and R168 give no order. -/
def perform (w : Work) (s : State) : Effect :=
  match w with
  | .fanMoved _ before after => fanMoved before after s
  | .startAttempt f => startAttempt f s
  | .handFan f => if (s.fan f).holds (s.held f) then (s, []) else receiveHandover f s
  | .handRegime f => receiveHandover f s
  | .contribution c => receiveContribution c s
  | .calEnded c => receiveCalEnd c s
  | .nextHead => nextHead s
  | .quietTest => quietTest s
  | .availability => (s, if s.rau.regime = .auto then [.reevaluate] else [.demandShort])
  | .reevaluate => reevaluate s
  | .reform => (formEffective s, handAll ++ [.demandShort])
  | .giveRole f => giveRole f s
  | .demandShort => (evaluateShort s, [])
  | .grantDue => (s, if s.mayGrant then [.grant 0, .grant 1, .grant 2, .grant 3] else [])
  | .grant f => grantStart f s

/-- DEMAND SHORT is not evaluated while fans of the same change still wait for their hand-overs: every such list of hand-overs
ends with an evaluation of its own, so that a DEMAND SHORT entry stands after the fans' entries (R146, R164; DEDUCED,
assumption 23). -/
def Work.postponed (w : Work) (rest : List Work) : Bool := w == .demandShort && rest.any Work.handsFan

/-- Hand-overs carried out in order, at most n of them; the second part is what is left when n is spent. -/
def cascade (n : Nat) (ws : List Work) (s : State) : State × List Work :=
  match n, ws with
  | _, [] => (s, [])
  | 0, w :: rest => (s, w :: rest)
  | n + 1, w :: rest =>
    if w.postponed rest then cascade n rest s else cascade n ((perform w s).2 ++ rest) (perform w s).1

/-! ### The bound of a cascade -/

/-- How many hand-overs one can lead to, beside those that the calibration queue pays for. -/
def Work.weight (w : Work) : Nat :=
  match w with
  | .fanMoved _ before after =>
    if availableState before != availableState after || before.isSome != after.isSome then 40 else 3
  | .startAttempt _ => 4
  | .handFan _ => 4
  | .handRegime _ => 4
  | .contribution _ => 36
  | .calEnded _ => 36
  | .nextHead => 2
  | .quietTest => 1
  | .availability => 36
  | .reevaluate => 35
  | .reform => 18
  | .giveRole _ => 6
  | .demandShort => 1
  | .grantDue => 17
  | .grant _ => 4

/-- What an entry of the queue can still lead to: two aborts, or one once it has been given up. -/
def CalEntry.potential (e : CalEntry) : Nat := if e.retried then 150 else 300

/-- What the calibration unit can still lead to. -/
def Cal.potential (k : Cal) : Nat := (k.queue.map (·.potential)).sum + if k.phase.airOn then 0 else 60

/-- A bound on the hand-overs of a cascade. -/
def cascadeFuel (ws : List Work) (s : State) : Nat := (ws.map (·.weight)).sum + s.cal.potential

/-- The hand-overs of a command carried out to their end. -/
def run (ws : List Work) (s : State) : State := (cascade (cascadeFuel ws s) ws s).1

/-- An act followed by the hand-overs it asks for. -/
def runEffect (e : Effect) : State := run e.2 e.1

end Sys2Proof.Machine
end

