-- ==== Sys2Proof/Machine/Doors.lean ====
section
/-! DEFINITION. The door supervisors and the vestibule logic (chapter 10): the door states and the opening episode, the fault
conditions, the lock drive and the exit sign, the vestibule breach and the buzzer. -/

namespace Sys2Proof.Machine

/-! ### Levels and states -/

/-- A contact shows its active level. -/
def Door.shows (x : Door) (c : Contact) : Bool := (x.contacts.get c).level == some true

/-- A contact shows its inactive level. -/
def Door.showsNot (x : Door) (c : Contact) : Bool := (x.contacts.get c).level == some false

/-- Every contact has a level: the debounce since the last reset has completed for the door (R174). -/
def Contacts.complete (cs : Contacts) : Bool :=
  cs.closed.level.isSome && cs.latch.level.isSome && cs.escapeBar.level.isSome && cs.reverseHandle.level.isSome &&
    cs.lockFeedback.level.isSome

/-- OPEN, HELD OPEN or FORCED (R163, R188). -/
def openDoor (x : Option DoorState) : Bool :=
  match x with
  | some .opened => true
  | some .heldOpen => true
  | some .forced => true
  | _ => false

/-- HELD OPEN or FORCED (R189). -/
def buzzingDoor (x : Option DoorState) : Bool :=
  match x with
  | some .heldOpen => true
  | some .forced => true
  | _ => false

/-! ### The vestibule (R188, R189) -/

/-- Both doors are present and stand open (R188). -/
def State.bothOpen (s : State) : Bool := openDoor (s.door 0).state && openDoor (s.door 1).state

/-- The buzzer condition (R189). -/
def State.buzzerCondition (s : State) : Bool :=
  buzzingDoor (s.door 0).state || buzzingDoor (s.door 1).state || s.vestibule.breach

/-- The silenced flag cleared when the condition has ended, and the buzzer output (R189). -/
def updateBuzzer (s : State) : State :=
  let silenced := s.vestibule.silenced && s.buzzerCondition
  { s with vestibule := { s.vestibule with
      silenced := silenced, buzzer := s.buzzerCondition && s.rau.regime != .incident && !silenced } }

/-- VESTIBULE BREACH evaluated, with its entry (R188). -/
def evaluateBreach (s : State) : State :=
  if s.bothOpen = s.vestibule.breach then s
  else if s.bothOpen then
    appendEvent .vestibule .breachOn none none { s with vestibule := { s.vestibule with breach := true } }
  else appendEvent .vestibule .breachOff none none { s with vestibule := { s.vestibule with breach := false } }

/-- The door open condition kept by the RAU (R163). -/
def noteDoorOpen (s : State) : State :=
  { s with rau := { s.rau with doorOpen := openDoor (s.door 0).state || openDoor (s.door 1).state } }

/-- A change of a door's state or presence handed to the vestibule logic and to the RAU (R185). -/
def handDoor (s : State) : State := noteDoorOpen (updateBuzzer (evaluateBreach s))

/-- DOOR STATE for the state the door has entered, then the hand-overs (R185). -/
def doorChanged (d : DoorNo) (value : Option Int) (s : State) : State :=
  handDoor (appendEvent (.door d) .doorState (some (doorStateCode (s.door d).state)) value s)

/-! ### The moves between the states (R176–R184) -/

/-- The opening episode, the measurement and the door's timers of OPEN and UNLATCHED ended. -/
def Door.endEpisode (x : Door) : Door := { x with episode := .none, armed := none, openSince := none, barSince := none }

/-- Into SECURED or FREE by the lock feedback (R177). -/
def Door.toClosed (x : Door) : Door :=
  { x.endEpisode with state := some (if x.shows .lockFeedback then .secured else .free) }

/-- Into UNLATCHED from SECURED or FREE: a new episode, its measurement armed (R177). -/
def Door.toUnlatchedArmed (x : Door) (now : Ms) : Door :=
  { x.endEpisode with
    state := some .unlatched
    episode := if x.state = some .secured then .secured else .free
    armed := some { time := now, expired := false }
    barSeen := x.shows .escapeBar
    handleSeen := x.shows .reverseHandle
    barSince := if x.shows .escapeBar then some now else none }

/-- Into UNLATCHED with the measurement not armed and no closed state (R176, R184; the marks DEDUCED, assumption 17). -/
def Door.toUnlatchedUnarmed (x : Door) (now : Ms) : Door :=
  { x.endEpisode with
    state := some .unlatched, barSeen := false, handleSeen := false
    barSince := if x.shows .escapeBar then some now else none }

/-- Into OPEN with an opening captured; the hold timer starts (R178). -/
def Door.toOpened (x : Door) (time : Nat) (way : OpeningWay) (now : Ms) : Door :=
  { x.endEpisode with state := some .opened, openSince := some now, lastTime := time, lastWay := way }

/-- Into FORCED with an opening captured (R178). -/
def Door.toForced (x : Door) (time : Nat) (way : OpeningWay) : Door :=
  { x.endEpisode with state := some .forced, lastTime := time, lastWay := way }

/-- A move of a door: its record, and the value of its DOOR STATE entry. -/
abbrev DoorMove := Option (Door × Option Int)

/-- The opening time of an episode; a stamp whose age has reached 2^31 ms is expired, marked so or not (R21, R178). -/
def State.openingTime (s : State) (x : Door) : Nat :=
  match x.armed with
  | none => 0
  | some t =>
    if s.stampPassed t Config.stampExpiryMs then 2147483647 else if s.age t.time < x.cfg.debounce then 0 else s.age t.time

/-- The way by two marks (R178). -/
def openingWay (bar handle : Bool) : OpeningWay := if bar then .escapeBar else if handle then .reverseHandle else .neither

/-- The bar was seen in the episode; of an OBSTRUCTED door it always was (R181). -/
def Door.barUsed (x : Door) : Bool := x.barSeen || x.state == some .obstructed

/-- The opening of an UNLATCHED or OBSTRUCTED door (R178, R181). -/
def openFromUnlatched (s : State) (x : Door) : Door × Option Int :=
  let t := s.openingTime x
  let way := openingWay x.barUsed x.handleSeen
  if x.episode = .secured ∧ x.barUsed = false then (x.toForced t way, some t) else (x.toOpened t way s.tb.uptime, some t)

/-- The opening of a SECURED or FREE door whose leaf leaves its frame first (R178). -/
def openFromClosed (s : State) (x : Door) : Door × Option Int :=
  let way := openingWay (x.shows .escapeBar) (x.shows .reverseHandle)
  if x.state = some .secured ∧ x.shows .escapeBar = false then (x.toForced 0 way, some 0)
  else (x.toOpened 0 way s.tb.uptime, some 0)

/-- The state derived from the contacts (R176). -/
def deriveDoor (s : State) (x : Door) : Door × Option Int :=
  if x.shows .closed then
    if x.shows .latch then (x.toClosed, none) else (x.toUnlatchedUnarmed s.tb.uptime, none)
  else (x.toOpened 0 .none s.tb.uptime, some 0)

/-- What the CLOSED contact does to the state (R178, R181, R184). -/
def closedMove (s : State) (x : Door) (level : Bool) : DoorMove :=
  match x.state, level with
  | some .opened, true | some .heldOpen, true | some .forced, true =>
    some (if x.shows .latch then x.toClosed else x.toUnlatchedUnarmed s.tb.uptime, none)
  | some .unlatched, false | some .obstructed, false => some (openFromUnlatched s x)
  | some .secured, false | some .free, false => some (openFromClosed s x)
  | _, _ => none

/-- What the LATCH contact does to the state (R177, R181). -/
def latchMove (s : State) (x : Door) (level : Bool) : DoorMove :=
  match x.state, level with
  | some .secured, false | some .free, false => some (x.toUnlatchedArmed s.tb.uptime, none)
  | some .unlatched, true | some .obstructed, true => some (x.toClosed, none)
  | _, _ => none

/-- What the LOCK FEEDBACK contact does to the state (R177). -/
def feedbackMove (x : Door) (level : Bool) : DoorMove :=
  match x.state, level with
  | some .secured, false => some ({ x with state := some .free }, none)
  | some .free, true => some ({ x with state := some .secured }, none)
  | _, _ => none

/-- A debounced press or release of the escape bar in UNLATCHED (R177, R180). -/
def Door.barChange (x : Door) (level : Bool) (now : Ms) : Door :=
  if x.state = some .unlatched then
    if level then { x with barSeen := true, barSince := some now } else { x with barSince := none }
  else x

/-- A debounced turn of the reverse handle in UNLATCHED (R177). -/
def Door.handleChange (x : Door) (level : Bool) : Door :=
  if x.state = some .unlatched ∧ level = true then { x with handleSeen := true } else x

/-- The move that a debounced change asks of a door that is neither absent nor INITIAL. -/
def contactMove (s : State) (x : Door) (c : Contact) (level : Bool) : DoorMove :=
  match c with
  | .closed => closedMove s x level
  | .latch => latchMove s x level
  | .lockFeedback => feedbackMove x level
  | .escapeBar => none
  | .reverseHandle => none

/-- The marks and the open wait that a debounced change sets. -/
def Door.contactMarks (x : Door) (c : Contact) (level : Bool) (now : Ms) : Door :=
  match c with
  | .escapeBar => x.barChange level now
  | .reverseHandle => x.handleChange level
  | .closed => x
  | .latch => x
  | .lockFeedback => x

/-! ### Lock drive and sign (R186, R187) -/

/-- The drive is due to be released (R186). -/
def Door.releaseDue (x : Door) (r : Regime) : Bool := r == .incident || x.lockMode == .released

/-- The drive carried toward what is due (R186). -/
def Door.carryDrive (x : Door) (r : Regime) : Door :=
  if x.cfg.present = false then { x with lock := false, engageWaiting := false }
  else if x.releaseDue r then { x with lock := false, engageWaiting := false }
  else if x.lock then { x with engageWaiting := false }
  else if x.shows .closed then { x with lock := true, engageWaiting := false }
  else { x with engageWaiting := true }

/-- The exit sign that the regime and the presence give (R187). -/
def Door.carrySign (x : Door) (r : Regime) : Door :=
  { x with sign := if x.cfg.present then (if r = .incident then .flash else .steady) else .off }

/-! ### The fault conditions (R182, R183) -/

/-- The feedback disagrees with the drive of a closed door (R182). -/
def Door.disagrees (x : Door) : Bool :=
  x.shows .closed && (x.contacts.lockFeedback.level == some (!x.lock))

/-- The latch shows engaged while the leaf is out of its frame (R182). -/
def Door.latchWhileOpen (x : Door) : Bool := x.showsNot .closed && x.shows .latch

/-- The door is judged for faults: present and not INITIAL (R182). -/
def Door.judged (x : Door) : Bool := x.state.isSome && x.state != some .initial

/-- A condition's timer: started when the condition begins, abandoned when it ends. -/
def conditionTimer (holds : Bool) (since : Option Ms) (now : Ms) : Option Ms :=
  if holds then (match since with | none => some now | some t => some t) else none

/-- Both timers of R182 brought up to date. -/
def Door.timeFaults (x : Door) (now : Ms) : Door :=
  { x with
    disagreeSince := conditionTimer (x.judged && x.disagrees) x.disagreeSince now
    latchOpenSince := conditionTimer (x.judged && x.latchWhileOpen) x.latchOpenSince now }

/-- Into FAULT (R182). -/
def Door.toFault (x : Door) : Door := { x.endEpisode with state := some .fault }

/-- A door that has taken a move, with DOOR STATE. -/
def moveDoor (d : DoorNo) (m : Door × Option Int) (s : State) : State := doorChanged d m.2 (s.setDoor d m.1)

/-- After a change of a contact or of the drive: the fault timers, and the end of a FAULT whose conditions no longer stand
(R182, R183). -/
def followUp (d : DoorNo) (s : State) : State :=
  let s1 := s.modDoor d (·.timeFaults s.tb.uptime)
  let x := s1.door d
  if x.state = some .fault ∧ x.disagrees = false ∧ x.latchWhileOpen = false then moveDoor d (deriveDoor s1 x) s1 else s1

/-- The effective stages are formed anew when a door's state has changed (R163, R185). -/
def doorWork (before after : Option DoorState) : List Work := if before = after then [] else [.reform]

/-! ### What a debounced change does -/

/-- The state's part of a debounced change: the end of INITIAL, or the move it asks for (R175–R184). -/
def contactActs (d : DoorNo) (c : Contact) (level : Bool) (s : State) : State :=
  let x := s.door d
  match x.state with
  | none => s
  | some .initial => if x.contacts.complete then moveDoor d (deriveDoor s x) s else s
  | some _ =>
    let s1 := s.modDoor d (·.contactMarks c level s.tb.uptime)
    match contactMove s1 (s1.door d) c level with
    | none => s1
    | some m => moveDoor d m s1

/-- The drive's part of a debounced change of CLOSED (R186). -/
def contactDrive (d : DoorNo) (c : Contact) (s : State) : State :=
  if c = .closed then followUp d (s.modDoor d (·.carryDrive s.rau.regime)) else s

/-- A debounced change of a contact, whole (R174): the door enters its state by its contacts, a FAULT that the change ends among
them, before its drive engages (R183, R186). -/
def contactDebounced (d : DoorNo) (c : Contact) (s : State) : Effect :=
  let level := ((s.door d).contacts.get c).input
  let s1 := s.modDoor d fun x => { x with contacts := x.contacts.set c ((x.contacts.get c).settle) }
  let s2 := contactDrive d c (followUp d (contactActs d c level s1))
  (s2, doorWork (s.door d).state (s2.door d).state)

/-! ### The regime and the doors (R187) -/

/-- One door at a regime entry that crosses into or out of INCIDENT. -/
def regimeDoor (d : DoorNo) (s : State) : State :=
  followUp d (s.modDoor d fun x => (x.carryDrive s.rau.regime).carrySign s.rau.regime)

/-- The doors and the buzzer at a regime entry that crosses into or out of INCIDENT (R187). DESIGN CHOICE (assumption 22): door 0
is taken before door 1; R185 lets either be first. -/
def regimeDoors (s : State) : State := updateBuzzer (regimeDoor 1 (regimeDoor 0 s))

/-! ### The cause of an obstruction (R180) -/

/-- The cause judged from the door's pressure channel (R180). -/
def obstructionCause (s : State) (x : Door) : ObstructionCause :=
  match x.cfg.pressure with
  | none => .unknown
  | some c =>
    if (s.ch c).cfg.kind ≠ .diffPressure ∨ (s.ch c).published = false ∨ (s.ch c).state = .sensorFault then .unknown
    else if x.cfg.forceLimit ≤ (s.ch c).value.natAbs then .pressure else .mechanical

/-- Into OBSTRUCTED (R180). -/
def Door.toObstructed (x : Door) (cause : ObstructionCause) : Door :=
  { x with state := some .obstructed, lastCause := cause, barSince := none }

/-- Into HELD OPEN (R179). -/
def Door.toHeldOpen (x : Door) : Door := { x with state := some .heldOpen, openSince := none }

/-- The hold limit of an OPEN door has passed (R179). -/
def State.holdOver (s : State) (x : Door) : Bool :=
  x.state == some .opened && s.passedOpt x.openSince (1000 * x.cfg.holdLimit)

/-- The open wait of an UNLATCHED door has passed (R180). -/
def State.waitOver (s : State) (x : Door) : Bool :=
  x.state == some .unlatched && s.passedOpt x.barSince (1000 * x.cfg.openWait)

/-- A fault condition has stood for 2 s (R182). -/
def State.faultOver (s : State) (x : Door) : Bool :=
  x.judged && x.state != some .fault &&
    (s.passedOpt x.disagreeSince Config.doorFaultMs || s.passedOpt x.latchOpenSince Config.doorFaultMs)

/-- HELD OPEN where the hold limit has passed (R171, R179). -/
def holdExpiry (d : DoorNo) (s : State) : Effect :=
  if s.holdOver (s.door d) then (moveDoor d ((s.door d).toHeldOpen, none) s, [.reform]) else (s, [])

/-- OBSTRUCTED where the open wait has passed (R171, R180). -/
def waitExpiry (d : DoorNo) (s : State) : Effect :=
  if s.waitOver (s.door d) then
    (moveDoor d ((s.door d).toObstructed (obstructionCause s (s.door d)),
      some (obstructionCause s (s.door d)).code) s, [.reform])
  else (s, [])

/-- FAULT where a condition has stood for 2 s (R182). -/
def faultExpiry (d : DoorNo) (s : State) : Effect :=
  if s.faultOver (s.door d) then (moveDoor d ((s.door d).toFault, none) s, [.reform]) else (s, [])

end Sys2Proof.Machine
end

