-- ==== Sys2Proof/Machine/Sequencer.lean ====
section
/-! DEFINITION. The scan sequencer (chapter 3): visits and passes, the completed window and its routing (R42–R47), and the restart
of a channel (R39). -/

namespace Sys2Proof.Machine

/-! ### Visits and passes (R42, R43) -/

/-- The channel that the current entry names. -/
def Scan.visited (k : Scan) : Option ChanNo := k.list[k.current]?

/-- The settle time of a channel, in ticks (R35). -/
def settleTicks (cfg : ChanConfig) : Nat := Config.ticksPerMs * 2 ^ cfg.settle

/-- The scan in IDLE (R43, R44). -/
def Scan.toIdle (k : Scan) : Scan := { k with state := .idle, stopPending := false }

/-- A visit of an enabled channel: the selector moves and the settle time is counted afresh (R42). -/
def Scan.toSettling (k : Scan) (cfg : ChanConfig) : Scan :=
  { k with state := .settling, selector := cfg.input, ticks := 0, due := settleTicks cfg, begun := true }

/-- A conversion started (R34, R42). -/
def Scan.toConverting (k : Scan) : Scan := { k with state := .converting, ticks := 0, due := Config.conversionTicks }

/-- PAUSING for some ticks (R43). -/
def Scan.toPausing (k : Scan) (ticks : Nat) : Scan := { k with state := .pausing, ticks := 0, due := ticks }

/-- The next pass, at the stored start entry (R43). -/
def Scan.toNextPass (k : Scan) : Scan := { k with current := k.start, visits := 0, begun := false }

/-- The end of a visit (R42, R43, R44): what the scan becomes, and whether another visit begins at once. With a pass pause of 0,
a pass whose every visit was skipped pauses 1 ms (R43), counted as ticks (DEDUCED, assumption 15). -/
def Scan.afterVisit (k : Scan) : Scan × Bool :=
  let k1 := { k with visits := k.visits + 1 }
  if k.stopPending ∧ k.mode = .continuous then (k1.toIdle, false)
  else if k1.visits < k.list.length then
    ({ k1 with current := if k.current + 1 < k.list.length then k.current + 1 else 0 }, true)
  else match k.mode with
    | .single => (k1.toIdle, false)
    | .continuous =>
      if 0 < k.pause then (k1.toPausing (Config.ticksPerMs * k.pause), false)
      else if k.begun then (k1.toNextPass, true)
      else (k1.toPausing Config.ticksPerMs, false)

/-- Visits begun one after another until one of an enabled channel, or the end of the pass, is met (R42). -/
def beginVisits (n : Nat) (s : State) : State :=
  match n with
  | 0 => s
  | n + 1 =>
    match s.scn.visited with
    | none => { s with scn := s.scn.toIdle }
    | some c =>
      if (s.ch c).state ≠ .disabled then { s with scn := s.scn.toSettling (s.ch c).cfg }
      else if s.scn.afterVisit.2 then beginVisits n { s with scn := s.scn.afterVisit.1 }
      else { s with scn := s.scn.afterVisit.1 }

/-- Enough visits for the rest of a pass and a whole further one. -/
def visitFuel (s : State) : Nat := 2 * s.scn.list.length + 2

/-- A visit begins at the current entry. -/
def beginVisit (s : State) : State := beginVisits (visitFuel s) s

/-- A visit ends, by completion or by a restart (R42). -/
def endVisit (s : State) : State :=
  if s.scn.afterVisit.2 then beginVisit { s with scn := s.scn.afterVisit.1 } else { s with scn := s.scn.afterVisit.1 }

/-- A visit to the channel is SETTLING or CONVERTING (R39). -/
def State.visiting (s : State) (c : ChanNo) : Bool :=
  (s.scn.state == .settling || s.scn.state == .converting) && s.scn.visited == some c

/-! ### The completed window (R45–R47) -/

/-- SENSOR FAULT entry (R46). -/
def enterSensorFault (c : ChanNo) (s : State) : Effect :=
  let x := s.ch c
  let s1 := s.setCh c { x with state := .sensorFault, faulty := 2 }
  let s2 := appendEvent (.channel c) .sensorFault (some x.level) (if x.published then some x.value else none) s1
  (s2, contributes s2 c)

/-- A faulty window (R46). -/
def faultyWindowDone (c : ChanNo) (s : State) : Effect :=
  let x := s.ch c
  if 1 ≤ x.faulty ∧ x.state ≠ .sensorFault then enterSensorFault c s
  else (s.setCh c { x with faulty := min 2 (x.faulty + 1) }, [])

/-- The recovery of a channel in SENSOR FAULT (R47). -/
def recoverChannel (c : ChanNo) (s : State) : State :=
  let x := s.ch c
  appendEvent (.channel c) .sensorRecovered none none
    (s.setCh c { x with state := if x.published then .valid else .noValue, faulty := 0 })

/-- A good window clears the faulty-window count and ends SENSOR FAULT (R47). -/
def goodWindowFirst (c : ChanNo) (s : State) : State :=
  if (s.ch c).state = .sensorFault then recoverChannel c s else s.setCh c { s.ch c with faulty := 0 }

/-- The channel is the head in PURGING or ACCUMULATING: its good windows are not published (R45). -/
def State.underCalibration (s : State) (c : ChanNo) : Bool := s.cal.inPhase c .purging || s.cal.inPhase c .accumulating

/-- The value pipeline publishes a good window, and the CAU hands the channel on (R48, R74). -/
def publishWindow (c : ChanNo) (w : Nat) (s : State) : Effect := (publish c w s, contributes (publish c w s) c)

/-- A good window of the head: its sum is handed to the CAL in ACCUMULATING, and otherwise it is discarded (R45, R84, R85). -/
def routeHead (c : ChanNo) (w : Nat) (s : State) : Effect :=
  match s.cal.head with
  | none => (s, [])
  | some e => if s.cal.inPhase c .accumulating then receiveSum e w s else (s, [])

/-- A recovery that is not published is handed to the RAU at the recovery itself (R74). -/
def handRecovery (recovered : Bool) (c : ChanNo) (s : State) : State := run (if recovered then contributes s c else []) s

/-- A good window: the count and the recovery (R47), then the routing (R45). DEDUCED (assumption 24): a recovery whose hand-over
ends the calibration leaves its window to no one. -/
def goodWindowDone (c : ChanNo) (w : Nat) (s : State) : State :=
  if s.underCalibration c then
    runEffect (routeHead c w (handRecovery (decide ((s.ch c).state = .sensorFault)) c (goodWindowFirst c s)))
  else runEffect (publishWindow c w (goodWindowFirst c s))

/-- A completed window tested and routed (R45). -/
def windowDone (c : ChanNo) (w : List Code) (s : State) : State :=
  if faultyWindow (s.ch c).cfg w then runEffect (faultyWindowDone c s) else goodWindowDone c (windowSum w) s

/-- A sample appended to a channel's window; the fourth completes it (R45). -/
def takeSample (c : ChanNo) (code : Code) (s : State) : State :=
  let w := (s.ch c).window ++ [code]
  if w.length < 4 then s.setCh c { s.ch c with window := w }
  else windowDone c w (s.setCh c { s.ch c with window := [] })

/-! ### The restart of a channel (R39) -/

/-- The live part of a channel after a restart with a configuration (R39, R54). -/
def restartedChannel (cfg : ChanConfig) : Channel :=
  { Channel.initial with cfg := cfg, state := if cfg.enabled then .noValue else .disabled }

/-- CHANNEL RECONFIGURED where the level was above 0 (R39). -/
def reconfiguredEntry (c : ChanNo) (level : Nat) (s : State) : State :=
  if 0 < level then appendEvent (.channel c) .channelReconfigured (some level) none s else s

/-- The restart of a channel with a configuration, the end of a visit to it, and the hand-over to the RAU (R39, R74). -/
def restartChannel (c : ChanNo) (cfg : ChanConfig) (s : State) : Effect :=
  let before := s.ch c
  let visiting := s.visiting c
  let s1 := reconfiguredEntry c before.level (s.setCh c (restartedChannel cfg))
  let s2 := if visiting then endVisit s1 else s1
  (s2, if before.cfg.participates || cfg.participates then [.contribution c] else [])

end Sys2Proof.Machine
end

