-- ==== Sys2Proof/Machine/Timers.lean ====
section
/-! DEFINITION. When each timer of the part has run out (R21): the condition under which a timer's command has its effect, and
which a tick looks for. -/

namespace Sys2Proof.Machine

/-! ### The reply in service (R8) -/

/-- The bits of so many characters have passed at the strapped rate in so many ticks (R1). -/
def charsPassed (straps : Straps) (chars ticks : Nat) : Bool :=
  chars * 10 * Config.ticksPerSecond ≤ ticks * Config.baud straps.bitRate

/-- Characters of a frame: SYNC, DEST, KIND, LEN, the payload and two check bytes (chapter 1, Frames). -/
def frameChars (payload : List Byte) : Nat := payload.length + 6

/-- Two character times have passed since the request ended, and its reply has not begun (R8). -/
def State.replyAllowed (s : State) : Bool :=
  match s.lif.service with
  | none => false
  | some v => !v.sending && charsPassed s.lif.straps 2 v.elapsed

/-- The last moment for the reply to begin has come (R8). -/
def State.replyPressing (s : State) : Bool :=
  match s.lif.service with
  | none => false
  | some v => !v.sending && Config.latestReplyTicks ≤ v.elapsed

/-- The last stop bit of the reply has been sent (R8). -/
def State.replyOver (s : State) : Bool :=
  match s.lif.service with
  | none => false
  | some v => v.sending && charsPassed s.lif.straps (frameChars v.payload) v.elapsed

/-- More than three character times have passed since the last character of a frame being assembled (R4). -/
def State.gapOver (s : State) : Bool :=
  s.lif.rx != .hunt && 3 * 10 * Config.ticksPerSecond < s.lif.gapTicks * Config.baud s.lif.straps.bitRate

/-- The silence timeout has passed (R13). -/
def State.silenceOver (s : State) : Bool := s.passedOpt s.lif.silenceSince (1000 * s.lif.silenceLimit)

/-! ### The scan (R34, R42, R43) -/

/-- The settle time has passed (R42). -/
def State.settleOver (s : State) : Bool := s.scn.state == .settling && decide (s.scn.due ≤ s.scn.ticks)

/-- The conversion has lasted its 50 µs (R34). -/
def State.conversionOver (s : State) : Bool := s.scn.state == .converting && decide (s.scn.due ≤ s.scn.ticks)

/-- The pass pause has passed (R43). -/
def State.pauseOver (s : State) : Bool := s.scn.state == .pausing && decide (s.scn.due ≤ s.scn.ticks)

/-! ### Calibration and span (R84, R91, R103) -/

/-- The purge time has passed (R84). -/
def State.purgeOver (s : State) : Bool := s.cal.phase == .purging && s.passed s.cal.purgeStart (1000 * s.cal.purgeTime)

/-- 120 s have passed without a window sum (R91). -/
def State.samplesOver (s : State) : Bool := s.cal.phase == .accumulating && s.passed s.cal.lastSum Config.noSamplesMs

/-- 1,800 s have passed since the session's last-request time (R103). -/
def State.sessionOver (s : State) : Bool := s.passedOpt (s.cal.span.map (·.lastRequest)) Config.spanTimeoutMs

/-! ### The fans -/

/-- The tach count has reached 65535 (R112). -/
def Fan.tachOver (x : Fan) : Bool :=
  match x.tachCount with
  | none => false
  | some n => Config.tachSaturated ≤ n

/-- The start timeout has passed in STARTING (R118). -/
def State.startOver (s : State) (f : FanNo) : Bool :=
  (s.fan f).state == some .starting && s.passed (s.fan f).since (1000 * (s.fan f).cfg.startTimeout)

/-- The start timeout has passed in CHANGING (R119). -/
def State.changeOver (s : State) (f : FanNo) : Bool :=
  (s.fan f).state == some .changing && s.passed (s.fan f).since (1000 * (s.fan f).cfg.startTimeout)

/-- The coast timeout has passed in COASTING (R122). -/
def State.coastOver (s : State) (f : FanNo) : Bool :=
  (s.fan f).state == some .coasting && s.passed (s.fan f).since (1000 * (s.fan f).cfg.coastTimeout)

/-- The stall watch has run out in RUNNING or CHANGING (R123). -/
def State.stallOver (s : State) (f : FanNo) : Bool :=
  ((s.fan f).state == some .running || (s.fan f).state == some .changing) && s.passedOpt (s.fan f).stallSince Config.stallMs

/-- A stamp of a waiting fan has aged out, and no start is due yet (R139). -/
def State.budgetOver (s : State) (f : FanNo) : Bool :=
  (s.fan f).state == some .waitingBudget && !(s.fan f).startDue &&
    decide ((s.windowStamps f).length < (s.fan f).history.length)

/-- A debounced trip input. -/
def Fan.tripInput (x : Fan) (i : TripInput) : Debounced :=
  match i with
  | .vibration => x.vibration
  | .driveFault => x.driveFault

/-- The retry of a set latch is due (R134). -/
def State.retryOver (s : State) (f : FanNo) : Bool :=
  (s.fan f).latch.isSome &&
    match (s.fan f).retryDue with
    | none => false
    | some r => s.passed r.since (1000 * r.interval)

/-- 600 s of continuous RUNNING have passed (R135). -/
def State.runOver (s : State) (f : FanNo) : Bool :=
  (s.fan f).state == some .running && s.passedOpt (s.fan f).runSince Config.retryClearMs

/-- The OUTPUT INHIBIT input has stood 50 ms at the level that it does not show, and that level is this one (R125). -/
def State.inhibitOver (s : State) (level : Bool) : Bool := s.debounced s.inhibit && s.inhibit.input == level

/-! ### Stamps with no timer (R21) -/

/-- A stamp has reached 2^31 ms and is not yet held as expired. -/
def State.stampDue (s : State) (t : Stamp) : Bool := !t.expired && s.passed t.time Config.stampExpiryMs

/-- A stamp that may be absent has reached 2^31 ms. -/
def State.stampDueOpt (s : State) (t : Option Stamp) : Bool :=
  match t with
  | none => false
  | some t => s.stampDue t

/-- Some stamp of a start history, the last-change time or an armed opening-time measurement is to be held as expired. -/
def State.stampsOver (s : State) : Bool :=
  allFans.any (fun f => (s.fan f).history.any s.stampDue) || s.stampDueOpt s.rau.lastChange ||
    allDoors.any fun d => s.stampDueOpt (s.door d).armed

/-! ### The auto hold (R162) -/

/-- A fall is waiting in AUTO and the auto hold has passed. -/
def State.holdOverAuto (s : State) : Bool := s.rau.regime == .auto && s.rau.fallWaiting && s.holdPassed

/-- This is the tick at which the auto hold passes: the age has just reached it (DEDUCED, assumption 18). -/
def State.holdReached (s : State) : Bool :=
  s.holdOverAuto && s.tb.uptimePre == 0 &&
    match s.rau.lastChange with
    | none => false
    | some t => s.age t.time == 1000 * s.rau.autoHold

end Sys2Proof.Machine
end

