-- ==== Sys2Proof/WellFormed.lean ====
section
/-! DEFINITION. Which commands can stand on the line: a frame carries at most 96 payload bytes (chapter 1, Frames), of which a
group frame's selection map takes eight, and UNKNOWN_REQUEST is a KIND of 01h–3Fh that the table of R9 does not hold. -/

namespace Sys2Proof

/-- The codes of the request kinds (R9). -/
def requestCodes : List Nat :=
  [0x01, 0x02, 0x03, 0x04, 0x05, 0x06, 0x10, 0x11, 0x12, 0x13, 0x14, 0x15, 0x18, 0x19, 0x20, 0x21, 0x22, 0x23, 0x24, 0x25,
   0x28, 0x29, 0x2A, 0x2B]

/-- The field bytes fit a frame of this form (chapter 1, Frames; R7). -/
def fitsFrame (form : Form) (fields : List Byte) : Bool :=
  match form with
  | .addressed => fields.length ≤ Config.maxPayload
  | .group _ => fields.length + 8 ≤ Config.maxPayload

/-- The command can stand on the line. -/
def Instr.wf (i : Instr) : Bool :=
  match i with
  | .fullReset _ => true
  | .framingError => true
  | .interCharacterGap => true
  | .foreignFrame _ _ payload _ => payload.length ≤ Config.maxPayload
  | .unknownRequest form kind fields =>
      fitsFrame form fields && 1 ≤ kind.toNat && kind.toNat ≤ 0x3F && !requestCodes.contains kind.toNat
  | .replyStart => true
  | .replySent => true
  | .statusPoll form fields => fitsFrame form fields
  | .readValues form fields => fitsFrame form fields
  | .fetchEvents form fields => fitsFrame form fields
  | .readPage form fields => fitsFrame form fields
  | .setTime form fields => fitsFrame form fields
  | .nodeReset form fields => fitsFrame form fields
  | .setNode form fields => fitsFrame form fields
  | .setChannel form fields => fitsFrame form fields
  | .setScan form fields => fitsFrame form fields
  | .scanStart form fields => fitsFrame form fields
  | .scanStop form fields => fitsFrame form fields
  | .settleTimeExpiry => true
  | .conversionComplete _ => true
  | .passPauseExpiry => true
  | .zero form fields => fitsFrame form fields
  | .zeroCancel form fields => fitsFrame form fields
  | .purgeTimeExpiry => true
  | .noSamples => true
  | .spanEnter form fields => fitsFrame form fields
  | .spanStep form fields => fitsFrame form fields
  | .spanSet form fields => fitsFrame form fields
  | .spanExit form fields => fitsFrame form fields
  | .spanTimeout => true
  | .setFan form fields => fitsFrame form fields
  | .tachMeasurement _ _ => true
  | .tachSaturation _ => true
  | .startTimeout _ => true
  | .changeTimeout _ => true
  | .coastTimeout _ => true
  | .stallWatchExpiry _ => true
  | .budgetRecheck _ => true
  | .stampExpiry => true
  | .overcurrentChange _ _ => true
  | .tripInputChange _ _ _ => true
  | .tripSourceDebounced _ _ => true
  | .tripReset form fields => fitsFrame form fields
  | .autoRetry _ => true
  | .retryCountClear _ => true
  | .inhibitInputChange _ => true
  | .inhibitOn => true
  | .inhibitOff => true
  | .regime form fields => fitsFrame form fields
  | .fanCommand form fields => fitsFrame form fields
  | .setDemand form fields => fitsFrame form fields
  | .silenceTimeout => true
  | .autoHoldExpiry => true
  | .setDoor form fields => fitsFrame form fields
  | .doorCommand form fields => fitsFrame form fields
  | .doorContactInputChange _ _ _ => true
  | .doorContactDebounced _ _ => true
  | .holdLimitExpiry _ => true
  | .openWaitExpiry _ => true
  | .doorFaultTimeout _ => true
  | .characterReceived _ => true

end Sys2Proof
end

