-- ==== Sys2Proof/Machine/Line.lean ====
section
/-! DEFINITION. The line interface (chapter 1): the frame check (R5), the judging of a frame (R6, R7), contact with the station
controller (R13, R14), the taking of a request (R10, R12) and the reply that it leaves in service (R8). -/

namespace Sys2Proof.Machine

/-! ### The frame check (R5) -/

/-- One bit of the division by x^16 + x^12 + x^5 + 1. -/
def crcBit (c : BitVec 16) : BitVec 16 := if c.msb then (c <<< 1) ^^^ 0x1021#16 else c <<< 1

/-- One byte entered, most significant bit first. -/
def crcByte (c : BitVec 16) (b : Byte) : BitVec 16 :=
  crcBit (crcBit (crcBit (crcBit (crcBit (crcBit (crcBit (crcBit (c ^^^ (b.setWidth 16 <<< 8)))))))))

/-- The check over DEST, KIND, LEN and the payload. -/
def frameCheck (dest kind : Byte) (payload : List Byte) : BitVec 16 :=
  (dest :: kind :: byte payload.length :: payload).foldl crcByte 0xFFFF#16

/-- A check from its two bytes, high byte first. -/
def checkOf (high low : Byte) : BitVec 16 := high ++ low

/-- A frame as the line carries it (chapter 1, Frames). -/
def frameBytes (dest kind : Byte) (payload : List Byte) : List Byte :=
  [0xC5, dest, kind, byte payload.length] ++ payload ++
    [(frameCheck dest kind payload).extractLsb' 8 8, (frameCheck dest kind payload).extractLsb' 0 8]

/-- The characters of the reply in service. -/
def Service.frame (v : Service) : List Byte := frameBytes v.dest v.kind v.payload

/-! ### Judging a frame (R6, R7) -/

/-- The selection map of a group payload: bit n of the map stands for node n (R7). -/
def selectionMap (payload : List Byte) : BitVec 64 :=
  BitVec.ofNat 64 ((payload.take 8).foldr (fun b n => b.toNat + 256 * n) 0)

/-- The form and the fields of a frame that has passed its check, or none when it is dropped for its DEST, its KIND or an
incomplete map (R6, R7). Whether a map selects the node is judged with the taking. -/
def frameForm (straps : Straps) (dest kind : Byte) (payload : List Byte) : Option (Form × List Byte) :=
  if kind.toNat = 0 ∨ 0x3F < kind.toNat then none
  else if dest = 0 then
    if payload.length < 8 then none else some (.group (selectionMap payload), payload.drop 8)
  else if dest.toNat = straps.address.val then some (.addressed, payload)
  else none

/-- The node takes a frame of this form: it is not in service, its address is not 0, and a map selects it (R2, R7, R8). -/
def State.takes (s : State) (form : Form) : Bool :=
  s.lif.service.isNone && s.lif.straps.address != 0 &&
    match form with
    | .addressed => true
    | .group map => map.getLsbD s.lif.straps.address.val

/-! ### Contact (R13, R14) -/

/-- The receiver back in HUNT (R3). -/
def toHunt (s : State) : State := { s with lif := { s.lif with rx := .hunt } }

/-- The silence timer restarted with the silence timeout setting (R13). -/
def restartSilence (s : State) : State :=
  { s with lif := { s.lif with silenceSince := some s.tb.uptime, silenceLimit := s.lif.silenceTimeout } }

/-- LINE LOST cleared, with LINE RESTORED, where it was set (R14). -/
def restoreLine (s : State) : State :=
  if s.lif.lineLost then
    appendEvent .line .lineRestored none none { s with lif := { s.lif with lineLost := false } }
  else s

/-- The LIF's own consequences of taking a frame. -/
def contact (s : State) : State := restartSilence (restoreLine (toHunt s))

/-! ### The outcome of a request (R10, R11) -/

/-- What the owning block decides: the outcome, the reply fields, the state that results, and whether a node reset follows the
reply (R18). -/
structure Answer where
  outcome : ReqOutcome
  reply : List Byte
  state : State
  resetAfter : Bool

/-- A refusal: the outcome alone, and nothing changed (R10). -/
def refuse (o : ReqOutcome) (s : State) : Answer := { outcome := o, reply := [], state := s, resetAfter := false }

/-- A request carried out: DONE, or CLAMPED. -/
def answer (clamped : Bool) (reply : List Byte) (s : State) : Answer :=
  { outcome := if clamped then .clamped else .done, reply := reply, state := s, resetAfter := false }

/-- The reply put in service (R8). -/
def Answer.service (code : Byte) (a : Answer) : Service :=
  { dest := byte (0x80 + a.state.lif.straps.address.val), kind := code + 0x40, payload := a.outcome.code :: a.reply,
    sending := false, elapsed := 0, resetAfter := a.resetAfter }

/-- The state after an addressed request: what the block left, with the reply in service (R8). -/
def beginService (code : Byte) (a : Answer) : State :=
  { a.state with lif := { a.state.lif with service := some (a.service code) } }

/-- A request kind's own check of an addressed request: the length (R10 step 2), then the owning block's. -/
def answerOf (length : Nat) (serve : List Byte → State → Answer) (fields : List Byte) (s : State) : Answer :=
  if fields.length = length then serve fields s else refuse .badLength s

/-- A frame that is not taken: lost to a node in service, and dropped otherwise, which leaves the receiver in HUNT (R3, R6,
R8; DEDUCED, assumption 7). -/
def dropFrame (s : State) : State := if s.lif.service.isSome then s else toHunt s

/-- A whole good frame of a kind arrives: taken or not (R6, R7), contact (R13, R14), then the addressed request with its reply
(R8, R10), or the group request (R12), which a kind without the G mark ignores. -/
def takeRequest (code : Byte) (group : Bool) (length : Nat) (serve : List Byte → State → Answer) (form : Form)
    (fields : List Byte) (s : State) : State :=
  if s.takes form && fitsFrame form fields then
    match form with
    | .addressed => beginService code (answerOf length serve fields (contact s))
    | .group _ => if group && fields.length = length then (serve fields (contact s)).state else contact s
  else dropFrame s

/-- An addressed or group frame whose KIND names no request kind (R9). -/
def takeUnknown (code : Byte) (form : Form) (fields : List Byte) (s : State) : State :=
  if s.takes form && fitsFrame form fields then
    match form with
    | .addressed => beginService code (refuse .notKnown (contact s))
    | .group _ => contact s
  else dropFrame s

end Sys2Proof.Machine
end

