-- ==== Sys2Proof/Machine/Flags.lean ====
section
/-! DEFINITION. The packed bytes of the central formats: the status summary's flag, channel and fan bytes (R26), the value record's
flags (R50), an event entry's marks (R31) and a door page's contact levels (R172). -/

namespace Sys2Proof.Machine

/-- Bits packed into a byte, the first at bit 0. -/
def packBits (bs : List Bool) : Nat :=
  match bs with
  | [] => 0
  | b :: rest => b.toNat + 2 * packBits rest

/-- R50: the value record's flags byte. -/
def ValueFlags.byte (v : ValueFlags) : Byte :=
  Machine.byte (packBits [v.fresh, v.overwritten, v.transient, v.calibrating, v.trim, v.unsettled, v.atLimit])

/-- R26: a channel's byte of the status summary. -/
def Channel.statusByte (c : Channel) : Byte := byte (c.state.code + 4 * c.level + 16 * c.flags.fresh.toNat)

/-- R31: an event entry's marks byte. -/
def Event.marks (e : Event) : Byte := byte (packBits [e.gap, e.level.isSome, e.value.isSome])

/-- R31: an event entry in its 13 bytes. -/
def Event.bytes (e : Event) : List Byte :=
  le32 e.stamp ++ [byte e.source.kindCode, byte e.source.indexCode, byte e.code.code, byte (e.level.getD 0)] ++
    le32i (e.value.getD 0) ++ [e.marks]

/-- R26: a fan's two bytes of the status summary, from its record and what the RAU asks of it. -/
def fanStatusBytes (x : Fan) (r : RauFan) : List Byte :=
  match x.state with
  | none => [0, 0]
  | some _ =>
    [byte (fanStateCode x.state + 16 * r.eff + 64 * r.dir.code),
     byte (match x.latch with | none => 0 | some c => c.code)]

/-- R172: a contact's bit on the door page; a contact with no level shows 0. -/
def ContactState.bit (c : ContactState) : Bool := c.level.getD false

/-- R172: the contact levels byte. -/
def Contacts.byte (c : Contacts) : Byte :=
  Machine.byte (packBits [c.closed.bit, c.latch.bit, c.escapeBar.bit, c.reverseHandle.bit, c.lockFeedback.bit])

end Sys2Proof.Machine
end

