-- ==== Sys2Proof/Machine/Records.lean ====
section
/-! DEFINITION. The configuration records as their request fields carry them and as the configuration pages return them: what a
request is taken as after clamping (R10 step 5), and the bytes of what is held (R16, R17, R35, R40, R106, R155, R170). -/

namespace Sys2Proof.Machine

/-- A yes/no field, any value above 1 taken as 1. -/
def yes (fs : List Byte) (i : Nat) : Bool := u8 fs i ≠ 0

/-! ### A channel (R35, R37) -/

/-- The 41 configuration bytes of a channel (R35). -/
def ChanConfig.bytes (c : ChanConfig) : List Byte :=
  [flag c.enabled, byte c.kind.code, byte c.input, byte c.settle, flag c.liveZero] ++ le16 c.faultLow ++ le16 c.faultHigh ++
    le16 c.fs ++ le16i c.base ++ le16i c.zero ++ le16 c.span ++ le16i c.tc ++ [optByte c.tempSource, optByte c.crossSource] ++
    le16i c.xs ++ [byte c.smoothing] ++ le16 c.l1 ++ le16 c.l2 ++ le16 c.l3 ++ le16 c.hyst ++
    [flag c.fanSensitive, byte c.settleWindows, flag c.participates] ++ le16 c.longPurge ++ le16 c.shortPurge ++
    le16 c.trimLimit

/-- The full scale taken: 0 selects the kind default, above 4000 is taken as 4000 (R37 step 2). -/
def takenFs (k : ChanKind) (fs : Nat) : Nat := if fs = 0 then k.defaultFs else min fs 4000

/-- The base taken (R37 step 4). -/
def takenBase (k : ChanKind) (b : Int) : Int :=
  if k = .temperature ∨ k = .general then clampInt (-2000) 2000 b else 0

/-- The configuration taken from the 41 bytes, with the two source fields already read (R37). -/
def takenChannel (fs : List Byte) (ts cs : Option ChanNo) : ChanConfig :=
  let kind := ChanKind.ofCode (u8 fs 1)
  let full := takenFs kind (u16 fs 9)
  { enabled := yes fs 0, kind := kind, input := min (u8 fs 2) 11, settle := min (u8 fs 3) 7, liveZero := yes fs 4,
    faultLow := min (u16 fs 5) 1023, faultHigh := clampNat 3072 4095 (u16 fs 7), fs := full,
    base := takenBase kind (s16 fs 11), zero := clampInt (-4096) 4095 (s16 fs 13), span := clampNat 2048 8191 (u16 fs 15),
    tc := if kind.gas then clampInt (-200) 200 (s16 fs 17) else 0, tempSource := if kind.gas then ts else none,
    crossSource := cs, xs := clampInt (-500) 500 (s16 fs 21), smoothing := min (u8 fs 23) 6,
    l1 := clampNat 1 full (u16 fs 24), l2 := clampNat 1 full (u16 fs 26), l3 := clampNat 1 full (u16 fs 28),
    hyst := min (u16 fs 30) 500, fanSensitive := yes fs 32, settleWindows := min (u8 fs 33) 15,
    participates := kind.calibratable && yes fs 34, longPurge := clampNat 30 900 (u16 fs 35),
    shortPurge := clampNat 10 300 (u16 fs 37), trimLimit := clampNat 1 256 (u16 fs 39) }

/-- The bytes sent, with a full scale of 0 standing for the kind default that it selects: that is no clamp (R37 step 2). -/
def sentChannel (fs : List Byte) (c : ChanConfig) : List Byte :=
  if u16 fs 9 = 0 then fs.take 9 ++ le16 c.fs ++ fs.drop 11 else fs

/-! ### A fan (R106, R107) -/

/-- The 21 configuration bytes of a fan (R106). -/
def FanConfig.bytes (c : FanConfig) : List Byte :=
  [flag c.present] ++ le16 c.rated ++ [byte c.pulses] ++ le16 c.stage1 ++ le16 c.stage2 ++ le16 c.stage3 ++ le16 c.minCode ++
    [byte c.startTimeout] ++ le16 c.coastTimeout ++ [byte c.mask.toNat] ++ le16 c.retryInterval ++
    [byte c.maxRetries, byte c.budget, byte c.window]

/-- The retry interval taken: 0 is off, 1 to 29 is taken as 30, above 600 as 600 (R107). -/
def takenRetry (x : Nat) : Nat := if x = 0 then 0 else clampNat 30 600 x

/-- The configuration taken from the 21 bytes (R107). -/
def takenFan (fs : List Byte) : FanConfig :=
  { present := yes fs 0, rated := clampNat 300 3000 (u16 fs 1), pulses := clampNat 1 4 (u8 fs 3),
    stage1 := clampNat 100 1000 (u16 fs 4), stage2 := clampNat 100 1000 (u16 fs 6), stage3 := clampNat 100 1000 (u16 fs 8),
    minCode := min (u16 fs 10) 511, startTimeout := clampNat 5 60 (u8 fs 12), coastTimeout := clampNat 10 300 (u16 fs 13),
    mask := BitVec.ofNat 4 (u8 fs 15), retryInterval := takenRetry (u16 fs 16), maxRetries := min (u8 fs 18) 3,
    budget := clampNat 1 8 (u8 fs 19), window := clampNat 10 120 (u8 fs 20) }

/-! ### A door (R170) -/

/-- The 8 configuration bytes of a door (R170). -/
def DoorConfig.bytes (c : DoorConfig) : List Byte :=
  [flag c.present, byte c.debounce] ++ le16 c.holdLimit ++ [byte c.openWait, optByte c.pressure] ++ le16 c.forceLimit

/-- The configuration taken from the 8 bytes, with the pressure channel field already read (R170). -/
def takenDoor (fs : List Byte) (pressure : Option ChanNo) : DoorConfig :=
  { present := yes fs 0, debounce := clampNat 10 250 (u8 fs 1), holdLimit := clampNat 5 600 (u16 fs 2),
    openWait := clampNat 2 30 (u8 fs 4), pressure := pressure, forceLimit := min (u16 fs 6) 2000 }

/-! ### The scan (R40) -/

/-- The 20 bytes of the scan list, mode and pass pause (R40). -/
def Scan.bytes (k : Scan) : List Byte :=
  [byte k.list.length] ++ (k.list.map fun c => byte c.val) ++ List.replicate (16 - k.list.length) 0 ++
    [byte k.mode.code] ++ le16 k.pause

/-! ### The demand table (R155) -/

/-- The 14 bytes of the demand table and dh (R155). -/
def demandBytes (steps : List DemandStep) (dh : Nat) : List Byte :=
  [byte steps.length] ++ steps.flatMap (fun st => [byte st.threshold, byte st.thrust]) ++
    List.replicate (12 - 2 * steps.length) 0 ++ [byte dh]

/-- The step taken from a slot (R155). -/
def takenStep (fs : List Byte) (i : Nat) : DemandStep :=
  { threshold := clampNat 1 250 (u8 fs (1 + 2 * i)), thrust := clampNat 1 12 (u8 fs (2 + 2 * i)) }

/-- The steps taken: the first slots, as many as the number states, or six if it states more (R155). -/
def takenSteps (fs : List Byte) : List DemandStep := (List.range (min (u8 fs 0) 6)).map (takenStep fs)

/-! ### The node settings (R17) -/

/-- The 7 bytes of the node settings (R17). -/
def nodeBytes (s : State) : List Byte :=
  [byte s.lif.silenceTimeout, flag s.rau.fallback, byte s.rau.doorCap] ++ le16 s.rau.autoHold ++
    [byte s.rau.faultIndex, byte s.rau.urgentIndex]

/-- The node settings taken from the 7 bytes (R17). -/
structure NodeSettings where
  silenceTimeout : Nat
  fallback : Bool
  doorCap : Nat
  autoHold : Nat
  faultIndex : Nat
  urgentIndex : Nat
deriving DecidableEq, Repr

/-- R17: each field outside its range is clamped to the nearer end. -/
def takenNode (fs : List Byte) : NodeSettings :=
  { silenceTimeout := max 1 (u8 fs 0), fallback := yes fs 1, doorCap := min (u8 fs 2) 3,
    autoHold := clampNat 10 600 (u16 fs 3), faultIndex := min (u8 fs 5) 250, urgentIndex := clampNat 50 250 (u8 fs 6) }

/-! ### The live parts of the pages (R110, R142, R172) -/

/-- The tach reading of a fan page (R110). -/
def readingField (r : Option Reading) : Nat :=
  match r with
  | none => 0
  | some .saturated => 65535
  | some (.period p) => p

/-- The 7 live bytes of a fan page (R110). -/
def Fan.liveBytes (x : Fan) : List Byte :=
  le16 x.drive ++ le16 (readingField x.reading) ++ [flag x.tachLevel, byte x.dirOut.code, byte x.reqStage]

/-- The lock drive field of a door page (R172). -/
def Door.lockField (x : Door) : Nat := if x.lock then 1 else if x.engageWaiting then 2 else 0

/-- The 13 live bytes of a door page (R172). -/
def doorLiveBytes (x : Door) (v : Vestibule) : List Byte :=
  [byte x.lockMode.code, byte x.lockField, x.contacts.byte] ++ le32 (BitVec.ofNat 32 x.lastTime) ++
    [byte x.lastWay.code, byte x.lastCause.code, byte x.sign.code, flag v.breach, flag v.buzzer, flag v.silenced]

/-- The age of a stamp on page 20, in whole seconds (R142). -/
def State.ageField (s : State) (t : Stamp) : Nat := if t.expired then 65535 else min 65535 (s.age t.time / 1000)

/-- The 17 bytes of a fan's start history on page 20 (R142). -/
def State.historyBytes (s : State) (f : FanNo) : List Byte :=
  [byte (s.fan f).history.length] ++ (s.fan f).history.flatMap (fun t => le16 (s.ageField t)) ++
    List.replicate (16 - 2 * (s.fan f).history.length) 0

/-! ### The pages (R15) -/

/-- The fields of a configuration page, 0 to 20 (R15, R16). -/
def State.page (s : State) (n : Fin 21) : List Byte :=
  if n.val = 0 then
    [23, 4, 1, byte s.lif.straps.address.val, byte s.lif.straps.bitRate.val, flag s.lif.straps.fallback]
  else if n.val = 1 then nodeBytes s
  else if n.val < 12 then (s.ch (Fin.ofNat 10 (n.val - 2))).cfg.bytes
  else if n.val < 16 then
    (s.fan (Fin.ofNat 4 (n.val - 12))).cfg.bytes ++ (s.fan (Fin.ofNat 4 (n.val - 12))).liveBytes
  else if n.val < 18 then
    (s.door (Fin.ofNat 2 (n.val - 16))).cfg.bytes ++ doorLiveBytes (s.door (Fin.ofNat 2 (n.val - 16))) s.vestibule
  else if n.val = 18 then demandBytes s.rau.steps s.rau.dh
  else if n.val = 19 then s.scn.bytes
  else s.historyBytes 0 ++ s.historyBytes 1 ++ s.historyBytes 2 ++ s.historyBytes 3

/-! ### The status summary (R26) and the value record (R50) -/

/-- The flags byte of the status summary; LINE LOST as the frame arrived (R25, R26). -/
def statusFlags (lost : Bool) (s : State) : Byte :=
  byte (packBits [lost, s.inhibit.level, s.rau.short, s.vestibule.breach, s.tb.clockUnset, s.evq.gapPending])

/-- The role field: 0 when the regime is not INCIDENT (R26, R145). -/
def Rau.roleField (r : Rau) : Nat :=
  if r.regime = .incident then (match r.role with | none => 0 | some x => x.code) else 0

/-- The sum of the effective stages of the present fans (R26). -/
def State.stageSum (s : State) : Nat :=
  ((allFans.filter fun f => (s.fan f).state.isSome).map fun f => s.rau.fans[f].eff).sum

/-- The calibration head field of the status summary (R26). -/
def Cal.headField (k : Cal) : Byte := optByte (k.queue.head?.map (·.channel))

/-- The span session field of the status summary (R26). -/
def Cal.spanField (k : Cal) : Byte := optByte (k.span.map (·.channel))

/-- The 31 bytes of the status summary (R26). -/
def statusBytes (lost : Bool) (s : State) : List Byte :=
  [byte s.rau.regime.code, byte s.rau.roleField, byte s.rau.autoDir.code, statusFlags lost s, byte s.rau.demand,
    byte s.stageSum] ++
    (allChans.map fun c => (s.ch c).statusByte) ++ (allFans.flatMap fun f => fanStatusBytes (s.fan f) s.rau.fans[f]) ++
    (allDoors.map fun d => byte (doorStateCode (s.door d).state)) ++
    [byte s.evq.entries.length, byte s.scn.state.code, s.cal.headField, byte s.cal.phase.code, s.cal.spanField]

/-- The value record of a channel (R50). -/
def valueRecord (s : State) (c : ChanNo) : List Byte :=
  [byte c.val, byte (s.ch c).state.code] ++ le16i (s.ch c).value ++ [(s.ch c).flags.byte, byte (s.ch c).level]

end Sys2Proof.Machine
end

