-- ==== Sys2Proof/Machine/CalibrationCommands.lean ====
section
/-! DEFINITION. The commands of the calibration unit: ZERO and ZERO CANCEL with the head's timers (chapter 5), and the requests and
the timeout of a span session (chapter 6). -/

namespace Sys2Proof.Machine

/-! ### ZERO (R77–R80) -/

/-- The type that a code names once a code above 1 is clamped to 1, SHORT (R77). -/
def CalType.ofCode (x : Nat) : CalType := if x = 0 then .long else .short

/-- The type taken: a SHORT request is promoted to LONG while the channel's "long zero done" flag is clear (R78). -/
def takenType (s : State) (c : ChanNo) (t : CalType) : CalType :=
  match t with
  | .long => .long
  | .short => if s.cal.longDone[c] then .short else .long

/-- At least one entry of the scan list names the channel (R77). -/
def State.inScanList (s : State) (c : ChanNo) : Bool := s.scn.list.contains c

/-- The channel may not be zeroed now (R77 step 2). -/
def zeroBarred (s : State) (c : ChanNo) : Bool :=
  s.rau.regime == .incident || s.cal.queued c || s.inSession c || !(s.ch c).cfg.enabled || !s.inScanList c

/-- An addressed ZERO of a channel (R77, R79). -/
def zeroChannel (c : ChanNo) (code : Nat) (s : State) : Answer :=
  if zeroBarred s c then refuse .notNow s
  else if (s.ch c).cfg.kind.calibratable then
    let t := takenType s c (.ofCode code)
    answer (t.code != code) [byte c.val, byte t.code, byte s.cal.queue.length] (runEffect (enqueue c t s))
  else refuse .inconsistent s

/-- The channel is eligible for a group ZERO (R80). -/
def zeroEligible (s : State) (c : ChanNo) : Bool := !zeroBarred s c && (s.ch c).cfg.kind.calibratable

/-- One channel taken by a group ZERO. -/
def groupZeroChannel (s : State) (c : ChanNo) : State :=
  if zeroEligible s c then runEffect (enqueue c (takenType s c .short) s) else s

/-- A group ZERO queues a SHORT zero of every eligible channel, in ascending order (R80). -/
def groupZero (s : State) : State := allChans.foldl groupZeroChannel s

/-- ZERO; the group form does not read its fields (R77, R80). -/
def serveZero (form : Form) (fields : List Byte) (s : State) : Answer :=
  match form with
  | .group _ => if s.rau.regime = .incident then refuse .notNow s else answer false [] (groupZero s)
  | .addressed =>
    match indexOf 10 (u8 fields 0) with
    | none => refuse .outOfRange s
    | some c => zeroChannel c (u8 fields 1) s

/-- A ZERO frame. -/
def takeZero (form : Form) (fields : List Byte) (s : State) : State := takeRequest 0x20 true 2 (serveZero form) form fields s

/-- ZERO (R77, R80). -/
def execZero (form : Form) (fields : List Byte) (s : State) : Host.Outcome State Fault Refusal :=
  .next (takeZero form fields s)

/-! ### ZERO CANCEL (R81) -/

/-- The position of a channel's entry in the calibration queue. -/
def Cal.position (k : Cal) (c : ChanNo) : Option Nat := k.queue.findIdx? (·.channel == c)

/-- The effect of ZERO CANCEL by the position of the channel's entry (R81). -/
def cancelZero (c : ChanNo) (s : State) : Effect :=
  match s.cal.head with
  | none => (s, [])
  | some e =>
    if e.channel = c then
      if s.cal.phase.airOn then abortHead e .cancelled s else removeWaiting e s
    else ({ s with cal := { s.cal with queue := s.cal.queue.filter (·.channel != c) } }, [])

/-- The position field of the reply: FFh when the channel was not in the queue. -/
def positionByte (p : Option Nat) : Byte :=
  match p with
  | none => 0xFF
  | some n => byte n

/-- ZERO CANCEL is answered DONE whether or not the channel was queued. -/
def serveZeroCancel (fields : List Byte) (s : State) : Answer :=
  match indexOf 10 (u8 fields 0) with
  | none => refuse .outOfRange s
  | some c => answer false [byte c.val, positionByte (s.cal.position c)] (runEffect (cancelZero c s))

/-- A ZERO CANCEL frame. -/
def takeZeroCancel (form : Form) (fields : List Byte) (s : State) : State :=
  takeRequest 0x21 false 1 serveZeroCancel form fields s

/-- ZERO_CANCEL (R81). -/
def execZeroCancel (form : Form) (fields : List Byte) (s : State) : Host.Outcome State Fault Refusal :=
  .next (takeZeroCancel form fields s)

/-! ### The head's timers (R84, R91) -/

/-- The purge time has passed: ACCUMULATING (R84). -/
def purged (s : State) : State := if s.purgeOver then enterAccumulating s else s

/-- PURGE_TIME_EXPIRY (R84). -/
def execPurgeTimeExpiry (s : State) : Host.Outcome State Fault Refusal := .next (purged s)

/-- 120 s without a window sum: the head is aborted with NO SAMPLES (R91). -/
def noSamplesAbort (s : State) : State :=
  match s.cal.head with
  | none => s
  | some e => if s.samplesOver then runEffect (abortHead e .noSamples s) else s

/-- NO_SAMPLES (R91). -/
def execNoSamples (s : State) : Host.Outcome State Fault Refusal := .next (noSamplesAbort s)

/-! ### SPAN ENTER (R95, R96) -/

/-- The step size that a code names once a code above 1 is clamped to 1, FINE (R95). -/
def StepSize.ofCode (x : Nat) : StepSize := if x = 0 then .coarse else .fine

/-- A session may not be entered for the channel now (R95 step 2). -/
def spanBarred (s : State) (c : ChanNo) : Bool :=
  s.cal.span.isSome || s.rau.regime == .incident || s.cal.queued c || !(s.ch c).cfg.enabled || !s.inScanList c

/-- TRIM set on a channel. -/
def Channel.startTrim (x : Channel) : Channel := { x with flags := { x.flags with trim := true } }

/-- The session record that an accepted SPAN ENTER opens (R96). -/
def newSession (c : ChanNo) (step : StepSize) (s : State) : SpanSession :=
  { channel := c, step := step, entryG := (s.ch c).cfg.span, currentG := (s.ch c).cfg.span, countdown := 0,
    lastRequest := s.tb.uptime }

/-- The record opened and TRIM set, with the hand-over to the RAU (R96). -/
def openSession (c : ChanNo) (step : StepSize) (s : State) : Effect :=
  ({ s.modCh c Channel.startTrim with cal := { s.cal with span := some (newSession c step s) } }, contributes s c)

/-- SPAN ENTER of a channel (R95, R96). -/
def enterSpan (c : ChanNo) (code : Nat) (s : State) : Answer :=
  if spanBarred s c then refuse .notNow s
  else if (s.ch c).cfg.kind.calibratable then
    answer (decide (1 < code)) ([byte c.val, byte (StepSize.ofCode code).code] ++ le16 (s.ch c).cfg.span)
      (runEffect (openSession c (.ofCode code) s))
  else refuse .inconsistent s

/-- SPAN ENTER. -/
def serveSpanEnter (fields : List Byte) (s : State) : Answer :=
  match indexOf 10 (u8 fields 0) with
  | none => refuse .outOfRange s
  | some c => enterSpan c (u8 fields 1) s

/-- A SPAN ENTER frame. -/
def takeSpanEnter (form : Form) (fields : List Byte) (s : State) : State :=
  takeRequest 0x22 false 2 serveSpanEnter form fields s

/-- SPAN_ENTER (R95). -/
def execSpanEnter (form : Form) (fields : List Byte) (s : State) : Host.Outcome State Fault Refusal :=
  .next (takeSpanEnter form fields s)

/-! ### SPAN STEP, SPAN SET and SPAN EXIT (R98, R99, R102) -/

/-- The open session, where it is that of the channel named (R98, R99, R102). -/
def State.sessionOf (s : State) (c : ChanNo) : Option SpanSession := s.cal.span.filter (·.channel == c)

/-- A request that names the channel of the open session: OUT OF RANGE, NOT NOW, or what is done with the session. -/
def withSession (fields : List Byte) (s : State) (g : SpanSession → Answer) : Answer :=
  match indexOf 10 (u8 fields 0) with
  | none => refuse .outOfRange s
  | some c =>
    match s.sessionOf c with
    | none => refuse .notNow s
    | some sp => g sp

/-- The reply fields of the three requests: the channel and the span factor now held. -/
def spanReply (c : ChanNo) (g : Nat) : List Byte := byte c.val :: le16 g

/-- The span factor that a step asks for, before it is limited (R98). -/
def steppedSpan (g size : Nat) (down : Bool) (count : Nat) : Int :=
  if down then (g : Int) - (count * size : Nat) else (g : Int) + (count * size : Nat)

/-- SPAN STEP in the open session (R98). -/
def stepSpan (sp : SpanSession) (dir count : Nat) (s : State) : Answer :=
  let n := clampNat 1 16 count
  let wanted := steppedSpan sp.currentG sp.step.size (dir ≠ 0) n
  let g := (clampInt 2048 8191 wanted).toNat
  answer (decide (1 < dir) || decide (n ≠ count) || decide ((g : Int) ≠ wanted)) (spanReply sp.channel g) (writeSpan sp g s)

/-- SPAN STEP. -/
def serveSpanStep (fields : List Byte) (s : State) : Answer :=
  withSession fields s fun sp => stepSpan sp (u8 fields 1) (u8 fields 2) s

/-- A SPAN STEP frame. -/
def takeSpanStep (form : Form) (fields : List Byte) (s : State) : State :=
  takeRequest 0x23 false 3 serveSpanStep form fields s

/-- SPAN_STEP (R98). -/
def execSpanStep (form : Form) (fields : List Byte) (s : State) : Host.Outcome State Fault Refusal :=
  .next (takeSpanStep form fields s)

/-- SPAN SET (R99). -/
def serveSpanSet (fields : List Byte) (s : State) : Answer :=
  withSession fields s fun sp =>
    let g := clampNat 2048 8191 (u16 fields 1)
    answer (g != u16 fields 1) (spanReply sp.channel g) (writeSpan sp g s)

/-- A SPAN SET frame. -/
def takeSpanSet (form : Form) (fields : List Byte) (s : State) : State :=
  takeRequest 0x24 false 3 serveSpanSet form fields s

/-- SPAN_SET (R99). -/
def execSpanSet (form : Form) (fields : List Byte) (s : State) : Host.Outcome State Fault Refusal :=
  .next (takeSpanSet form fields s)

/-- SPAN EXIT keeps the current G (R102). -/
def serveSpanExit (fields : List Byte) (s : State) : Answer :=
  withSession fields s fun sp =>
    answer false (spanReply sp.channel sp.currentG) (runEffect (endSession sp .spanExit sp.currentG s))

/-- A SPAN EXIT frame. -/
def takeSpanExit (form : Form) (fields : List Byte) (s : State) : State :=
  takeRequest 0x25 false 1 serveSpanExit form fields s

/-- SPAN_EXIT (R102). -/
def execSpanExit (form : Form) (fields : List Byte) (s : State) : Host.Outcome State Fault Refusal :=
  .next (takeSpanExit form fields s)

/-- The inactivity timeout restores the entry G (R103). -/
def sessionTimedOut (s : State) : State :=
  match s.cal.span with
  | none => s
  | some sp => if s.sessionOver then runEffect (endSession sp .spanTimeout sp.entryG s) else s

/-- SPAN_TIMEOUT (R103). -/
def execSpanTimeout (s : State) : Host.Outcome State Fault Refusal := .next (sessionTimedOut s)

end Sys2Proof.Machine
end

