-- ==== Sys2Proof/Machine/DoorCommands.lean ====
section
/-! DEFINITION. The commands of the door supervisors (chapter 10): SET DOOR, DOOR COMMAND, the contacts and the doors' timers. -/

namespace Sys2Proof.Machine

/-! ### SET DOOR (R170, R171) -/

/-- A door with a new configuration. -/
def Door.withCfg (x : Door) (cfg : DoorConfig) : Door := { x with cfg := cfg }

/-- A door that leaves supervision (R171). -/
def Door.leave (x : Door) : Door :=
  { x.endEpisode with
    state := none, lock := false, engageWaiting := false, sign := .off, disagreeSince := none, latchOpenSince := none }

/-- Drive and sign of a door made present, after its first DOOR STATE (R171, R186, R187). -/
def settleDoor (d : DoorNo) (s : State) : State :=
  followUp d (s.modDoor d fun x => (x.carryDrive s.rau.regime).carrySign s.rau.regime)

/-- SET DOOR carried out, by the door's presence before and after (R171). -/
def placeDoor (d : DoorNo) (cfg : DoorConfig) (s : State) : State :=
  let s1 := s.modDoor d (·.withCfg cfg)
  match (s.door d).state, cfg.present with
  | none, false => s1
  | none, true => run [.reform] (settleDoor d (moveDoor d (deriveDoor s1 (s1.door d)) s1))
  | some _, true => runEffect (waitExpiry d (runEffect (holdExpiry d s1)))
  | some _, false => run [.reform] (handDoor (s1.modDoor d Door.leave))

/-- The door cannot be made present before its contacts have levels (R170). -/
def doorSetBarred (x : Door) (present : Bool) : Bool := present && x.state.isNone && !x.contacts.complete

/-- The pressure channel is none or a DIFF PRESSURE channel (R170). -/
def pressureOk (s : State) (p : Option ChanNo) : Bool :=
  match p with
  | none => true
  | some c => (s.ch c).cfg.kind == .diffPressure

/-- SET DOOR with its door number and pressure channel read. -/
def setDoorConfig (d : DoorNo) (cfg : DoorConfig) (sent : List Byte) (s : State) : Answer :=
  if doorSetBarred (s.door d) (yes sent 0) then refuse .notNow s
  else if pressureOk s cfg.pressure then
    answer (cfg.bytes != sent) (byte d.val :: cfg.bytes) (placeDoor d cfg s)
  else refuse .inconsistent s

/-- SET DOOR: the door number and the pressure channel are its indexes. -/
def serveSetDoor (fields : List Byte) (s : State) : Answer :=
  match indexOf 2 (u8 fields 0), optChannel (u8 fields 6) with
  | some d, some p => setDoorConfig d (takenDoor (fields.drop 1) p) (fields.drop 1) s
  | _, _ => refuse .outOfRange s

/-- A SET DOOR frame. -/
def takeSetDoor (form : Form) (fields : List Byte) (s : State) : State :=
  takeRequest 0x14 false 9 serveSetDoor form fields s

/-- SET_DOOR (R170). -/
def execSetDoor (form : Form) (fields : List Byte) (s : State) : Host.Outcome State Fault Refusal :=
  .next (takeSetDoor form fields s)

/-! ### DOOR COMMAND (R173, R189) -/

/-- The lock mode that an action leaves: 0 keeps it, 1 is LOCKED, above it RELEASED (R173). -/
def actionMode (held : LockMode) (action : Nat) : LockMode :=
  match action with
  | 0 => held
  | 1 => .locked
  | _ => .released

/-- One door's action: a mode that differs from the one held changes the drive (R173, R186). -/
def doorAction (d : DoorNo) (action : Nat) (s : State) : State :=
  let mode := actionMode (s.door d).lockMode action
  if mode = (s.door d).lockMode then s
  else
    let t := followUp d (s.modDoor d fun x => { x with lockMode := mode }.carryDrive s.rau.regime)
    run (doorWork (s.door d).state (t.door d).state) t

/-- SILENCE: the flag is set while the buzzer condition stands, and the buzzer stops (R189). -/
def silence (asked : Bool) (s : State) : State :=
  if asked && s.buzzerCondition then
    updateBuzzer { s with vestibule := { s.vestibule with silenced := true } }
  else s

/-- DOOR COMMAND carried out. DESIGN CHOICE (assumption 22): door 0 is taken before door 1; R185 lets either be first. -/
def commandDoors (fields : List Byte) (s : State) : State :=
  silence (yes fields 2) (doorAction 1 (u8 fields 1) (doorAction 0 (u8 fields 0) s))

/-- DOOR COMMAND is taken in every state, for doors present or not. -/
def serveDoorCommand (fields : List Byte) (s : State) : Answer :=
  let t := commandDoors fields s
  answer (decide (2 < u8 fields 0) || decide (2 < u8 fields 1) || decide (1 < u8 fields 2))
    [byte (t.door 0).lockMode.code, byte (t.door 1).lockMode.code, flag t.vestibule.silenced] t

/-- A DOOR COMMAND frame. -/
def takeDoorCommand (form : Form) (fields : List Byte) (s : State) : State :=
  takeRequest 0x2B true 3 serveDoorCommand form fields s

/-- DOOR_COMMAND (R173). -/
def execDoorCommand (form : Form) (fields : List Byte) (s : State) : Host.Outcome State Fault Refusal :=
  .next (takeDoorCommand form fields s)

/-! ### The contacts (R174) -/

/-- A contact's input takes a level: its debounce starts, starts again, or is abandoned. -/
def changeContact (d : DoorNo) (c : Contact) (level : Bool) (s : State) : State :=
  s.modDoor d fun x => { x with contacts := x.contacts.set c ((x.contacts.get c).change level s.tb.uptime) }

/-- DOOR_CONTACT_INPUT_CHANGE (R174). -/
def execDoorContactInputChange (d : DoorNo) (c : Contact) (level : Bool) (s : State) : Host.Outcome State Fault Refusal :=
  .next (changeContact d c level s)

/-- A contact's debounced level changes, where its input has stood for the debounce time. -/
def contactExpiry (d : DoorNo) (c : Contact) (s : State) : State :=
  if s.contactDue (s.door d) c then runEffect (contactDebounced d c s) else s

/-- DOOR_CONTACT_DEBOUNCED (R174). -/
def execDoorContactDebounced (d : DoorNo) (c : Contact) (s : State) : Host.Outcome State Fault Refusal :=
  .next (contactExpiry d c s)

/-! ### The doors' timers (R179, R180, R182) -/

/-- HOLD_LIMIT_EXPIRY (R179). -/
def execHoldLimitExpiry (d : DoorNo) (s : State) : Host.Outcome State Fault Refusal := .next (runEffect (holdExpiry d s))

/-- OPEN_WAIT_EXPIRY (R180). -/
def execOpenWaitExpiry (d : DoorNo) (s : State) : Host.Outcome State Fault Refusal := .next (runEffect (waitExpiry d s))

/-- DOOR_FAULT_TIMEOUT (R182). -/
def execDoorFaultTimeout (d : DoorNo) (s : State) : Host.Outcome State Fault Refusal := .next (runEffect (faultExpiry d s))

end Sys2Proof.Machine
end

