-- ==== Sys2Proof/Machine/FanCommands.lean ====
section
/-! DEFINITION. The commands of the fan drive units: SET FAN, the tach and the timers of the fan states (chapter 7), the trip inputs,
TRIP RESET and the retries, the start budget's recheck (chapter 8), OUTPUT INHIBIT (R125, R126) and the expiry of stamps (R21). -/

namespace Sys2Proof.Machine

/-! ### SET FAN (R106–R109) -/

/-- SET FAN is refused in this state of the fan (R107). -/
def fanSetBarred (state : Option FanState) (present : Bool) : Bool :=
  match state with
  | none => false
  | some .stopped => false
  | some .tripped => !present
  | some .waitingBudget => true
  | some .starting => true
  | some .changing => true
  | some .running => true
  | some .coasting => true
  | some .inhibited => true

/-- The configuration taken is consistent (R108). -/
def consistentFan (cfg : FanConfig) : Bool :=
  decide (cfg.stage1 < cfg.stage2) && decide (cfg.stage2 < cfg.stage3) && decide (cfg.targetPeriod 1 ≤ 65534)

/-- The configuration replaced. -/
def Fan.withCfg (x : Fan) (cfg : FanConfig) : Fan := { x with cfg := cfg }

/-- The first cause of a fan that finds enabled sources active: of several, the free order decides (R129). -/
def firstCause (s : State) (causes : List TripCause) : Option TripCause × Nat :=
  ((freeOrder s.choices causes).1.head?, (freeOrder s.choices causes).2)

/-- A fan with a new configuration whose enabled sources are active trips; otherwise it makes this move (R109, R129). -/
def tripOrMove (f : FanNo) (g : Fan → Fan) (s : State) : Effect :=
  match firstCause s (s.fan f).activeSources with
  | (none, _) => moveFan f g s
  | (some cause, n) =>
    moveFan f (·.toTripped cause s.tb.uptime) (fanEvent f .fanTrip (some cause.code) none { s with choices := n })

/-- What a newly present fan does after its presence has been handed on: the incident's role, or its stored stage (R109,
R149). -/
def joinWork (f : FanNo) : List Work := [.giveRole f, .startAttempt f]

/-- SET FAN carried out, by the fan's presence before and after (R109, R135). -/
def placeFan (f : FanNo) (cfg : FanConfig) (s : State) : Effect :=
  let s1 := s.modFan f (·.withCfg cfg)
  match (s.fan f).state, cfg.present with
  | none, false => (s1, [])
  | none, true =>
    let m := tripOrMove f (·.releasedTo s.inhibit.level) s1
    (m.1, m.2 ++ joinWork f)
  | some .tripped, true =>
    (s1.modFan f fun x => { x with retryDue := x.dueRetry s.tb.uptime }, [])
  | some _, true =>
    if (s1.fan f).activeSources.isEmpty then (s1, []) else tripOrMove f id s1
  | some _, false => moveFan f (fun x => { x.powerOff with state := none }) s1

/-- SET FAN with its fan number read. -/
def setFanConfig (f : FanNo) (sent : List Byte) (s : State) : Answer :=
  if fanSetBarred (s.fan f).state (yes sent 0) then refuse .notNow s
  else if consistentFan (takenFan sent) then
    answer ((takenFan sent).bytes != sent) (byte f.val :: (takenFan sent).bytes) (runEffect (placeFan f (takenFan sent) s))
  else refuse .inconsistent s

/-- SET FAN. -/
def serveSetFan (fields : List Byte) (s : State) : Answer :=
  match indexOf 4 (u8 fields 0) with
  | none => refuse .outOfRange s
  | some f => setFanConfig f (fields.drop 1) s

/-- A SET FAN frame. -/
def takeSetFan (form : Form) (fields : List Byte) (s : State) : State :=
  takeRequest 0x13 false 22 serveSetFan form fields s

/-- SET_FAN (R106). -/
def execSetFan (form : Form) (fields : List Byte) (s : State) : Host.Outcome State Fault Refusal :=
  .next (takeSetFan form fields s)

/-! ### The tach (R112) -/

/-- An edge of the tach input; a falling edge only moves the level (DEDUCED, assumption 9). -/
def tachEdge (f : FanNo) (edge : TachEdge) (s : State) : State :=
  match edge with
  | .rising => runEffect (risingEdge f (s.modFan f fun x => { x with tachLevel := true }))
  | .falling => s.modFan f fun x => { x with tachLevel := false }

/-- TACH_MEASUREMENT (R112). -/
def execTachMeasurement (f : FanNo) (edge : TachEdge) (s : State) : Host.Outcome State Fault Refusal :=
  .next (tachEdge f edge s)

/-- The tach count has reached 65535. -/
def tachSaturated (f : FanNo) (s : State) : State := if (s.fan f).tachOver then runEffect (saturate f s) else s

/-- TACH_SATURATION (R112). -/
def execTachSaturation (f : FanNo) (s : State) : Host.Outcome State Fault Refusal := .next (tachSaturated f s)

/-! ### The timers of the fan states (R118, R119, R122, R123) -/

/-- The start timeout: RUNNING with SPEED OFF at 80 % or with STALL not enabled, a trip otherwise (R118). -/
def startTimedOut (f : FanNo) (s : State) : Effect :=
  if atLeast80 (s.fan f).cfg (s.fan f).effStage (s.fan f).stateReading || !(s.fan f).enabled .stall then speedOff f s
  else tripFan f .stall s

/-- The start timeout, where it has passed. -/
def startExpiry (f : FanNo) (s : State) : State := if s.startOver f then runEffect (startTimedOut f s) else s

/-- START_TIMEOUT (R118). -/
def execStartTimeout (f : FanNo) (s : State) : Host.Outcome State Fault Refusal := .next (startExpiry f s)

/-- The change timeout: RUNNING with SPEED OFF whatever the speed (R119). -/
def changeExpiry (f : FanNo) (s : State) : State := if s.changeOver f then runEffect (speedOff f s) else s

/-- CHANGE_TIMEOUT (R119). -/
def execChangeTimeout (f : FanNo) (s : State) : Host.Outcome State Fault Refusal := .next (changeExpiry f s)

/-- COAST TIMEOUT, then the end of the coast (R122). -/
def coastExpiry (f : FanNo) (s : State) : State :=
  if s.coastOver f then runEffect (endCoast f (fanEvent f .coastTimeout none none s)) else s

/-- COAST_TIMEOUT (R122). -/
def execCoastTimeout (f : FanNo) (s : State) : Host.Outcome State Fault Refusal := .next (coastExpiry f s)

/-- The stall watch has run out: it stops, and STALL is raised (R123). -/
def stallTimedOut (f : FanNo) (s : State) : Effect := raiseStall f (s.modFan f fun x => { x with stallSince := none })

/-- The stall watch, where it has run out. -/
def stallExpiry (f : FanNo) (s : State) : State := if s.stallOver f then runEffect (stallTimedOut f s) else s

/-- STALL_WATCH_EXPIRY (R123). -/
def execStallWatchExpiry (f : FanNo) (s : State) : Host.Outcome State Fault Refusal := .next (stallExpiry f s)

/-! ### The start budget (R139) and the stamps (R21) -/

/-- The check at the ageing of the oldest in-window stamp (R139). -/
def recheckBudget (f : FanNo) (s : State) : Effect :=
  let kept := s.windowStamps f
  if kept.length < (s.fan f).cfg.budget then
    (s.modFan f fun x => { x with history := kept, startDue := true }, [.grantDue])
  else
    (fanEvent f .budgetWait none (some (s.waitSeconds (s.fan f).cfg kept)) (s.modFan f fun x => { x with history := kept }), [])

/-- The check, where a stamp has aged out. -/
def budgetExpiry (f : FanNo) (s : State) : State := if s.budgetOver f then runEffect (recheckBudget f s) else s

/-- BUDGET_RECHECK (R139). -/
def execBudgetRecheck (f : FanNo) (s : State) : Host.Outcome State Fault Refusal := .next (budgetExpiry f s)

/-- The stamps of start histories, of the last change and of armed measurements that have reached 2^31 ms held as expired
(R21). -/
def expireStamps (s : State) : State :=
  { s with
    fans := each (fun x : Fan => { x with history := x.history.map s.expire }) s.fans
    rau := { s.rau with lastChange := s.rau.lastChange.map s.expire }
    doors := each (fun x : Door => { x with armed := x.armed.map s.expire }) s.doors }

/-- STAMP_EXPIRY (R21). -/
def execStampExpiry (s : State) : Host.Outcome State Fault Refusal := .next (expireStamps s)

/-! ### The trip inputs (R128, R129) -/

/-- The overcurrent comparator input takes a level. -/
def changeOvercurrent (f : FanNo) (level : Bool) (s : State) : State :=
  let s1 := s.modFan f fun x => { x with overcurrent := level }
  if level && !(s.fan f).overcurrent then runEffect (sourceActive f .overcurrent s1) else s1

/-- OVERCURRENT_CHANGE (R128). -/
def execOvercurrentChange (f : FanNo) (level : Bool) (s : State) : Host.Outcome State Fault Refusal :=
  .next (changeOvercurrent f level s)

/-- One debounced trip input replaced. -/
def Fan.setTripInput (x : Fan) (i : TripInput) (d : Debounced) : Fan :=
  match i with
  | .vibration => { x with vibration := d }
  | .driveFault => { x with driveFault := d }

/-- A vibration switch or drive fault contact input takes a level. -/
def changeTripInput (f : FanNo) (i : TripInput) (level : Bool) (s : State) : State :=
  s.modFan f fun x => x.setTripInput i ((x.tripInput i).change level s.tb.uptime)

/-- TRIP_INPUT_CHANGE (R128). -/
def execTripInputChange (f : FanNo) (i : TripInput) (level : Bool) (s : State) : Host.Outcome State Fault Refusal :=
  .next (changeTripInput f i level s)

/-- The cause that a trip input stands for. -/
def inputCause (i : TripInput) : TripCause :=
  match i with
  | .vibration => .vibration
  | .driveFault => .driveFault

/-- The debounced level of a trip input follows it; an enabled source that becomes active trips the fan. -/
def settleTripInput (f : FanNo) (i : TripInput) (s : State) : State :=
  if s.debounced ((s.fan f).tripInput i) then
    runEffect (sourceActive f (inputCause i) (s.modFan f fun x => x.setTripInput i (x.tripInput i).settle))
  else s

/-- TRIP_SOURCE_DEBOUNCED (R128). -/
def execTripSourceDebounced (f : FanNo) (i : TripInput) (s : State) : Host.Outcome State Fault Refusal :=
  .next (settleTripInput f i s)

/-! ### Clearing the latch (R132, R134, R135) -/

/-- The reply fields of TRIP RESET: the fan and its state code after the request. -/
def tripReply (f : FanNo) (s : State) : List Byte := [byte f.val, byte (fanStateCode (s.fan f).state)]

/-- TRIP RESET of a fan (R132). -/
def resetTrip (f : FanNo) (s : State) : Answer :=
  if (s.fan f).latch.isSome then
    if (s.fan f).activeSources.isEmpty then
      let t := runEffect (clearTrip f 1 0 s)
      answer false (tripReply f t) t
    else refuse .notNow s
  else answer false (tripReply f s) s

/-- TRIP RESET. -/
def serveTripReset (fields : List Byte) (s : State) : Answer :=
  match indexOf 4 (u8 fields 0) with
  | none => refuse .outOfRange s
  | some f => resetTrip f s

/-- A TRIP RESET frame. -/
def takeTripReset (form : Form) (fields : List Byte) (s : State) : State :=
  takeRequest 0x2A false 1 serveTripReset form fields s

/-- TRIP_RESET (R132). -/
def execTripReset (form : Form) (fields : List Byte) (s : State) : Host.Outcome State Fault Refusal :=
  .next (takeTripReset form fields s)

/-- A retry due: cleared by retry, or put off by one interval while an enabled level source is active (R134). -/
def retryTrip (f : FanNo) (s : State) : Effect :=
  if (s.fan f).activeSources.isEmpty then clearTrip f 2 ((s.fan f).retryCount + 1) s
  else (s.modFan f fun x => { x with retryDue := some { since := s.tb.uptime, interval := x.cfg.retryInterval } }, [])

/-- The retry, where it is due. -/
def retryExpiry (f : FanNo) (s : State) : State := if s.retryOver f then runEffect (retryTrip f s) else s

/-- AUTO_RETRY (R134). -/
def execAutoRetry (f : FanNo) (s : State) : Host.Outcome State Fault Refusal := .next (retryExpiry f s)

/-- 600 s of continuous RUNNING set the retry count to 0 (R135). -/
def clearRetryCount (f : FanNo) (s : State) : State :=
  if s.runOver f then s.modFan f fun x => { x with retryCount := 0, runSince := none } else s

/-- RETRY_COUNT_CLEAR (R135). -/
def execRetryCountClear (f : FanNo) (s : State) : Host.Outcome State Fault Refusal := .next (clearRetryCount f s)

/-! ### OUTPUT INHIBIT (R125, R126) -/

/-- The OUTPUT INHIBIT input takes a level. -/
def changeInhibit (level : Bool) (s : State) : State := { s with inhibit := s.inhibit.change level s.tb.uptime }

/-- INHIBIT_INPUT_CHANGE (R125). -/
def execInhibitInputChange (level : Bool) (s : State) : Host.Outcome State Fault Refusal := .next (changeInhibit level s)

/-- A present fan that is neither TRIPPED nor INHIBITED (R126). -/
def State.inhibitable (s : State) (f : FanNo) : Bool := availableState (s.fan f).state

/-- Such a fan enters INHIBITED from whatever state it is in (R126). -/
def inhibitFan (s : State) (f : FanNo) : State :=
  if s.inhibitable f then runEffect (moveFan f Fan.toInhibited s) else s

/-- The fan is INHIBITED. -/
def State.inhibited (s : State) (f : FanNo) : Bool := (s.fan f).state == some .inhibited

/-- An INHIBITED fan enters STOPPED and follows its stored stage (R126). -/
def releaseInhibited (s : State) (f : FanNo) : State :=
  if s.inhibited f then
    runEffect ((moveFan f Fan.toStopped s).1, (moveFan f Fan.toStopped s).2 ++ [.startAttempt f])
  else s

/-- These fans take a change of the inhibit one after another, in an order that the manual leaves open (R124, assumption 3). -/
def inFreeOrder (fans : List FanNo) (g : State → FanNo → State) (s : State) : State :=
  (freeOrder s.choices fans).1.foldl g { s with choices := (freeOrder s.choices fans).2 }

/-- The debounced level with its entry, appended before the fans act (R125). -/
def settleInhibit (code : EventCode) (s : State) : State :=
  appendEvent .node code none none { s with inhibit := s.inhibit.settle }

/-- The debounced OUTPUT INHIBIT becomes active (R126). -/
def inhibitActive (s : State) : State :=
  if s.inhibitOver true then inFreeOrder (allFans.filter s.inhibitable) inhibitFan (settleInhibit .inhibitOn s) else s

/-- INHIBIT_ON (R126). -/
def execInhibitOn (s : State) : Host.Outcome State Fault Refusal := .next (inhibitActive s)

/-- The debounced OUTPUT INHIBIT becomes inactive (R126). -/
def inhibitInactive (s : State) : State :=
  if s.inhibitOver false then inFreeOrder (allFans.filter s.inhibited) releaseInhibited (settleInhibit .inhibitOff s) else s

/-- INHIBIT_OFF (R126). -/
def execInhibitOff (s : State) : Host.Outcome State Fault Refusal := .next (inhibitInactive s)

end Sys2Proof.Machine
end

