-- ==== Sys2Proof/Machine/Reset.lean ====
section
/-! DEFINITION. The two resets, block by block: the full reset (R19, R24, R32, R53, R54, R93, R105, R127, R143, R169, R190) and the node
reset that a NODE RESET request leads to at the end of its reply (R18). -/

namespace Sys2Proof.Machine

/-! ### Full reset -/

/-- The contacts of a door after a reset at this moment (R174). -/
def Contacts.restart (cs : Contacts) (now : Ms) : Contacts :=
  { closed := cs.closed.restart now, latch := cs.latch.restart now, escapeBar := cs.escapeBar.restart now,
    reverseHandle := cs.reverseHandle.restart now, lockFeedback := cs.lockFeedback.restart now }

/-- A fan record at full reset: its inputs stand as they stand, and their debounces start (R127, R143). -/
def Fan.fullReset (x : Fan) : Fan :=
  { Fan.initial with
    tachLevel := x.tachLevel, overcurrent := x.overcurrent, vibration := x.vibration.restart 0,
    driveFault := x.driveFault.restart 0 }

/-- A door record at full reset: its contact inputs stand as they stand (R190). -/
def Door.fullReset (x : Door) : Door := { Door.initial with contacts := x.contacts.restart 0 }

/-- The part after a full reset that reads these straps. The inputs stand; everything else takes its full-reset value. -/
def fullReset (straps : Straps) (s : State) : State :=
  { lif := .initial straps, tb := .initial, evq := { entries := [.nodeStart], gapPending := false }, scn := .initial,
    channels := Vector.replicate 10 .initial, cal := .initial, fans := each Fan.fullReset s.fans,
    inhibit := s.inhibit.restart 0, rau := .initial straps.fallback, doors := each Door.fullReset s.doors,
    vestibule := .initial, choices := s.choices, pending := s.pending }

/-- FULL_RESET (R19). -/
def execFullReset (straps : Straps) (s : State) : Host.Outcome State Fault Refusal := .next (fullReset straps s)

/-! ### Node reset -/

/-- The LIF's node reset: HUNT, the service over, and the silence timer restarted (R19). -/
def resetLif (s : State) : State :=
  { s with lif := { s.lif with
      rx := .hunt, service := none, silenceSince := some s.tb.uptime, silenceLimit := s.lif.silenceTimeout } }

/-- The scan's node reset: the list, mode and pause are kept (R53). -/
def Scan.nodeReset (k : Scan) : Scan := { Scan.initial with list := k.list, mode := k.mode, pause := k.pause }

/-- A channel's node reset: its configuration is kept (R54). -/
def Channel.nodeReset (x : Channel) : Channel := restartedChannel x.cfg

/-- The open session ended with its entry G restored, and SPAN ABORTED (R105). -/
def abortSession (s : State) : State :=
  match s.cal.span with
  | none => s
  | some sp => calEntry sp.channel .spanAborted sp.entryG (setSpan sp.channel sp.entryG s)

/-- The sequencer's, the channels' and the calibration unit's node resets (R53, R54, R93). -/
def resetSensing (s : State) : State :=
  { s with scn := s.scn.nodeReset, channels := each Channel.nodeReset s.channels, cal := .initial }

/-- The stage 0 that the RAU's node reset hands to a fan (R169). -/
def Fan.stageZero (x : Fan) : Fan := { x with reqStage := 0, effStage := 0 }

/-- A fan's node reset: powered fans coast, a waiting fan stops without an entry, and the others stay (R127, R143). -/
def Fan.nodeReset (x : Fan) (now : Ms) : Fan :=
  if poweredState x.state then (x.toCoasting now).stageZero
  else if x.state = some .waitingBudget then x.toStopped.stageZero
  else x.stageZero

/-- The RAU's node reset, after the channels' (R169). -/
def Rau.nodeReset (r : Rau) (contrib : Vector Contribution 10) : Rau :=
  { r with
    regime := .manual, role := none, imax := 0, step := 0, sought := r.floor, demand := r.floor, lastChange := none,
    fallWaiting := false, fans := each (fun x : RauFan => { x with req := 0, eff := 0 }) r.fans, short := false, doorOpen := false,
    contrib := contrib }

/-- A door's node reset (R190). -/
def Door.nodeReset (x : Door) (now : Ms) : Door :=
  { x.endEpisode with
    contacts := x.contacts.restart now
    state := if x.cfg.present then some .initial else none
    engageWaiting := x.cfg.present && x.lockMode == .locked && !x.lock
    sign := if x.cfg.present then .steady else .off
    barSeen := false, handleSeen := false, disagreeSince := none, latchOpenSince := none }

/-- The fans', the RAU's and the doors' node resets. -/
def resetPlant (s : State) : State :=
  { s with
    fans := each (fun x : Fan => x.nodeReset s.tb.uptime) s.fans
    rau := s.rau.nodeReset (Vector.ofFn fun c => contributionOf s c)
    doors := each (fun x : Door => x.nodeReset s.tb.uptime) s.doors
    vestibule := .initial }

/-- The node reset: NODE RESET, then every block's own (R18, R32). -/
def nodeReset (s : State) : State :=
  resetPlant (resetSensing (abortSession (resetLif (appendEvent .node .nodeReset none none s))))

end Sys2Proof.Machine
end

