-- ==== Sys2Proof/Machine/SensingCommands.lean ====
section
/-! DEFINITION. The commands of the channel table and the scan sequencer (chapter 3): READ VALUES, SET CHANNEL, SET SCAN, SCAN START,
SCAN STOP, and the scan's own events. -/

namespace Sys2Proof.Machine

/-! ### READ VALUES (R49) -/

/-- The channels that a mask selects, in ascending order. -/
def selectedChans (mask : Nat) : List ChanNo := allChans.filter fun c => mask.testBit c.val

/-- FRESH and OVERWRITTEN cleared. -/
def Channel.readOut (x : Channel) : Channel := { x with flags := { x.flags with fresh := false, overwritten := false } }

/-- FRESH and OVERWRITTEN cleared on the channels that a mask selects. -/
def clearRead (mask : Nat) (s : State) : State :=
  { s with channels := Vector.ofFn fun c => if mask.testBit c.val then (s.ch c).readOut else s.ch c }

/-- READ VALUES copies the records of the selected channels and then clears their FRESH and OVERWRITTEN. -/
def serveReadValues (fields : List Byte) (s : State) : Answer :=
  let mask := u16 fields 0
  if 1024 ≤ mask then refuse .outOfRange s
  else answer false (le16 mask ++ (selectedChans mask).flatMap (valueRecord s)) (clearRead mask s)

/-- A READ VALUES frame. -/
def takeReadValues (form : Form) (fields : List Byte) (s : State) : State :=
  takeRequest 0x02 false 2 serveReadValues form fields s

/-- READ_VALUES (R49). -/
def execReadValues (form : Form) (fields : List Byte) (s : State) : Host.Outcome State Fault Refusal :=
  .next (takeReadValues form fields s)

/-! ### SET CHANNEL (R35–R39) -/

/-- The channel is that of the open session, or stands in the calibration queue (R36). -/
def State.calibrationHolds (s : State) (c : ChanNo) : Bool := s.cal.queued c || s.inSession c

/-- A source that is none, or another channel of a kind that serves (R38). -/
def sourceOk (s : State) (c : ChanNo) (source : Option ChanNo) (serves : ChanKind → Bool) : Bool :=
  match source with
  | none => true
  | some x => x != c && serves (s.ch x).cfg.kind

/-- Some other channel names this one as its temperature source. -/
def State.namedTemp (s : State) (c : ChanNo) : Bool := allChans.any fun x => x != c && (s.ch x).cfg.tempSource == some c

/-- Some other channel names this one as its cross source. -/
def State.namedCross (s : State) (c : ChanNo) : Bool := allChans.any fun x => x != c && (s.ch x).cfg.crossSource == some c

/-- The configuration taken for a channel is consistent (R38). -/
def consistentChannel (s : State) (c : ChanNo) (cfg : ChanConfig) : Bool :=
  decide (cfg.l1 < cfg.l2) && decide (cfg.l2 < cfg.l3) && sourceOk s c cfg.tempSource (· == .temperature) &&
    sourceOk s c cfg.crossSource ChanKind.gas &&
    (cfg.kind == (s.ch c).cfg.kind ||
      ((!s.namedTemp c || cfg.kind == .temperature) && (!s.namedCross c || cfg.kind.gas)))

/-- SET CHANNEL with its channel and its source fields read: the state check, clamping, consistency, and the restart. -/
def setChannel (c : ChanNo) (cfg : ChanConfig) (sent : List Byte) (s : State) : Answer :=
  if s.calibrationHolds c then refuse .notNow s
  else if consistentChannel s c cfg then
    answer (cfg.bytes != sentChannel sent cfg) (byte c.val :: cfg.bytes) (runEffect (restartChannel c cfg s))
  else refuse .inconsistent s

/-- SET CHANNEL: the channel number and the two source fields are the indexes of R36. -/
def serveSetChannel (fields : List Byte) (s : State) : Answer :=
  match indexOf 10 (u8 fields 0), optChannel (u8 fields 20), optChannel (u8 fields 21) with
  | some c, some ts, some cs => setChannel c (takenChannel (fields.drop 1) ts cs) (fields.drop 1) s
  | _, _, _ => refuse .outOfRange s

/-- A SET CHANNEL frame. -/
def takeSetChannel (form : Form) (fields : List Byte) (s : State) : State :=
  takeRequest 0x11 false 42 serveSetChannel form fields s

/-- SET_CHANNEL (R35). -/
def execSetChannel (form : Form) (fields : List Byte) (s : State) : Host.Outcome State Fault Refusal :=
  .next (takeSetChannel form fields s)

/-! ### SET SCAN (R40) -/

/-- The head is PURGING or ACCUMULATING, or a span session is open: the scan is locked (R40, R44). -/
def State.scanLocked (s : State) : Bool := s.cal.phase.airOn || s.cal.span.isSome

/-- The entries of a scan list, or none when one names a channel above 9. -/
def readEntries (bs : List Byte) : Option (List ChanNo) :=
  match bs with
  | [] => some []
  | b :: rest =>
    match indexOf 10 b.toNat, readEntries rest with
    | some c, some l => some (c :: l)
    | _, _ => none

/-- The list, mode and pause replaced together (R40). -/
def Scan.replaced (k : Scan) (list : List ChanNo) (mode : ScanMode) (pause : Nat) : Scan :=
  { k with list := list, mode := mode, pause := pause }

/-- Some field of a SET SCAN lies outside its range (R40). -/
def clampedScan (fields : List Byte) : Bool :=
  decide (16 < u8 fields 0) || decide (1 < u8 fields 17) || decide (1000 < u16 fields 18)

/-- SET SCAN with its entries read. -/
def setScan (list : List ChanNo) (fields : List Byte) (s : State) : Answer :=
  if s.scn.state ≠ .idle ∨ s.scanLocked = true then refuse .notNow s
  else
    let k := s.scn.replaced list (if u8 fields 17 = 0 then .single else .continuous) (min (u16 fields 18) 1000)
    answer (clampedScan fields) k.bytes { s with scn := k }

/-- SET SCAN: the entries that make up the list are the first ones, as many as the length states, sixteen at most. -/
def serveSetScan (fields : List Byte) (s : State) : Answer :=
  match readEntries ((fields.drop 1).take (min (u8 fields 0) 16)) with
  | none => refuse .outOfRange s
  | some list => setScan list fields s

/-- A SET SCAN frame. -/
def takeSetScan (form : Form) (fields : List Byte) (s : State) : State :=
  takeRequest 0x12 false 20 serveSetScan form fields s

/-- SET_SCAN (R40). -/
def execSetScan (form : Form) (fields : List Byte) (s : State) : Host.Outcome State Fault Refusal :=
  .next (takeSetScan form fields s)

/-! ### SCAN START and SCAN STOP (R41, R44) -/

/-- Every sample window emptied (R41 step 1). -/
def emptyWindows (s : State) : State := { s with channels := each (fun x : Channel => { x with window := [] }) s.channels }

/-- The scan at the start of a first pass (R41 step 2). -/
def Scan.started (k : Scan) (entry : Nat) : Scan :=
  { k with start := entry, current := entry, visits := 0, stopPending := false, begun := false }

/-- An accepted SCAN START (R41). -/
def startScan (entry : Nat) (s : State) : State :=
  beginVisit { emptyWindows s with scn := s.scn.started entry }

/-- SCAN START: the start entry is an index, the scan must be IDLE, and the list must hold the entry. -/
def serveScanStart (fields : List Byte) (s : State) : Answer :=
  let entry := u8 fields 0
  if 15 < entry then refuse .outOfRange s
  else if s.scn.state ≠ .idle then refuse .notNow s
  else if s.scn.list.length ≤ entry then refuse .inconsistent s
  else answer false [] (startScan entry s)

/-- A SCAN START frame. -/
def takeScanStart (form : Form) (fields : List Byte) (s : State) : State :=
  takeRequest 0x18 true 1 serveScanStart form fields s

/-- SCAN_START (R41). -/
def execScanStart (form : Form) (fields : List Byte) (s : State) : Host.Outcome State Fault Refusal :=
  .next (takeScanStart form fields s)

/-- What SCAN STOP does in each scan state (R44). -/
def Scan.stopped (k : Scan) : Scan :=
  match k.state with
  | .idle => k
  | .pausing => k.toIdle
  | .settling => { k with stopPending := true }
  | .converting => { k with stopPending := true }

/-- SCAN STOP is refused while the scan is locked. -/
def serveScanStop (_fields : List Byte) (s : State) : Answer :=
  if s.scanLocked then refuse .notNow s else answer false [] { s with scn := s.scn.stopped }

/-- A SCAN STOP frame. -/
def takeScanStop (form : Form) (fields : List Byte) (s : State) : State :=
  takeRequest 0x19 false 0 serveScanStop form fields s

/-- SCAN_STOP (R44). -/
def execScanStop (form : Form) (fields : List Byte) (s : State) : Host.Outcome State Fault Refusal :=
  .next (takeScanStop form fields s)

/-! ### The scan's own events (R34, R42, R43) -/

/-- The settle time has passed: a conversion starts (R42). -/
def settled (s : State) : State := if s.settleOver then { s with scn := s.scn.toConverting } else s

/-- SETTLE_TIME_EXPIRY (R42). -/
def execSettleTimeExpiry (s : State) : Host.Outcome State Fault Refusal := .next (settled s)

/-- The code appended to the visited channel's window, with all that a completed window leads to (R45). -/
def sampleTaken (code : Code) (s : State) : State :=
  match s.scn.visited with
  | none => s
  | some c => takeSample c code s

/-- A conversion completes: the sample, then the end of the visit (R34, R42). -/
def converted (code : Code) (s : State) : State :=
  if s.conversionOver then endVisit (sampleTaken code s) else s

/-- CONVERSION_COMPLETE (R34). -/
def execConversionComplete (code : Code) (s : State) : Host.Outcome State Fault Refusal := .next (converted code s)

/-- The pass pause has passed: the next pass begins (R43). -/
def pauseEnded (s : State) : State := if s.pauseOver then beginVisit { s with scn := s.scn.toNextPass } else s

/-- PASS_PAUSE_EXPIRY (R43). -/
def execPassPauseExpiry (s : State) : Host.Outcome State Fault Refusal := .next (pauseEnded s)

end Sys2Proof.Machine
end

