-- ==== Sys2Proof/Machine/StatusCommands.lean ====
section
/-! DEFINITION. The requests that concern the whole node: STATUS POLL, FETCH EVENTS, READ PAGE, SET TIME, NODE RESET and SET NODE
(chapters 1, 2 and 9). -/

namespace Sys2Proof.Machine

/-! ### STATUS POLL (R25) -/

/-- STATUS POLL is always answered DONE with the status summary, LINE LOST as it stood when the frame arrived. -/
def serveStatusPoll (lost : Bool) (_fields : List Byte) (s : State) : Answer := answer false (statusBytes lost s) s

/-- A STATUS POLL frame. -/
def takeStatusPoll (form : Form) (fields : List Byte) (s : State) : State :=
  takeRequest 0x01 false 0 (serveStatusPoll s.lif.lineLost) form fields s

/-- STATUS_POLL (R25). -/
def execStatusPoll (form : Form) (fields : List Byte) (s : State) : Host.Outcome State Fault Refusal :=
  .next (takeStatusPoll form fields s)

/-! ### FETCH EVENTS (R30) -/

/-- The reply fields of a fetch: how many entries it carries, how many are left, and the entries. -/
def fetchReply (taken : List Event) (left : Nat) : List Byte :=
  [byte taken.length, byte left] ++ taken.flatMap (·.bytes)

/-- FETCH EVENTS removes the oldest entries, up to six, and carries them. -/
def serveFetchEvents (_fields : List Byte) (s : State) : Answer :=
  answer false (fetchReply s.evq.fetch.1 s.evq.fetch.2.entries.length) { s with evq := s.evq.fetch.2 }

/-- A FETCH EVENTS frame. -/
def takeFetchEvents (form : Form) (fields : List Byte) (s : State) : State :=
  takeRequest 0x03 false 0 serveFetchEvents form fields s

/-- FETCH_EVENTS (R30). -/
def execFetchEvents (form : Form) (fields : List Byte) (s : State) : Host.Outcome State Fault Refusal :=
  .next (takeFetchEvents form fields s)

/-! ### READ PAGE (R15) -/

/-- READ PAGE returns a page number and that page's fields. -/
def serveReadPage (fields : List Byte) (s : State) : Answer :=
  match indexOf 21 (u8 fields 0) with
  | none => refuse .outOfRange s
  | some n => answer false (byte n.val :: s.page n) s

/-- A READ PAGE frame. -/
def takeReadPage (form : Form) (fields : List Byte) (s : State) : State :=
  takeRequest 0x04 false 1 serveReadPage form fields s

/-- READ_PAGE (R15). -/
def execReadPage (form : Form) (fields : List Byte) (s : State) : Host.Outcome State Fault Refusal :=
  .next (takeReadPage form fields s)

/-! ### SET TIME (R23) -/

/-- The tunnel clock loaded, its prescaler and CLOCK UNSET cleared, and CLOCK SET appended with the step (R23). -/
def setClock (t : Ms) (s : State) : State :=
  appendEvent .node .clockSet none (some (t - s.tb.clock).toInt)
    { s with tb := { s.tb with clock := t, clockPre := 0, clockUnset := false } }

/-- SET TIME is always carried out; its reply carries the value taken. -/
def serveSetTime (fields : List Byte) (s : State) : Answer := answer false (le32 (u32 fields 0)) (setClock (u32 fields 0) s)

/-- A SET TIME frame. -/
def takeSetTime (form : Form) (fields : List Byte) (s : State) : State :=
  takeRequest 0x05 true 4 serveSetTime form fields s

/-- SET_TIME (R23). -/
def execSetTime (form : Form) (fields : List Byte) (s : State) : Host.Outcome State Fault Refusal :=
  .next (takeSetTime form fields s)

/-! ### NODE RESET (R18) -/

/-- NODE RESET is refused in INCIDENT; otherwise it is answered DONE and carried out at the end of the reply. -/
def serveNodeReset (_fields : List Byte) (s : State) : Answer :=
  if s.rau.regime = .incident then refuse .notNow s else { answer false [] s with resetAfter := true }

/-- A NODE RESET frame. -/
def takeNodeReset (form : Form) (fields : List Byte) (s : State) : State :=
  takeRequest 0x06 false 0 serveNodeReset form fields s

/-- NODE_RESET (R18). -/
def execNodeReset (form : Form) (fields : List Byte) (s : State) : Host.Outcome State Fault Refusal :=
  .next (takeNodeReset form fields s)

/-! ### SET NODE (R17, R153) -/

/-- The six settings stored; the silence timer runs from this moment with the new value (R13). -/
def storeNode (n : NodeSettings) (s : State) : State :=
  { s with
    lif := { s.lif with
      silenceTimeout := n.silenceTimeout, silenceLimit := n.silenceTimeout, silenceSince := some s.tb.uptime }
    rau := { s.rau with
      fallback := n.fallback, doorCap := n.doorCap, autoHold := n.autoHold, faultIndex := n.faultIndex,
      urgentIndex := n.urgentIndex } }

/-- The participating channels in SENSOR FAULT, whose contributed index is the fault index (R72). -/
def State.faultContributors (s : State) : List ChanNo :=
  allChans.filter fun c => (s.ch c).cfg.participates && (s.ch c).state == .sensorFault

/-- A changed door cap forms the effective stages anew (R153). -/
def actDoorCap (old new : Nat) (s : State) : State := if old = new then s else run [.reform] s

/-- A changed fault index changes the contributions that rest on it (R72, R153). -/
def actFaultIndex (old new : Nat) (s : State) : State :=
  if old = new then s else run (s.faultContributors.map .contribution) s

/-- A changed auto hold with a fall waiting, or a changed urgent index under the deferral, re-evaluates at once (R153). -/
def actReevaluate (holdChanged urgentChanged : Bool) (s : State) : State :=
  if s.rau.regime = .auto ∧ ((holdChanged && s.rau.fallWaiting) || (urgentChanged && s.deferral)) = true then
    run [.reevaluate] s
  else s

/-- SET NODE carried out: the settings stored, then each owner's effect (DESIGN CHOICE, assumption 12: their order). -/
def setNode (n : NodeSettings) (s : State) : State :=
  actReevaluate (s.rau.autoHold != n.autoHold) (s.rau.urgentIndex != n.urgentIndex)
    (actFaultIndex s.rau.faultIndex n.faultIndex (actDoorCap s.rau.doorCap n.doorCap (storeNode n s)))

/-- SET NODE is taken in every state; its reply carries the six values now held. -/
def serveSetNode (fields : List Byte) (s : State) : Answer :=
  let t := setNode (takenNode fields) s
  answer (nodeBytes t != fields) (nodeBytes t) t

/-- A SET NODE frame. -/
def takeSetNode (form : Form) (fields : List Byte) (s : State) : State :=
  takeRequest 0x10 false 7 serveSetNode form fields s

/-- SET_NODE (R17). -/
def execSetNode (form : Form) (fields : List Byte) (s : State) : Host.Outcome State Fault Refusal :=
  .next (takeSetNode form fields s)

end Sys2Proof.Machine
end

