-- ==== Sys2Proof/Machine/VentilationCommands.lean ====
section
/-! DEFINITION. The commands of the regime and allocation unit (chapter 9): REGIME with the regime entries, FAN COMMAND, SET DEMAND,
the auto hold, and the silence timeout with its fallback (R13, R152). -/

namespace Sys2Proof.Machine

/-! ### The regime entries (R146–R150) -/

/-- The CAL's part of an entry into INCIDENT: the queue emptied, then the session ended, each with its hand-over to the RAU
(R92, R104). -/
def clearWork (s : State) : State :=
  let s1 := clearForIncident s
  let s2 := match s.cal.head with
    | none => s1
    | some e => if (s.ch e.channel).cfg.participates then takeContribution e.channel s1 else s1
  match s2.cal.span with
  | none => s2
  | some sp =>
    let s3 := (endSession sp .spanAborted sp.entryG s2).1
    if (s3.ch sp.channel).cfg.participates then takeContribution sp.channel s3 else s3

/-- Step 1: the regime and its parameters stored, with REGIME CHANGED (R146). -/
def storeRegime (r : Regime) (params : Rau → Rau) (s : State) : State :=
  let s1 := { s with rau := { params s.rau with regime := r } }
  appendEvent .node .regimeChanged (some r.code)
    (if r = .incident then s1.rau.role.map fun x => (x.code : Int) else none) s1

/-- Step 2: the fall-waiting mark cleared, and the regime handed to the CAL and the DSU (R146, R187). DEDUCED
(assumption 13): what they hand on is acted on in the later steps. -/
def handRegime (before : Regime) (s : State) : State :=
  let s1 := { s with rau := { s.rau with fallWaiting := false } }
  let s2 := if s1.rau.regime = .incident then clearWork s1 else s1
  if (before = .incident) ↔ (s2.rau.regime = .incident) then s2 else regimeDoors s2

/-- Step 3 of an entry into MANUAL: each fan keeps its effective stage, and due starts are granted (R147, R167). DEDUCED
(assumption 14): the stages are then formed under the door cap (R163), which can lower them. -/
def enterManual (s : State) : State :=
  run (handAll ++ [.grantDue]) (setRequests (fun _ r => { r with req := r.eff }) s)

/-- Steps 3 and 4 of an entry into AUTO: D takes the sought demand, and its allocation is applied at once (R148). -/
def enterAuto (s : State) : State :=
  let s1 := seekDemand s
  let s2 := setDemandInForce s1.rau.sought false s1
  let s3 := applyAllocation s2.rau.sought s2
  run (handAll ++ [.demandShort]) { s3 with rau := { s3.rau with lastChange := some s.stampNow } }

/-- Step 3 of an entry into INCIDENT: the role's stage and direction for every present fan (R149). -/
def enterIncident (s : State) : State :=
  run handRegimeAll (setRequests (fun f r => s.rau.roleRequest (s.fan f).state.isSome r) s)

/-- Steps 3 and 4 of the entry into the regime held (R146). -/
def setFans (s : State) : State :=
  match s.rau.regime with
  | .manual => evaluateShort (seekDemand (enterManual s))
  | .auto => enterAuto s
  | .incident => evaluateShort (seekDemand (enterIncident s))

/-- An entry into a regime with the parameters it brings (R146). -/
def enterRegime (r : Regime) (params : Rau → Rau) (s : State) : State :=
  setFans (handRegime s.rau.regime (storeRegime r params s))

/-! ### REGIME (R145) -/

/-- The regime that a code names; above 2 it is taken as INCIDENT (R145). -/
def Regime.ofCode (x : Nat) : Regime :=
  match x with
  | 0 => .manual
  | 1 => .auto
  | _ => .incident

/-- The parameters that the regime named reads, after clamping; the others are kept (R145). -/
def regimeParams (r : Regime) (fs : List Byte) (k : Rau) : Rau :=
  match r with
  | .manual => k
  | .auto => { k with autoDir := .ofCode (u8 fs 1), floor := min (u8 fs 2) 12 }
  | .incident =>
    { k with role := some (.ofCode (u8 fs 3)), incDir := .ofCode (u8 fs 4), incStage := min (u8 fs 5) 3,
             respectCap := yes fs 6 }

/-- Some field that the regime named reads lies outside its range (R145). -/
def clampedRegime (fs : List Byte) : Bool :=
  decide (2 < u8 fs 0) ||
    match Regime.ofCode (u8 fs 0) with
    | .manual => false
    | .auto => decide (1 < u8 fs 1) || decide (12 < u8 fs 2)
    | .incident =>
      decide (u8 fs 3 = 0) || decide (3 < u8 fs 3) || decide (1 < u8 fs 4) || decide (3 < u8 fs 5) || decide (1 < u8 fs 6)

/-- The seven fields as the RAU holds them (R145). -/
def regimeBytes (k : Rau) : List Byte :=
  [byte k.regime.code, byte k.autoDir.code, byte k.floor, byte k.roleField, byte k.incDir.code, byte k.incStage,
    flag k.respectCap]

/-- REGIME is taken in every regime and in every state of the part. -/
def serveRegime (fields : List Byte) (s : State) : Answer :=
  let r := Regime.ofCode (u8 fields 0)
  let t := enterRegime r (regimeParams r fields) s
  answer (clampedRegime fields) (regimeBytes t.rau) t

/-- A REGIME frame. -/
def takeRegime (form : Form) (fields : List Byte) (s : State) : State := takeRequest 0x28 true 7 serveRegime form fields s

/-- REGIME (R145, R146). -/
def execRegime (form : Form) (fields : List Byte) (s : State) : Host.Outcome State Fault Refusal :=
  .next (takeRegime form fields s)

/-! ### FAN COMMAND (R151) -/

/-- The stage and direction that a FAN COMMAND leaves the RAU holding for the fan (R151, R163). -/
def commanded (k : Rau) (stage dir : Nat) : RauFan :=
  { req := min stage 3, eff := k.effective (min stage 3), dir := .ofCode dir }

/-- The reply fields of FAN COMMAND: the fan and what the RAU now holds for it. -/
def commandReply (f : FanNo) (r : RauFan) : List Byte := [byte f.val, byte r.req, byte r.eff, byte r.dir.code]

/-- FAN COMMAND of a fan (R151). -/
def commandFan (f : FanNo) (stage dir : Nat) (s : State) : Answer :=
  if s.rau.regime = .manual then
    answer (decide (3 < stage) || decide (1 < dir)) (commandReply f (commanded s.rau stage dir))
      (run [.handFan f, .demandShort] (s.setHeld f (commanded s.rau stage dir)))
  else refuse .notNow s

/-- FAN COMMAND. -/
def serveFanCommand (fields : List Byte) (s : State) : Answer :=
  match indexOf 4 (u8 fields 0) with
  | none => refuse .outOfRange s
  | some f => commandFan f (u8 fields 1) (u8 fields 2) s

/-- A FAN COMMAND frame. -/
def takeFanCommand (form : Form) (fields : List Byte) (s : State) : State :=
  takeRequest 0x29 false 3 serveFanCommand form fields s

/-- FAN_COMMAND (R151). -/
def execFanCommand (form : Form) (fields : List Byte) (s : State) : Host.Outcome State Fault Refusal :=
  .next (takeFanCommand form fields s)

/-! ### SET DEMAND (R155) -/

/-- Thresholds strictly ascending, and thrusts that do not decrease (R155). -/
def consistentSteps (steps : List DemandStep) : Bool :=
  match steps with
  | [] => true
  | [_] => true
  | a :: b :: rest => decide (a.threshold < b.threshold) && decide (a.thrust ≤ b.thrust) && consistentSteps (b :: rest)

/-- The table replaced and the step selected anew from none (R155, R156). -/
def replaceDemand (steps : List DemandStep) (dh : Nat) (s : State) : State :=
  let k := { s.rau with steps := steps, dh := dh }
  seekDemand { s with rau := { k with step := selectedStep k s.rau.imax 0 } }

/-- Some field that SET DEMAND reads lies outside its range (R155). -/
def clampedDemand (fields : List Byte) (steps : List DemandStep) : Bool :=
  decide (6 < u8 fields 0) || decide (50 < u8 fields 13) ||
    (steps.flatMap fun st => [byte st.threshold, byte st.thrust]) != (fields.drop 1).take (2 * steps.length)

/-- SET DEMAND is taken in every regime. -/
def serveSetDemand (fields : List Byte) (s : State) : Answer :=
  let steps := takenSteps fields
  let dh := min (u8 fields 13) 50
  if consistentSteps steps then
    answer (clampedDemand fields steps) (demandBytes steps dh)
      (run (if s.rau.regime = .auto then [.reevaluate] else [.demandShort]) (replaceDemand steps dh s))
  else refuse .inconsistent s

/-- A SET DEMAND frame. -/
def takeSetDemand (form : Form) (fields : List Byte) (s : State) : State :=
  takeRequest 0x15 false 14 serveSetDemand form fields s

/-- SET_DEMAND (R155). -/
def execSetDemand (form : Form) (fields : List Byte) (s : State) : Host.Outcome State Fault Refusal :=
  .next (takeSetDemand form fields s)

/-! ### The auto hold (R162) -/

/-- The auto hold has passed while a fall is waiting: the RAU re-evaluates. -/
def holdExpired (s : State) : State := if s.holdOverAuto then run [.reevaluate] s else s

/-- AUTO_HOLD_EXPIRY (R162). -/
def execAutoHoldExpiry (s : State) : Host.Outcome State Fault Refusal := .next (holdExpired s)

/-! ### Line loss (R13, R152) -/

/-- LINE LOST set, with its entry, and the silence timer stopped (R13). -/
def loseLine (s : State) : State :=
  appendEvent .line .lineLost none none { s with lif := { s.lif with lineLost := true, silenceSince := none } }

/-- The fallback of a node that loses its line in MANUAL: AUTO with the auto direction held and a floor of 0 (R152). -/
def fallBack (s : State) : State :=
  if s.rau.regime = .manual ∧ s.rau.fallback = true then enterRegime .auto (fun k => { k with floor := 0 }) s else s

/-- The silence timeout, where it has passed. -/
def silenceExpiry (s : State) : State := if s.silenceOver then fallBack (loseLine s) else s

/-- SILENCE_TIMEOUT (R13). -/
def execSilenceTimeout (s : State) : Host.Outcome State Fault Refusal := .next (silenceExpiry s)

end Sys2Proof.Machine
end

