-- ==== Sys2Proof/Machine/LineCommands.lean ====
section
/-! DEFINITION. The line itself (chapter 1): a frame handed to the request kind that its KIND names (R9), the frame receiver (R3, R4),
foreign frames and unknown requests (R5, R6, R9), and the reply's beginning and end (R8). -/

namespace Sys2Proof.Machine

/-! ### The request kinds (R9) -/

/-- A frame that has passed its check and is not dropped for its DEST or KIND, handed to its request kind (R9). -/
def takeFrame (code : Byte) (form : Form) (fields : List Byte) (s : State) : State :=
  match code.toNat with
  | 0x01 => takeStatusPoll form fields s
  | 0x02 => takeReadValues form fields s
  | 0x03 => takeFetchEvents form fields s
  | 0x04 => takeReadPage form fields s
  | 0x05 => takeSetTime form fields s
  | 0x06 => takeNodeReset form fields s
  | 0x10 => takeSetNode form fields s
  | 0x11 => takeSetChannel form fields s
  | 0x12 => takeSetScan form fields s
  | 0x13 => takeSetFan form fields s
  | 0x14 => takeSetDoor form fields s
  | 0x15 => takeSetDemand form fields s
  | 0x18 => takeScanStart form fields s
  | 0x19 => takeScanStop form fields s
  | 0x20 => takeZero form fields s
  | 0x21 => takeZeroCancel form fields s
  | 0x22 => takeSpanEnter form fields s
  | 0x23 => takeSpanStep form fields s
  | 0x24 => takeSpanSet form fields s
  | 0x25 => takeSpanExit form fields s
  | 0x28 => takeRegime form fields s
  | 0x29 => takeFanCommand form fields s
  | 0x2A => takeTripReset form fields s
  | 0x2B => takeDoorCommand form fields s
  | _ => takeUnknown code form fields s

/-- A frame whose check bytes are both kept: dropped where the check differs, and judged by its DEST and KIND otherwise (R5,
R6, R7). -/
def judgeFrame (dest kind : Byte) (payload : List Byte) (check : BitVec 16) (s : State) : State :=
  if check = frameCheck dest kind payload then
    match frameForm s.lif.straps dest kind payload with
    | none => s
    | some (form, fields) => takeFrame kind form fields s
  else s

/-- A whole frame that the line carries to a node not in service; a frame of more than 96 payload bytes is discarded (R3). -/
def hearFrame (dest kind : Byte) (payload : List Byte) (check : BitVec 16) (s : State) : State :=
  if s.lif.service.isSome then s
  else if payload.length ≤ Config.maxPayload then judgeFrame dest kind payload check (toHunt s)
  else toHunt s

/-- FOREIGN_FRAME (R5, R6, R7): the same judgement as of any frame, which drops it. -/
def execForeignFrame (dest kind : Byte) (payload : List Byte) (check : BitVec 16) (s : State) :
    Host.Outcome State Fault Refusal :=
  .next (hearFrame dest kind payload check s)

/-- An unknown request: a KIND of 01h–3Fh that names no request kind is taken and answered NOT KNOWN; any other KIND is judged
as its frame is (R6, R9). -/
def unknownFrame (form : Form) (kind : Byte) (fields : List Byte) (s : State) : State :=
  if kind.toNat = 0 ∨ 0x3F < kind.toNat then dropFrame s else takeFrame kind form fields s

/-- UNKNOWN_REQUEST (R9). -/
def execUnknownRequest (form : Form) (kind : Byte) (fields : List Byte) (s : State) : Host.Outcome State Fault Refusal :=
  .next (unknownFrame form kind fields s)

/-! ### The frame receiver (R3, R4) -/

/-- The receiver in a state, with its gap measured afresh from this character. -/
def setRx (rx : Rx) (s : State) : State := { s with lif := { s.lif with rx := rx, gapTicks := 0 } }

/-- What the LEN character leads to (R3). -/
def afterLength (dest kind : Byte) (len : Nat) : Rx :=
  if Config.maxPayload < len then .hunt else if len = 0 then .check dest kind [] none else .payload dest kind len []

/-- A character judged by the receiver's state (R3). -/
def receive (c : Byte) (s : State) : State :=
  match s.lif.rx with
  | .hunt => if c = 0xC5 then setRx (.header []) s else s
  | .header [dest, kind] => setRx (afterLength dest kind c.toNat) s
  | .header kept => setRx (.header (kept ++ [c])) s
  | .payload dest kind len kept =>
    if kept.length + 1 < len then setRx (.payload dest kind len (kept ++ [c])) s
    else setRx (.check dest kind (kept ++ [c]) none) s
  | .check dest kind kept none => setRx (.check dest kind kept (some c)) s
  | .check dest kind kept (some high) => judgeFrame dest kind kept (checkOf high c) (setRx .hunt s)

/-- The gap before a character whose end is now, which lasted one character time itself, exceeds three character times (R4;
DEDUCED, assumption 7). -/
def State.gapBefore (s : State) : Bool :=
  s.lif.rx != .hunt && decide (4 * 10 * Config.ticksPerSecond < s.lif.gapTicks * Config.baud s.lif.straps.bitRate)

/-- A character on the line: lost during service, judged in HUNT after too long a gap (R4, R8). DESIGN CHOICE (assumption 25):
service is judged at the character's end alone, so one that begins in service and ends after it is received. -/
def hearChar (c : Byte) (s : State) : State :=
  if s.lif.service.isSome then s else if s.gapBefore then receive c (toHunt s) else receive c s

/-- CHARACTER_RECEIVED (R3). -/
def execCharacterReceived (c : Byte) (s : State) : Host.Outcome State Fault Refusal := .next (hearChar c s)

/-- FRAMING_ERROR (R4): the character is lost, and a frame being assembled is discarded. -/
def execFramingError (s : State) : Host.Outcome State Fault Refusal := .next (toHunt s)

/-- A frame being assembled is discarded at a gap of more than three character times (R4). -/
def gapExpiry (s : State) : State := if s.gapOver then toHunt s else s

/-- INTER_CHARACTER_GAP (R4). -/
def execInterCharacterGap (s : State) : Host.Outcome State Fault Refusal := .next (gapExpiry s)

/-! ### The reply (R8, R18) -/

/-- The service with its reply begun: the driver enabled. -/
def Service.begun (v : Service) : Service := { v with sending := true, elapsed := 0 }

/-- The reply's first start bit, once two character times have passed. DESIGN CHOICE (assumption 8): the sender of commands chooses
the moment. -/
def startReply (s : State) : State :=
  if s.replyAllowed then { s with lif := { s.lif with service := s.lif.service.map Service.begun } } else s

/-- REPLY_START (R8). -/
def execReplyStart (s : State) : Host.Outcome State Fault Refusal := .next (startReply s)

/-- The end of service: the driver released and the receiver in HUNT (R8). -/
def endService (s : State) : State := { s with lif := { s.lif with service := none, rx := .hunt } }

/-- The reply in service is that of an accepted NODE RESET (R18). -/
def State.resetFollows (s : State) : Bool :=
  match s.lif.service with
  | none => false
  | some v => v.resetAfter

/-- The reply's last stop bit, and the node reset that an accepted NODE RESET asked for (R18). -/
def finishReply (s : State) : State :=
  if s.replyOver then (if s.resetFollows then nodeReset (endService s) else endService s) else s

/-- REPLY_SENT (R8). -/
def execReplySent (s : State) : Host.Outcome State Fault Refusal := .next (finishReply s)

end Sys2Proof.Machine
end

