-- ==== Sys2Proof/Machine/Dispatch.lean ====
section
/-! DEFINITION. The meaning of every command: one arm per row of spec/opcode_table.json. -/

namespace Sys2Proof.Machine

/-- The effect of a command on everything but the queue of waiting commands. -/
def exec (i : Instr) (s : State) : Host.Outcome State Fault Refusal :=
  match i with
  | .fullReset straps => Sys2Proof.Machine.execFullReset straps s
  | .framingError => Sys2Proof.Machine.execFramingError s
  | .interCharacterGap => Sys2Proof.Machine.execInterCharacterGap s
  | .foreignFrame dest kind payload check => Sys2Proof.Machine.execForeignFrame dest kind payload check s
  | .unknownRequest form kind fields => Sys2Proof.Machine.execUnknownRequest form kind fields s
  | .replyStart => Sys2Proof.Machine.execReplyStart s
  | .replySent => Sys2Proof.Machine.execReplySent s
  | .statusPoll form fields => Sys2Proof.Machine.execStatusPoll form fields s
  | .readValues form fields => Sys2Proof.Machine.execReadValues form fields s
  | .fetchEvents form fields => Sys2Proof.Machine.execFetchEvents form fields s
  | .readPage form fields => Sys2Proof.Machine.execReadPage form fields s
  | .setTime form fields => Sys2Proof.Machine.execSetTime form fields s
  | .nodeReset form fields => Sys2Proof.Machine.execNodeReset form fields s
  | .setNode form fields => Sys2Proof.Machine.execSetNode form fields s
  | .setChannel form fields => Sys2Proof.Machine.execSetChannel form fields s
  | .setScan form fields => Sys2Proof.Machine.execSetScan form fields s
  | .scanStart form fields => Sys2Proof.Machine.execScanStart form fields s
  | .scanStop form fields => Sys2Proof.Machine.execScanStop form fields s
  | .settleTimeExpiry => Sys2Proof.Machine.execSettleTimeExpiry s
  | .conversionComplete code => Sys2Proof.Machine.execConversionComplete code s
  | .passPauseExpiry => Sys2Proof.Machine.execPassPauseExpiry s
  | .zero form fields => Sys2Proof.Machine.execZero form fields s
  | .zeroCancel form fields => Sys2Proof.Machine.execZeroCancel form fields s
  | .purgeTimeExpiry => Sys2Proof.Machine.execPurgeTimeExpiry s
  | .noSamples => Sys2Proof.Machine.execNoSamples s
  | .spanEnter form fields => Sys2Proof.Machine.execSpanEnter form fields s
  | .spanStep form fields => Sys2Proof.Machine.execSpanStep form fields s
  | .spanSet form fields => Sys2Proof.Machine.execSpanSet form fields s
  | .spanExit form fields => Sys2Proof.Machine.execSpanExit form fields s
  | .spanTimeout => Sys2Proof.Machine.execSpanTimeout s
  | .setFan form fields => Sys2Proof.Machine.execSetFan form fields s
  | .tachMeasurement fan edge => Sys2Proof.Machine.execTachMeasurement fan edge s
  | .tachSaturation fan => Sys2Proof.Machine.execTachSaturation fan s
  | .startTimeout fan => Sys2Proof.Machine.execStartTimeout fan s
  | .changeTimeout fan => Sys2Proof.Machine.execChangeTimeout fan s
  | .coastTimeout fan => Sys2Proof.Machine.execCoastTimeout fan s
  | .stallWatchExpiry fan => Sys2Proof.Machine.execStallWatchExpiry fan s
  | .budgetRecheck fan => Sys2Proof.Machine.execBudgetRecheck fan s
  | .stampExpiry => Sys2Proof.Machine.execStampExpiry s
  | .overcurrentChange fan level => Sys2Proof.Machine.execOvercurrentChange fan level s
  | .tripInputChange fan input level => Sys2Proof.Machine.execTripInputChange fan input level s
  | .tripSourceDebounced fan input => Sys2Proof.Machine.execTripSourceDebounced fan input s
  | .tripReset form fields => Sys2Proof.Machine.execTripReset form fields s
  | .autoRetry fan => Sys2Proof.Machine.execAutoRetry fan s
  | .retryCountClear fan => Sys2Proof.Machine.execRetryCountClear fan s
  | .inhibitInputChange level => Sys2Proof.Machine.execInhibitInputChange level s
  | .inhibitOn => Sys2Proof.Machine.execInhibitOn s
  | .inhibitOff => Sys2Proof.Machine.execInhibitOff s
  | .regime form fields => Sys2Proof.Machine.execRegime form fields s
  | .fanCommand form fields => Sys2Proof.Machine.execFanCommand form fields s
  | .setDemand form fields => Sys2Proof.Machine.execSetDemand form fields s
  | .silenceTimeout => Sys2Proof.Machine.execSilenceTimeout s
  | .autoHoldExpiry => Sys2Proof.Machine.execAutoHoldExpiry s
  | .setDoor form fields => Sys2Proof.Machine.execSetDoor form fields s
  | .doorCommand form fields => Sys2Proof.Machine.execDoorCommand form fields s
  | .doorContactInputChange door contact level => Sys2Proof.Machine.execDoorContactInputChange door contact level s
  | .doorContactDebounced door contact => Sys2Proof.Machine.execDoorContactDebounced door contact s
  | .holdLimitExpiry door => Sys2Proof.Machine.execHoldLimitExpiry door s
  | .openWaitExpiry door => Sys2Proof.Machine.execOpenWaitExpiry door s
  | .doorFaultTimeout door => Sys2Proof.Machine.execDoorFaultTimeout door s
  | .characterReceived char => Sys2Proof.Machine.execCharacterReceived char s

end Sys2Proof.Machine
end

