-- ==== Sys2Proof/Machine/Tick.lean ====
section
/-! DEFINITION. One tick of 10 µs of the reference time (R20, R22, R112; assumption 4): what counts, counts; then every timer that
has run out has its command put in the queue, in an order that the free value decides where several fall together. -/

namespace Sys2Proof.Machine

/-! ### What counts -/

/-- One tick of the time base: each clock advances a millisecond when its prescaler has counted 100 ticks (R20, R22). -/
def TimeBase.tick (t : TimeBase) : TimeBase :=
  { t with
    uptime := if t.uptimePre + 1 < Config.ticksPerMs then t.uptime else t.uptime + 1
    uptimePre := if t.uptimePre + 1 < Config.ticksPerMs then t.uptimePre + 1 else 0
    clock := if t.clockPre + 1 < Config.ticksPerMs then t.clock else t.clock + 1
    clockPre := if t.clockPre + 1 < Config.ticksPerMs then t.clockPre + 1 else 0 }

/-- The line interface's counts: the gap of a frame being assembled, and the service (R4, R8). -/
def Lif.tick (l : Lif) : Lif :=
  { l with
    gapTicks := if l.rx = .hunt then l.gapTicks else l.gapTicks + 1
    service := l.service.map fun v => { v with elapsed := v.elapsed + 1 } }

/-- The scan's count of its present state. -/
def Scan.tick (k : Scan) : Scan := { k with ticks := if k.state = .idle then k.ticks else k.ticks + 1 }

/-- A fan's tach count, which stops at 65535 (R112). -/
def Fan.tick (x : Fan) : Fan := { x with tachCount := x.tachCount.map fun n => min Config.tachSaturated (n + 1) }

/-- Everything that counts reference ticks advanced by one. -/
def advance (s : State) : State :=
  { s with lif := s.lif.tick, tb := s.tb.tick, scn := s.scn.tick, fans := each Fan.tick s.fans }

/-! ### What has run out -/

/-- The command, where the condition holds. -/
def due (b : Bool) (i : Instr) : List Instr := if b then [i] else []

/-- The timers of the line, the scan, the calibration unit and the niche. -/
def State.dueNode (s : State) : List Instr :=
  due s.replyPressing .replyStart ++ due s.replyOver .replySent ++ due s.silenceOver .silenceTimeout ++
    due s.settleOver .settleTimeExpiry ++ due s.pauseOver .passPauseExpiry ++ due s.purgeOver .purgeTimeExpiry ++
    due s.samplesOver .noSamples ++ due s.sessionOver .spanTimeout ++ due s.stampsOver .stampExpiry ++
    due (s.inhibitOver true) .inhibitOn ++ due (s.inhibitOver false) .inhibitOff ++ due s.holdReached .autoHoldExpiry

/-- The timers of a fan. -/
def State.dueFan (s : State) (f : FanNo) : List Instr :=
  due (s.fan f).tachOver (.tachSaturation f) ++ due (s.startOver f) (.startTimeout f) ++
    due (s.changeOver f) (.changeTimeout f) ++ due (s.coastOver f) (.coastTimeout f) ++
    due (s.stallOver f) (.stallWatchExpiry f) ++ due (s.budgetOver f) (.budgetRecheck f) ++
    due (s.debounced (s.fan f).vibration) (.tripSourceDebounced f .vibration) ++
    due (s.debounced (s.fan f).driveFault) (.tripSourceDebounced f .driveFault) ++
    due (s.retryOver f) (.autoRetry f) ++ due (s.runOver f) (.retryCountClear f)

/-- The five contacts of a door. -/
def allContacts : List Contact := [.closed, .latch, .escapeBar, .reverseHandle, .lockFeedback]

/-- The timers of a door. -/
def State.dueDoor (s : State) (d : DoorNo) : List Instr :=
  (allContacts.flatMap fun c => due (s.contactDue (s.door d) c) (.doorContactDebounced d c)) ++
    due (s.holdOver (s.door d)) (.holdLimitExpiry d) ++ due (s.waitOver (s.door d)) (.openWaitExpiry d) ++
    due (s.faultOver (s.door d)) (.doorFaultTimeout d)

/-- Every timer that has run out, as the command that stands for it. -/
def State.dueCommands (s : State) : List Instr :=
  s.dueNode ++ allFans.flatMap s.dueFan ++ allDoors.flatMap s.dueDoor

/-- One tick of the reference time. -/
def tick (s : State) : State :=
  let t := advance s
  { t with pending := (freeOrder t.choices t.dueCommands).1, choices := (freeOrder t.choices t.dueCommands).2 }

end Sys2Proof.Machine
end

