-- ==== Sys2Proof/Safety.lean ====
section
/-! DEFINITION. The terms in which claims about the part are stated: a request seen through its frame, the reply that it leaves in
service, the component of the state that a command may change, and the invariants that every command and every tick keep. -/

namespace Sys2Proof.Machine

/-! ### Requests and replies -/

/-- A request command seen as the frame that carries it: its KIND, its G mark and its request length (R9), and how it came. -/
structure Request where
  code : Byte
  group : Bool
  length : Nat
  form : Form
  fields : List Byte
deriving DecidableEq, Repr

end Sys2Proof.Machine

namespace Sys2Proof

open Machine in
/-- The request that a command is; none for the commands that are no request of the table of R9. -/
def Instr.request (i : Instr) : Option Request :=
  match i with
  | .statusPoll form fields => some ⟨0x01, false, 0, form, fields⟩
  | .readValues form fields => some ⟨0x02, false, 2, form, fields⟩
  | .fetchEvents form fields => some ⟨0x03, false, 0, form, fields⟩
  | .readPage form fields => some ⟨0x04, false, 1, form, fields⟩
  | .setTime form fields => some ⟨0x05, true, 4, form, fields⟩
  | .nodeReset form fields => some ⟨0x06, false, 0, form, fields⟩
  | .setNode form fields => some ⟨0x10, false, 7, form, fields⟩
  | .setChannel form fields => some ⟨0x11, false, 42, form, fields⟩
  | .setScan form fields => some ⟨0x12, false, 20, form, fields⟩
  | .setFan form fields => some ⟨0x13, false, 22, form, fields⟩
  | .setDoor form fields => some ⟨0x14, false, 9, form, fields⟩
  | .setDemand form fields => some ⟨0x15, false, 14, form, fields⟩
  | .scanStart form fields => some ⟨0x18, true, 1, form, fields⟩
  | .scanStop form fields => some ⟨0x19, false, 0, form, fields⟩
  | .zero form fields => some ⟨0x20, true, 2, form, fields⟩
  | .zeroCancel form fields => some ⟨0x21, false, 1, form, fields⟩
  | .spanEnter form fields => some ⟨0x22, false, 2, form, fields⟩
  | .spanStep form fields => some ⟨0x23, false, 3, form, fields⟩
  | .spanSet form fields => some ⟨0x24, false, 3, form, fields⟩
  | .spanExit form fields => some ⟨0x25, false, 1, form, fields⟩
  | .regime form fields => some ⟨0x28, true, 7, form, fields⟩
  | .fanCommand form fields => some ⟨0x29, false, 3, form, fields⟩
  | .tripReset form fields => some ⟨0x2A, false, 1, form, fields⟩
  | .doorCommand form fields => some ⟨0x2B, true, 3, form, fields⟩
  | .fullReset _ | .framingError | .interCharacterGap | .foreignFrame _ _ _ _ | .unknownRequest _ _ _ | .replyStart
  | .replySent | .settleTimeExpiry | .conversionComplete _ | .passPauseExpiry | .purgeTimeExpiry | .noSamples | .spanTimeout
  | .tachMeasurement _ _ | .tachSaturation _ | .startTimeout _ | .changeTimeout _ | .coastTimeout _ | .stallWatchExpiry _
  | .budgetRecheck _ | .stampExpiry | .overcurrentChange _ _ | .tripInputChange _ _ _ | .tripSourceDebounced _ _
  | .autoRetry _ | .retryCountClear _ | .inhibitInputChange _ | .inhibitOn | .inhibitOff | .silenceTimeout | .autoHoldExpiry
  | .doorContactInputChange _ _ _ | .doorContactDebounced _ _ | .holdLimitExpiry _ | .openWaitExpiry _ | .doorFaultTimeout _
  | .characterReceived _ => none

end Sys2Proof

namespace Sys2Proof.Machine

/-- The node takes addressed requests: it is not in service and not strapped to address 0 (R2, R8). -/
abbrev State.ready (s : State) : Prop := s.lif.service = none ∧ s.lif.straps.address ≠ 0

/-- A reply whose end brings nothing further: the outcome byte, then these reply fields (R8, R11). -/
def Lif.reply (l : Lif) (code : Byte) (o : ReqOutcome) (fields : List Byte) : Service :=
  { dest := byte (0x80 + l.straps.address.val), kind := code + 0x40, payload := o.code :: fields, sending := false,
    elapsed := 0, resetAfter := false }

/-- The state with such a reply put in service. -/
def State.replies (s : State) (code : Byte) (o : ReqOutcome) (fields : List Byte) : State :=
  { s with lif := { s.lif with service := some (s.lif.reply code o fields) } }

/-- The outcome DONE or CLAMPED (R10). -/
def taken (clamped : Bool) : ReqOutcome := if clamped then .clamped else .done

/-! ### Components of the state -/

/-- The components of the state, block by block. -/
inductive Part where
  | lif | tb | evq | scn | channels | cal | fans | inhibit | rau | doors | vestibule | choices | pending
deriving DecidableEq, Repr

/-- Two states agree on a component. -/
def Part.same (p : Part) (s t : State) : Prop :=
  match p with
  | .lif => t.lif = s.lif
  | .tb => t.tb = s.tb
  | .evq => t.evq = s.evq
  | .scn => t.scn = s.scn
  | .channels => t.channels = s.channels
  | .cal => t.cal = s.cal
  | .fans => t.fans = s.fans
  | .inhibit => t.inhibit = s.inhibit
  | .rau => t.rau = s.rau
  | .doors => t.doors = s.doors
  | .vestibule => t.vestibule = s.vestibule
  | .choices => t.choices = s.choices
  | .pending => t.pending = s.pending

/-- Two states agree on everything but these components. -/
def sameBut (ps : List Part) (s t : State) : Prop := ∀ p : Part, p ∉ ps → p.same s t

/-- The components that hand-overs between the blocks can reach. -/
def Part.reached : List Part := [.evq, .channels, .cal, .fans, .rau]

/-- The components that a request of this kind may change, when it is carried out: those of its owner and of the blocks that
its hand-overs reach, with the line interface and the event queue of the taking itself (R13, R14). -/
def requestParts (code : Nat) : List Part :=
  match code with
  | 0x01 => [.lif, .evq]
  | 0x02 => [.lif, .evq, .channels]
  | 0x03 => [.lif, .evq]
  | 0x04 => [.lif, .evq]
  | 0x05 => [.lif, .evq, .tb]
  | 0x06 => [.lif, .evq]
  | 0x10 => .lif :: Part.reached
  | 0x11 => .lif :: .scn :: Part.reached
  | 0x12 => [.lif, .evq, .scn]
  | 0x13 => .lif :: .choices :: Part.reached
  | 0x14 => .lif :: .doors :: .vestibule :: Part.reached
  | 0x15 => .lif :: Part.reached
  | 0x18 => [.lif, .evq, .scn, .channels]
  | 0x19 => [.lif, .evq, .scn]
  | 0x28 => .lif :: .doors :: .vestibule :: Part.reached
  | 0x2B => .lif :: .doors :: .vestibule :: Part.reached
  | _ => .lif :: Part.reached

/-- The components that an event of the field, or a timer, may change; all of them for the commands that bring a reset or a
whole frame of any kind. -/
def eventParts (i : Instr) : List Part :=
  match i with
  | .framingError | .interCharacterGap | .replyStart => [.lif]
  | .settleTimeExpiry | .passPauseExpiry => [.scn]
  | .conversionComplete _ => .scn :: Part.reached
  | .purgeTimeExpiry => [.cal]
  | .stampExpiry => [.fans, .rau, .doors]
  | .tripInputChange _ _ _ | .retryCountClear _ => [.fans]
  | .inhibitInputChange _ => [.inhibit]
  | .inhibitOn | .inhibitOff => .inhibit :: .choices :: Part.reached
  | .silenceTimeout => .lif :: Part.reached
  | .doorContactInputChange _ _ _ => [.doors]
  | .doorContactDebounced _ _ | .holdLimitExpiry _ | .openWaitExpiry _ | .doorFaultTimeout _ =>
    .doors :: .vestibule :: Part.reached
  | .fullReset _ | .foreignFrame _ _ _ _ | .unknownRequest _ _ _ | .replySent | .characterReceived _ =>
    [.lif, .tb, .evq, .scn, .channels, .cal, .fans, .inhibit, .rau, .doors, .vestibule, .choices]
  | _ => Part.reached

/-- The components that a command may change. -/
def mayChange (i : Instr) : List Part :=
  match i.request with
  | some r => requestParts r.code.toNat
  | none => eventParts i

/-! ### What hand-overs between the blocks leave alone -/

/-- A channel without what hand-overs may change of it: its settle-window countdown (R52), its CALIBRATING flag (R83, R89) and
its filter mark (R89). -/
def Channel.fixed (x : Channel) : Channel :=
  { x with countdown := 0, filterInit := false, flags := { x.flags with calibrating := false } }

/-- A fan's state as hand-overs leave it: absent, TRIPPED, INHIBITED, or one of the six operating states, which stand as
STOPPED. -/
def fixedState (x : Option FanState) : Option FanState :=
  match x with
  | none => none
  | some .tripped => some .tripped
  | some .inhibited => some .inhibited
  | some .stopped => some .stopped
  | some .waitingBudget => some .stopped
  | some .starting => some .stopped
  | some .changing => some .stopped
  | some .running => some .stopped
  | some .coasting => some .stopped

/-- A fan without what hand-overs may change of it: its operating state with all that a start, a stop, a coast or a change of
stage sets, and what the RAU hands it (R116, R117). -/
def Fan.fixed (x : Fan) : Fan :=
  { x with
    state := fixedState x.state, reqStage := 0, effStage := 0, reqDir := .forward, dirOut := .forward, run := false,
    drive := 0, stateReading := none, lastPeriod := none, since := 0, stallSince := none, runSince := none,
    startDue := false, history := [] }

/-- The RAU's record without the demand and the allocation (R154–R164). -/
def Rau.fixed (r : Rau) : Rau :=
  { r with
    imax := 0, step := 0, sought := 0, demand := 0, lastChange := none, fallWaiting := false,
    fans := Vector.replicate 4 .initial, short := false, contrib := Vector.replicate 10 .initial }

/-- The calibration unit without its queue and its head's phase (R82–R90). -/
def Cal.fixed (k : Cal) : Cal := { Cal.initial with received := k.received, total := k.total, lastSum := k.lastSum,
                                                    longDone := k.longDone, span := k.span }

/-- The state without what hand-overs between the blocks may change. -/
def State.fixed (s : State) : State :=
  { s with
    evq := { entries := [], gapPending := false }, channels := each Channel.fixed s.channels, cal := s.cal.fixed,
    fans := each Fan.fixed s.fans, rau := s.rau.fixed }

/-- The event queue r is the queue q with entries appended. -/
abbrev Appended (q r : EventQueue) : Prop := ∃ es : List Event, r = es.foldl EventQueue.push q

/-- The state t has come from s by hand-overs between the blocks: all that they may not change is as it was, and the event queue
has only had entries appended. -/
def HandedOn (s t : State) : Prop := t.fixed = s.fixed ∧ Appended s.evq t.evq

/-! ### The scan (R42, R43, R44) -/

/-- From the scan record k, whose current entry is to be visited next, the visits lead to the record r: DISABLED entries are
skipped, each counted as a visit, the current entry going from the last to the first; the first entry of an enabled channel is
in SETTLING with its selector and settle time; and where the rest of the pass is skipped, `atEnd` holds of the record that the
pass ends with (R42). -/
abbrev VisitsFrom (s : State) (k r : Scan) (atEnd : Scan → Prop) : Prop :=
  (∀ (j : Nat) (c : ChanNo), k.visits + j < k.list.length → k.list[(k.current + j) % k.list.length]? = some c →
    (s.ch c).state ≠ .disabled →
    (∀ i < j, ∀ d : ChanNo, k.list[(k.current + i) % k.list.length]? = some d → (s.ch d).state = .disabled) →
    r = { k with
      visits := k.visits + j, current := (k.current + j) % k.list.length, begun := true, state := .settling,
      selector := (s.ch c).cfg.input, ticks := 0, due := 100 * 2 ^ (s.ch c).cfg.settle }) ∧
  ((∀ i < k.list.length - k.visits, ∀ d : ChanNo, k.list[(k.current + i) % k.list.length]? = some d →
      (s.ch d).state = .disabled) →
    atEnd { k with
      visits := k.list.length, current := (k.current + (k.list.length - k.visits - 1)) % k.list.length })

/-- A pass that has ended with the scan record k leads to the record r (R43): SINGLE goes to IDLE with stop-pending cleared, and
CONTINUOUS pauses; a pause of 0 begins the next pass at once, but lasts 1 ms where no visit of the pass has begun. -/
abbrev PassEnded (s : State) (k r : Scan) : Prop :=
  (k.mode = .single → r = { k with state := .idle, stopPending := false }) ∧
  (k.mode = .continuous → 0 < k.pause → r = { k with state := .pausing, ticks := 0, due := 100 * k.pause }) ∧
  (k.mode = .continuous → k.pause = 0 → k.begun = false → r = { k with state := .pausing, ticks := 0, due := 100 }) ∧
  (k.mode = .continuous → k.pause = 0 → k.begun = true → k.start < k.list.length →
    VisitsFrom s { k with current := k.start, visits := 0, begun := false } r
      fun e => r = { e with state := .pausing, ticks := 0, due := 100 })

/-- A visit that has ended with the scan record k leads to the record r (R42, R44): the visit count rises by one; a stop that
waits takes a CONTINUOUS scan to IDLE; and otherwise the next entry is visited, or the pass has ended. -/
abbrev VisitEnded (s : State) (k r : Scan) : Prop :=
  (k.stopPending = true → k.mode = .continuous →
    r = { k with visits := k.visits + 1, state := .idle, stopPending := false }) ∧
  (k.stopPending = false ∨ k.mode = .single →
    (k.visits + 1 < k.list.length →
      VisitsFrom s { k with visits := k.visits + 1, current := (k.current + 1) % k.list.length } r
        fun e => PassEnded s e r) ∧
    (k.list.length ≤ k.visits + 1 → PassEnded s { k with visits := k.visits + 1 } r))

/-! ### What a fan's change leads to -/

/-- The settle-window countdown of every fan-sensitive channel that is not DISABLED has been loaded, and no other (R52). -/
abbrev CountdownsLoaded (s t : State) : Prop :=
  ∀ c : ChanNo, (t.ch c).countdown = if (s.ch c).cfg.fanSensitive = true ∧ (s.ch c).state ≠ .disabled then
    (s.ch c).cfg.settleWindows else (s.ch c).countdown

/-- No settle-window countdown has been loaded. -/
abbrev CountdownsKept (s t : State) : Prop := ∀ c : ChanNo, (t.ch c).countdown = (s.ch c).countdown

/-- CAL ABORTED with cause QUIET LOST for the head e is the entry after the event queue q: value 1 where e is re-queued, 0 where
it had been retried (R90). -/
abbrev QuietLostNext (e : CalEntry) (q : EventQueue) (s t : State) : Prop :=
  Appended (q.push ⟨s.tb.clock, .cal e.channel, .calAborted, some 2, some (if e.retried then 0 else 1), false⟩) t.evq

/-- The head e, with these entries behind it, has left its phase by QUIET LOST (R89, R90): it stands at the tail with retried
yes, or is gone where it had been retried; its channel's filter is uninitialised; the next head waits while a fan is in
transition, and otherwise purges; and VALVE and CALIBRATING go with that. -/
abbrev HeadAborted (e : CalEntry) (rest : List CalEntry) (t : State) : Prop :=
  t.cal.queue = rest ++ (if e.retried then [] else [⟨e.channel, e.type, true⟩]) ∧
  t.cal.phase = (if t.cal.queue = [] then .none else if t.fansMoving then .waitingQuiet else .purging) ∧
  t.cal.valve = decide (t.cal.phase = .purging) ∧ (t.ch e.channel).filterInit = false ∧
  (t.ch e.channel).flags.calibrating =
    decide (t.cal.phase = .purging ∧ t.cal.queue.head?.map (·.channel) = some e.channel)

/-- The current step of this record is urgent: its threshold is at or above the urgent index (R166). -/
abbrev Rau.stepUrgent (r : Rau) : Prop :=
  ∃ st : DemandStep, 1 ≤ r.step ∧ r.steps[r.step - 1]? = some st ∧ r.urgentIndex ≤ st.threshold

/-- From s to t the fan f, put in STOPPED, has followed the effective stage and requested direction it held in s: STOPPED at
stage 0; otherwise COASTING where it must coast first (R117, R121), STARTING in that direction with its feed-forward code and
its stamp recorded where INCIDENT or the start budget permits it (R137, R138), and WAITING BUDGET where not (R139). -/
abbrev FollowedStored (f : FanNo) (s t : State) : Prop :=
  ∀ (x : Fan) (coastFirst : Prop), x = s.fan f →
    (coastFirst ↔ x.reqDir ≠ x.dirOut ∧ ∃ p, x.reading = some (.period p) ∧ p < x.cfg.coastPeriod) →
    (x.effStage = 0 → (t.fan f).state = some .stopped ∧ (t.fan f).run = false ∧ (t.fan f).drive = 0) ∧
    (0 < x.effStage → coastFirst →
      (t.fan f).state = some .coasting ∧ (t.fan f).run = false ∧ (t.fan f).drive = 0 ∧ (t.fan f).dirOut = x.dirOut ∧
      (t.fan f).since = s.tb.uptime) ∧
    (0 < x.effStage → ¬coastFirst → s.rau.regime = .incident ∨ (s.windowStamps f).length < x.cfg.budget →
      (t.fan f).state = some .starting ∧ (t.fan f).run = true ∧ (t.fan f).dirOut = x.reqDir ∧
      (t.fan f).drive = x.cfg.feedForward x.effStage ∧ (t.fan f).since = s.tb.uptime ∧
      (t.fan f).history = recordStart (s.windowStamps f) ⟨s.tb.uptime, false⟩) ∧
    (0 < x.effStage → ¬coastFirst → s.rau.regime ≠ .incident → x.cfg.budget ≤ (s.windowStamps f).length →
      (t.fan f).state = some .waitingBudget ∧ (t.fan f).run = false ∧ (t.fan f).drive = 0 ∧
      (t.fan f).dirOut = x.dirOut ∧ (t.fan f).history = s.windowStamps f)

/-- From s to t the fan f has been released from TRIPPED (R133), the TRIP CLEARED entry having made the event queue q: into
INHIBITED while the debounced OUTPUT INHIBIT is active, and otherwise through STOPPED, so that it is STOPPED, WAITING BUDGET,
STARTING or COASTING. The settle-window countdowns are loaded by the first (R52). Outside AUTO, where no allocation moves it, it
has followed what it held, and they are not loaded; in MANUAL with DEMAND SHORT clear its own FAN REVERSE or BUDGET WAIT is the
next entry. -/
abbrev FanReleased (f : FanNo) (q : EventQueue) (s t : State) : Prop :=
  (s.inhibit.level = true → (t.fan f).state = some .inhibited ∧ (t.fan f).run = false ∧ (t.fan f).drive = 0 ∧
    CountdownsLoaded s t) ∧
  (s.inhibit.level = false →
    (t.fan f).state ∈ [some FanState.stopped, some .waitingBudget, some .starting, some .coasting] ∧
    (s.rau.regime ≠ .auto → FollowedStored f s t ∧ ((s.fan f).state = some .tripped → CountdownsKept s t)) ∧
    (s.rau.regime = .manual → s.rau.short = false →
      ((t.fan f).state = some .coasting →
        Appended (q.push ⟨s.tb.clock, .fan f, .fanReverse, some (s.fan f).reqDir.code, none, false⟩) t.evq) ∧
      ((t.fan f).state = some .waitingBudget →
        Appended (q.push ⟨s.tb.clock, .fan f, .budgetWait, none,
          some (s.waitSeconds (s.fan f).cfg (s.windowStamps f) : Int), false⟩) t.evq)))

/-- The allocation of this demand leaves the CAL where it is: IDLE, or in WAITING QUIET behind a fan that stays in transition,
COASTING, or STARTING or CHANGING with an effective stage above 0 to come (R82, R163). -/
abbrev State.calUnmoved (s : State) (demand : Nat) : Prop :=
  s.cal.phase = .none ∨ (s.cal.phase = .waitingQuiet ∧ ∃ f : FanNo, (s.fan f).state = some .coasting ∨
    (movingState (s.fan f).state = true ∧ 0 < s.rau.effective (s.allocatedStage demand f)))

/-- The state that a door's contacts give (R176). -/
def Door.derived (x : Door) : DoorState :=
  if x.shows .closed then
    if x.shows .latch then (if x.shows .lockFeedback then .secured else .free) else .unlatched
  else .opened

/-- From s to t the door has entered the state st, with DOOR STATE and this value as the first entry appended (R185). -/
abbrev DoorEntered (d : DoorNo) (st : DoorState) (value : Option Int) (s t : State) : Prop :=
  (t.door d).state = some st ∧
    Appended (s.evq.push ⟨s.tb.clock, .door d, .doorState, some (doorStateCode (some st)), value, false⟩) t.evq

/-! ### Invariants -/

/-- The event queue holds at most 64 entries, none but the oldest carries the GAP mark, and the pending mark says whether it
does (R28, R29). -/
abbrev EventQueue.ok (q : EventQueue) : Prop :=
  q.entries.length ≤ Config.eventCapacity ∧ (∀ e ∈ q.entries.drop 1, e.gap = false) ∧
    q.gapPending = (q.entries.take 1).any (·.gap)

/-- A fan's outputs go with its state (R115): RUN is on exactly in STARTING, CHANGING and RUNNING, the drive code is 0 outside
them and lies within the minimum run code..1023 in them, the latch is set exactly in TRIPPED (R130), and a fan has a state
exactly while it is configured present (R109). -/
abbrev Fan.ok (x : Fan) : Prop :=
  x.run = poweredState x.state ∧ (poweredState x.state = false → x.drive = 0) ∧
    (poweredState x.state = true → x.cfg.minCode ≤ x.drive ∧ x.drive ≤ 1023) ∧
    (x.state = some .tripped ↔ x.latch.isSome = true) ∧ x.state.isSome = x.cfg.present

/-- A fan's configuration lies within the ranges of R106, as far as the drive code and the start history rest on them, and its
history holds at most 8 stamps (R136). -/
abbrev Fan.bounded (x : Fan) : Prop :=
  x.cfg.minCode ≤ 511 ∧ x.cfg.stage1 ≤ 1000 ∧ x.cfg.stage2 ≤ 1000 ∧ x.cfg.stage3 ≤ 1000 ∧ x.history.length ≤ 8

/-- A fan is INHIBITED only while the debounced OUTPUT INHIBIT is active, and is then INHIBITED unless it is TRIPPED or absent
(R115, R126). -/
abbrev State.inhibitHeld (s : State) : Prop :=
  ∀ f : FanNo, if s.inhibit.level then availableState (s.fan f).state = false else (s.fan f).state ≠ some .inhibited

/-- The fans keep their outputs, their bounds and the inhibit. -/
abbrev State.fansOk (s : State) : Prop := (∀ f : FanNo, (s.fan f).ok ∧ (s.fan f).bounded) ∧ s.inhibitHeld

/-- The calibration queue (R76, R82, R83, R89): no channel stands in it twice, it is empty exactly while the CAL is IDLE, VALVE
is open exactly while the head is PURGING or ACCUMULATING, and CALIBRATING is set on that head alone. -/
abbrev State.queueOk (s : State) : Prop :=
  (s.cal.queue.map (·.channel)).Nodup ∧ (s.cal.phase = .none ↔ s.cal.queue = []) ∧ s.cal.valve = s.cal.phase.airOn ∧
    ∀ c : ChanNo, (s.ch c).flags.calibrating = (s.cal.phase.airOn && s.cal.queue.head?.map (·.channel) == some c)

/-- The span session (R94, R104): TRIM is set on its channel alone, its current G is that channel's G, and its channel does not
stand in the calibration queue. -/
abbrev State.sessionOk (s : State) : Prop :=
  (∀ c : ChanNo, (s.ch c).flags.trim = s.inSession c) ∧
    ∀ sp ∈ s.cal.span, (s.ch sp.channel).cfg.span = sp.currentG ∧ s.cal.queued sp.channel = false

/-- INCIDENT leaves no calibration and no session (R92, R104). -/
abbrev State.incidentClear (s : State) : Prop := s.rau.regime = .incident → s.cal.queue = [] ∧ s.cal.span = none

/-- The air is quiet while a head is PURGING or ACCUMULATING: no fan is in STARTING, CHANGING or COASTING (R82, R90). -/
abbrev State.airQuiet (s : State) : Prop := s.cal.phase.airOn = true → s.fansMoving = false

/-- The calibration unit keeps its queue, its session and the regime's word. -/
abbrev State.calOk (s : State) : Prop := s.queueOk ∧ s.sessionOk ∧ s.incidentClear

/-- A door's drive and sign go with the regime, its mode and its presence (R186, R187), and a door has a state exactly while it
is configured present (R171). -/
abbrev Door.ok (r : Regime) (x : Door) : Prop :=
  x.state.isSome = x.cfg.present ∧
    (x.lock = true → x.cfg.present = true ∧ x.lockMode = .locked ∧ r ≠ .incident) ∧
    (x.engageWaiting = true → x.cfg.present = true ∧ x.lockMode = .locked ∧ r ≠ .incident ∧ x.lock = false) ∧
    x.sign = if x.cfg.present then (if r = .incident then .flash else .steady) else .off

/-- The vestibule logic goes with the doors' states and the regime (R188, R189), and the RAU keeps the door open condition
(R163). -/
abbrev State.vestibuleOk (s : State) : Prop :=
  s.vestibule.breach = s.bothOpen ∧ (s.vestibule.silenced = true → s.buzzerCondition = true) ∧
    s.vestibule.buzzer = (s.buzzerCondition && s.rau.regime != .incident && !s.vestibule.silenced) ∧
    s.rau.doorOpen = (openDoor (s.door 0).state || openDoor (s.door 1).state)

/-- The doors and the vestibule. -/
abbrev State.doorsOk (s : State) : Prop := (∀ d : DoorNo, (s.door d).ok s.rau.regime) ∧ s.vestibuleOk

/-- What the receiver has kept of a frame is no more than the frame can hold (R3). -/
def Rx.ok (r : Rx) : Bool :=
  match r with
  | .hunt => true
  | .header kept => kept.length ≤ 2
  | .payload _ _ len kept => kept.length < len && len ≤ Config.maxPayload
  | .check _ _ kept _ => kept.length ≤ Config.maxPayload

/-- The line interface (R3, R8, R13): the receiver keeps no more than a frame, it stands in HUNT during service, and the silence
timer is stopped only while LINE LOST is set. -/
abbrev Lif.ok (l : Lif) : Prop :=
  l.rx.ok = true ∧ (l.service ≠ none → l.rx = .hunt) ∧ (l.silenceSince = none → l.lineLost = true)

/-- The prescalers count 0 to 99 (R22). -/
abbrev TimeBase.ok (t : TimeBase) : Prop := t.uptimePre < Config.ticksPerMs ∧ t.clockPre < Config.ticksPerMs

/-- The line interface and the time base. -/
abbrev State.lineOk (s : State) : Prop := s.lif.ok ∧ s.tb.ok

/-- A channel's counts, its level and index, its span factor and its zero offset lie in their ranges (R46, R68, R71, R52, R94,
R37), its window holds fewer than four samples (R45), and it is DISABLED exactly while it is not enabled (R39). -/
abbrev Channel.bounded (x : Channel) : Prop :=
  x.faulty ≤ 2 ∧ x.level ≤ 3 ∧ x.index ≤ 250 ∧ x.countdown ≤ 15 ∧ x.cfg.settleWindows ≤ 15 ∧
    2048 ≤ x.cfg.span ∧ x.cfg.span ≤ 8191 ∧ -4096 ≤ x.cfg.zero ∧ x.cfg.zero ≤ 4095 ∧ x.window.length < 4 ∧
    (x.state = .disabled ↔ x.cfg.enabled = false)

/-- A channel is visited in SETTLING and CONVERTING, and it is enabled (R42). -/
abbrev State.visitOk (s : State) : Prop :=
  s.scn.state = .settling ∨ s.scn.state = .converting → ∃ c, s.scn.visited = some c ∧ (s.ch c).cfg.enabled = true

/-- The channels and the scan: every channel within its bounds, the visited one enabled, and the entry G of an open session a
span factor that a channel may have (R94, R96). -/
abbrev State.channelsOk (s : State) : Prop :=
  (∀ c : ChanNo, (s.ch c).bounded) ∧ s.visitOk ∧
    ∀ sp ∈ s.cal.span, 2048 ≤ sp.entryG ∧ sp.entryG ≤ 8191 ∧ 2048 ≤ sp.currentG ∧ sp.currentG ≤ 8191

/-- The demand (R144, R155, R156, R157): the thrusts, the floor and the demand are at most 12 and every stage at most 3, the
current step is a step of the table or none, the sought demand is that of the step raised to the floor, and the demand in force
is no lower in AUTO and the same outside it; in AUTO the stages sum to at most the demand, and in FIRE ZONE every stage is 0
(R161). -/
abbrev State.demandOk (s : State) : Prop :=
  (∀ st ∈ s.rau.steps, st.thrust ≤ 12) ∧ s.rau.floor ≤ 12 ∧ s.rau.incStage ≤ 3 ∧ s.rau.demand ≤ 12 ∧
    s.rau.step ≤ s.rau.steps.length ∧ s.rau.sought = max (s.rau.thrustOf s.rau.step) s.rau.floor ∧
    (if s.rau.regime = .auto then s.rau.sought ≤ s.rau.demand else s.rau.demand = s.rau.sought) ∧
    (∀ f : FanNo, (s.held f).req ≤ 3 ∧ (s.held f).eff ≤ (s.held f).req) ∧
    (s.rau.regime = .auto → (allFans.map fun f => (s.held f).req).sum ≤ s.rau.demand) ∧
    (s.rau.regime = .incident → s.rau.role = some .fireZone → ∀ f : FanNo, (s.held f).req = 0)

/-- Each fan holds what the RAU holds for it (R116, R144), and the effective stage is the requested one under the door cap
(R163). -/
abbrev State.stagesHeld (s : State) : Prop :=
  ∀ f : FanNo, (s.fan f).holds (s.held f) = true ∧ (s.held f).eff = s.rau.effective (s.held f).req

/-- A fan is STOPPED only with an effective stage of 0, and waits or runs only with one above it, and runs in the direction
asked (R116, R117, R120, R140). -/
abbrev Fan.follows (x : Fan) : Prop :=
  (x.state = some .stopped → x.effStage = 0) ∧ (x.state = some .waitingBudget → 0 < x.effStage) ∧
    (poweredState x.state = true → 0 < x.effStage ∧ x.reqDir = x.dirOut)

/-- Every fan follows the stage it holds, and in INCIDENT none waits on its budget (R138, R140). -/
abbrev State.fansFollow (s : State) : Prop :=
  s.stagesHeld ∧ ∀ f : FanNo, (s.fan f).follows ∧ (s.rau.regime = .incident → (s.fan f).state ≠ some .waitingBudget)

end Sys2Proof.Machine
end

