-- ==== Sys2Proof/Certificates/Slice0/Obligations.lean ====
section
/-! DEFINITION. The statements for the provers, one definition each: the step and the queue, the line and its frames, the requests of
every family, the events of the field and the timers, the arithmetic, and the invariants that every step keeps. -/

open Sys2Proof Sys2Proof.Machine

/-! ### The step -/

/-- The command at the front of the queue is the one that runs, on the state with the queue's rest. -/
def Obligations.StepRunsFrontCommand : Prop :=
  ∀ (c : Instr) (rest : List Instr) (s : State), s.pending = c :: rest → step s = exec c { s with pending := rest }

/-- On an empty queue a tick passes (R20, R22; the model's own choice, assumption 4): each clock advances a millisecond when
its prescaler has counted 100 ticks; the gap of a frame being assembled, the time of a service, the scan's count outside IDLE
and each tach count in progress, up to 65535, rise by one (R4, R8, R42, R112); nothing else changes; and exactly the timers that
have then run out stand in the queue, in some order. -/
def Obligations.EmptyQueueTicks : Prop :=
  ∀ s : State, s.pending = [] →
    (∃ (q : List Instr) (n : Nat), q.Perm (advance s).dueCommands ∧
      step s = .next { advance s with pending := q, choices := n }) ∧
    (advance s).tb = { s.tb with
      uptime := if s.tb.uptimePre + 1 < 100 then s.tb.uptime else s.tb.uptime + 1
      uptimePre := if s.tb.uptimePre + 1 < 100 then s.tb.uptimePre + 1 else 0
      clock := if s.tb.clockPre + 1 < 100 then s.tb.clock else s.tb.clock + 1
      clockPre := if s.tb.clockPre + 1 < 100 then s.tb.clockPre + 1 else 0 } ∧
    (advance s).lif = { s.lif with
      gapTicks := if s.lif.rx = .hunt then s.lif.gapTicks else s.lif.gapTicks + 1
      service := s.lif.service.map fun v => { v with elapsed := v.elapsed + 1 } } ∧
    (advance s).scn = { s.scn with ticks := if s.scn.state = .idle then s.scn.ticks else s.scn.ticks + 1 } ∧
    (∀ f : FanNo, (advance s).fan f = { s.fan f with
      tachCount := (s.fan f).tachCount.map fun n => if n < 65535 then n + 1 else 65535 }) ∧
    sameBut [.lif, .tb, .scn, .fans] s (advance s)

/-! ### Requests as frames (chapter 1) -/

/-- An addressed request of the wrong length is answered BAD LENGTH (R10 step 2), and the taking of the frame is all it does;
a KIND of 01h–3Fh that names no request kind is answered NOT KNOWN when addressed and ignored in group form (R9). -/
def Obligations.KindAndLengthJudged : Prop :=
  (∀ (i : Instr) (r : Request) (s : State), i.request = some r → r.form = .addressed → s.ready → r.fields.length ≤ 96 →
    r.fields.length ≠ r.length → exec i s = .next ((contact s).replies r.code .badLength [])) ∧
  (∀ (kind : Byte) (fields : List Byte) (s : State), s.ready → 1 ≤ kind.toNat → kind.toNat ≤ 0x3F →
    kind.toNat ∉ requestCodes →
    (fields.length ≤ 96 →
      exec (.unknownRequest .addressed kind fields) s = .next ((contact s).replies kind .notKnown [])) ∧
    ∀ map : BitVec 64, fields.length + 8 ≤ 96 → map.getLsbD s.lif.straps.address.val = true →
      exec (.unknownRequest (.group map) kind fields) s = .next (contact s))

/-- A group request that a selected node ignores, for its kind or its length, leaves the taking of the frame alone, and one of
SET TIME, SCAN START, REGIME and DOOR COMMAND is carried out as its addressed form is, without the reply (R12). -/
def Obligations.GroupRequestsAct : Prop :=
  (∀ (i : Instr) (r : Request) (map : BitVec 64) (s : State), i.request = some r → r.form = .group map → s.ready →
    map.getLsbD s.lif.straps.address.val = true → r.fields.length + 8 ≤ 96 →
    (r.group = false ∨ r.fields.length ≠ r.length) → exec i s = .next (contact s)) ∧
  (∀ (mk : Form → List Byte → Instr), mk ∈ [Instr.setTime, Instr.scanStart, Instr.regime, Instr.doorCommand] →
    ∀ (map : BitVec 64) (fields : List Byte) (s : State), s.ready → map.getLsbD s.lif.straps.address.val = true →
      ((mk .addressed fields).request.map (·.length)) = some fields.length →
      ∃ t, exec (mk .addressed fields) s = .next t ∧
        exec (mk (.group map) fields) s = .next { t with lif := { t.lif with service := none } })

/-- A request that fails any check has no effect: where the reply's outcome is neither DONE nor CLAMPED, the state is what the
taking of the frame left, with a reply of the outcome alone (R10). -/
def Obligations.RefusedRequestHasNoEffect : Prop :=
  ∀ (i : Instr) (r : Request) (s t : State) (v : Service), i.request = some r → r.form = .addressed → s.ready →
    r.fields.length ≤ 96 → exec i s = .next t → t.lif.service = some v → v.payload.head? ≠ some 0 →
    v.payload.head? ≠ some 1 → ∃ o : ReqOutcome, t = (contact s).replies r.code o []

/-- A frame that reaches a node in service is lost without trace (R8); one that a node with address 0 hears, whose map does
not select the node, or which has a wrong check, another node's DEST or no request's KIND is dropped (R2, R5, R6, R7). -/
def Obligations.FramesDropped : Prop :=
  (∀ (i : Instr) (r : Request) (s : State), i.request = some r →
    (s.lif.service ≠ none → exec i s = .next s) ∧
    (s.lif.service = none →
      (s.lif.straps.address = 0 ∨ ∃ map : BitVec 64, r.form = .group map ∧ map.getLsbD s.lif.straps.address.val = false) →
      exec i s = .next (toHunt s))) ∧
  (∀ (dest kind : Byte) (payload : List Byte) (check : BitVec 16) (s : State), s.lif.service = none → payload.length ≤ 96 →
    (check ≠ frameCheck dest kind payload ∨ kind = 0 ∨ 0x3F < kind.toNat ∨
      (dest ≠ 0 ∧ dest.toNat ≠ s.lif.straps.address.val) ∨
      (dest = 0 ∧ (payload.length < 8 ∨ (selectionMap payload).getLsbD s.lif.straps.address.val = false))) →
    exec (.foreignFrame dest kind payload check) s = .next (toHunt s))

/-- A whole frame with a good check does what the request it carries does (R6, R7, R9). -/
def Obligations.GoodFrameIsItsRequest : Prop :=
  ∀ (dest kind : Byte) (payload : List Byte) (i : Instr) (r : Request) (s : State), s.lif.service = none →
    payload.length ≤ 96 → i.request = some r → r.code = kind →
    frameForm s.lif.straps dest kind payload = some (r.form, r.fields) →
    exec (.foreignFrame dest kind payload (frameCheck dest kind payload)) s = exec i s

/-- The characters of a frame, one after another without a gap, do what the whole frame does (R3). -/
def Obligations.CharactersMakeFrame : Prop :=
  ∀ (dest kind high low : Byte) (payload : List Byte) (rest : List Instr) (s : State), s.lif.service = none →
    s.lif.rx = .hunt → payload.length ≤ 96 →
    Host.Core.run Sys2Proof.core (payload.length + 6)
        { s with pending :=
          ([0xC5, dest, kind, byte payload.length] ++ payload ++ [high, low]).map Instr.characterReceived ++ rest } =
      exec (.foreignFrame dest kind payload (high ++ low))
        { s with lif := { s.lif with gapTicks := 0 }, pending := rest }

/-- The receiver goes from HUNT through HEADER and PAYLOAD to CHECK, keeping DEST, KIND, LEN, the payload and the first check
byte (R3); a character is lost during service (R8); a framing error and a gap of more than three character times discard a
frame being assembled, the character after the gap being judged in HUNT (R4; at a character the gap is measured from the end
of the last one to its own end, assumption 7). -/
def Obligations.ReceiverKeepsCharacters : Prop :=
  ∀ s : State, exec .framingError s = .next { s with lif := { s.lif with rx := .hunt } } ∧
    (exec .interCharacterGap s = .next
      (if s.lif.rx ≠ .hunt ∧ 3 * 10 * 100000 < s.lif.gapTicks * Config.baud s.lif.straps.bitRate then
        { s with lif := { s.lif with rx := .hunt } } else s)) ∧
    ∀ c : Byte,
      (s.lif.service ≠ none → exec (.characterReceived c) s = .next s) ∧
      (s.lif.service = none → s.lif.rx = .hunt → exec (.characterReceived c) s = .next
        (if c = 0xC5 then { s with lif := { s.lif with rx := .header [], gapTicks := 0 } } else s)) ∧
      (s.lif.service = none → s.lif.rx ≠ .hunt →
        4 * 10 * 100000 < s.lif.gapTicks * Config.baud s.lif.straps.bitRate →
        exec (.characterReceived c) s = exec (.characterReceived c) { s with lif := { s.lif with rx := .hunt } }) ∧
      (s.lif.service = none → s.lif.gapTicks * Config.baud s.lif.straps.bitRate ≤ 4 * 10 * 100000 → ∀ next : Rx,
        (s.lif.rx = .header [] ∧ next = .header [c] ∨
          (∃ dest, s.lif.rx = .header [dest] ∧ next = .header [dest, c]) ∨
          (∃ dest kind, s.lif.rx = .header [dest, kind] ∧
            next = if 96 < c.toNat then .hunt else if c = 0 then .check dest kind [] none
              else .payload dest kind c.toNat []) ∨
          (∃ dest kind len kept, s.lif.rx = .payload dest kind len kept ∧
            next = if kept.length + 1 < len then .payload dest kind len (kept ++ [c])
              else .check dest kind (kept ++ [c]) none) ∨
          ∃ dest kind kept, s.lif.rx = .check dest kind kept none ∧ next = .check dest kind kept (some c)) →
        exec (.characterReceived c) s = .next { s with lif := { s.lif with rx := next, gapTicks := 0 } })

/-- A reply begins no sooner than two character times after its request; its end leaves the node out of service and in HUNT
(R8). -/
def Obligations.ReplyBeginsAndEnds : Prop :=
  ∀ (s : State) (v : Service), s.lif.service = some v →
    (v.sending = false → 2 * 10 * 100000 ≤ v.elapsed * Config.baud s.lif.straps.bitRate →
      exec .replyStart s = .next { s with lif := { s.lif with service := some { v with sending := true, elapsed := 0 } } }) ∧
    (v.elapsed * Config.baud s.lif.straps.bitRate < 2 * 10 * 100000 → exec .replyStart s = .next s) ∧
    (v.sending = true → (v.payload.length + 6) * 10 * 100000 ≤ v.elapsed * Config.baud s.lif.straps.bitRate →
      v.resetAfter = false →
      exec .replySent s = .next { s with lif := { s.lif with service := none, rx := .hunt } })

/-- What a silence timeout does (R13, R152), and what the taking of a frame does to LINE LOST and the timer (R14). -/
def Obligations.SilenceAndContact : Prop :=
  ∀ s : State,
    (s.silenceOver = false → exec .silenceTimeout s = .next s) ∧
    (s.silenceOver = true → ¬(s.rau.regime = .manual ∧ s.rau.fallback = true) →
      exec .silenceTimeout s = .next (appendEvent .line .lineLost none none
        { s with lif := { s.lif with lineLost := true, silenceSince := none } })) ∧
    (s.silenceOver = true → s.rau.regime = .manual → s.rau.fallback = true →
      ∃ t, exec .silenceTimeout s = .next t ∧ t.lif = { s.lif with lineLost := true, silenceSince := none } ∧
        t.rau.regime = .auto ∧ t.rau.floor = 0 ∧ t.rau.autoDir = s.rau.autoDir ∧ sameBut (.lif :: Part.reached) s t ∧
        Appended
          ((s.evq.push ⟨s.tb.clock, .line, .lineLost, none, none, false⟩).push
            ⟨s.tb.clock, .node, .regimeChanged, some 1, none, false⟩) t.evq) ∧
    contact s = { s with
      lif := { s.lif with
        rx := .hunt, silenceSince := some s.tb.uptime, silenceLimit := s.lif.silenceTimeout, lineLost := false }
      evq := if s.lif.lineLost then s.evq.push ⟨s.tb.clock, .line, .lineRestored, none, none, false⟩ else s.evq }

/-! ### The requests of the whole node (chapters 1 and 2) -/

/-- STATUS POLL, READ PAGE and READ VALUES return what the part holds; the first two change nothing, and the third clears
FRESH and OVERWRITTEN on the channels that it returns (R15, R25, R49). -/
def Obligations.ReadingRequestsAnswered : Prop :=
  ∀ s : State, s.ready →
    exec (.statusPoll .addressed []) s = .next ((contact s).replies 0x01 .done (statusBytes s.lif.lineLost (contact s))) ∧
    (∀ n : Fin 21, exec (.readPage .addressed [byte n.val]) s =
      .next ((contact s).replies 0x04 .done (byte n.val :: (contact s).page n))) ∧
    (∀ b : Byte, 20 < b.toNat → exec (.readPage .addressed [b]) s = .next ((contact s).replies 0x04 .outOfRange [])) ∧
    ∀ a b : Byte,
      exec (.readValues .addressed [a, b]) s = .next
        (if b.toNat < 4 then
          ({ contact s with channels := (Vector.ofFn fun c : ChanNo =>
              if (a.toNat + 256 * b.toNat).testBit c.val then
                { s.ch c with flags := { (s.ch c).flags with fresh := false, overwritten := false } }
              else s.ch c) }.replies 0x02 .done
            ([a, b] ++ (allChans.filter fun c : ChanNo => (a.toNat + 256 * b.toNat).testBit c.val).flatMap (valueRecord s)))
        else (contact s).replies 0x02 .outOfRange [])

/-- FETCH EVENTS removes and returns the oldest entries, up to six, oldest first, and the pending GAP mark goes with the
marked entry (R29, R30). -/
def Obligations.FetchTakesOldest : Prop :=
  ∀ s : State, s.ready →
    ∃ (got left : List Event) (gap : Bool), got ++ left = (contact s).evq.entries ∧ got.length ≤ 6 ∧
      (left ≠ [] → got.length = 6) ∧ gap = ((contact s).evq.gapPending && !got.any (·.gap)) ∧
      exec (.fetchEvents .addressed []) s = .next
        ({ contact s with evq := { entries := left, gapPending := gap } }.replies 0x03 .done
          (byte got.length :: byte left.length :: got.flatMap fun e : Event => e.bytes))

/-- SET TIME loads the tunnel clock, clears its prescaler and CLOCK UNSET, and appends CLOCK SET, stamped with the new value
and carrying the signed step; the group form does the same without a reply (R23). -/
def Obligations.SetTimeLoadsClock : Prop :=
  ∀ (b0 b1 b2 b3 : Byte) (s : State), s.ready →
    exec (.setTime .addressed [b0, b1, b2, b3]) s = .next
      ({ contact s with
        tb := { s.tb with clock := b3 ++ b2 ++ b1 ++ b0, clockPre := 0, clockUnset := false }
        evq := (contact s).evq.push ⟨b3 ++ b2 ++ b1 ++ b0, .node, .clockSet, none,
          some ((b3 ++ b2 ++ b1 ++ b0) - s.tb.clock : BitVec 32).toInt, false⟩ }.replies 0x05 .done [b0, b1, b2, b3]) ∧
    ∀ map : BitVec 64, map.getLsbD s.lif.straps.address.val = true →
      exec (.setTime (.group map) [b0, b1, b2, b3]) s = .next
        { contact s with
          tb := { s.tb with clock := b3 ++ b2 ++ b1 ++ b0, clockPre := 0, clockUnset := false }
          evq := (contact s).evq.push ⟨b3 ++ b2 ++ b1 ++ b0, .node, .clockSet, none,
            some ((b3 ++ b2 ++ b1 ++ b0) - s.tb.clock : BitVec 32).toInt, false⟩ }

/-- SET NODE stores the six settings, clamped, restarts the silence timer with the new timeout, and returns the values held;
nothing else changes but by the hand-overs it leads to (R17, R13, R153). -/
def Obligations.SetNodeStores : Prop :=
  ∀ (a b c d e f g : Byte) (s : State), s.ready →
    ∃ u, HandedOn
        { contact s with
          lif := { (contact s).lif with silenceTimeout := max 1 a.toNat, silenceLimit := max 1 a.toNat }
          rau := { s.rau with
            fallback := decide (b.toNat ≠ 0), doorCap := min c.toNat 3,
            autoHold := clampNat 10 600 (d.toNat + 256 * e.toNat), faultIndex := min f.toNat 250,
            urgentIndex := clampNat 50 250 g.toNat } } u ∧
      exec (.setNode .addressed [a, b, c, d, e, f, g]) s = .next (u.replies 0x10
        (taken (decide (a.toNat = 0 ∨ 1 < b.toNat ∨ 3 < c.toNat ∨ d.toNat + 256 * e.toNat < 10 ∨
          600 < d.toNat + 256 * e.toNat ∨ 250 < f.toNat ∨ g.toNat < 50 ∨ 250 < g.toNat)))
        ([byte (max 1 a.toNat), flag (decide (b.toNat ≠ 0)), byte (min c.toNat 3)] ++
          le16 (clampNat 10 600 (d.toNat + 256 * e.toNat)) ++ [byte (min f.toNat 250), byte (clampNat 50 250 g.toNat)]))

/-- NODE RESET is refused in INCIDENT and otherwise answered DONE, with the reset to follow the reply (R18); what the end of
its reply leaves: configurations, clocks and trip latches are kept, and running work is restarted (R19, R24, R53, R54, R93,
R105, R127, R143, R169, R190). That the calibration unit's purge start, purge time, sums received, their total and the last
sum's moment stand at 0 is the model's choice (assumption 19). -/
def Obligations.NodeResetActs : Prop :=
  (∀ s : State, s.ready →
    (s.rau.regime = .incident → exec (.nodeReset .addressed []) s = .next ((contact s).replies 0x06 .notNow [])) ∧
    (s.rau.regime ≠ .incident → exec (.nodeReset .addressed []) s = .next
      { contact s with lif := { (contact s).lif with
        service := some { (contact s).lif.reply 0x06 .done [] with resetAfter := true } } })) ∧
  (∀ (s : State) (v : Service), s.lif.service = some v → v.resetAfter = true → v.sending = true →
    (v.payload.length + 6) * 10 * 100000 ≤ v.elapsed * Config.baud s.lif.straps.bitRate →
    ∃ t, exec .replySent s = .next t ∧
      t.lif = { s.lif with
        rx := .hunt, service := none, silenceSince := some s.tb.uptime, silenceLimit := s.lif.silenceTimeout } ∧
      t.tb = s.tb ∧ t.inhibit = s.inhibit ∧
      t.evq = (match s.cal.span with
        | none => s.evq.push ⟨s.tb.clock, .node, .nodeReset, none, none, false⟩
        | some sp => (s.evq.push ⟨s.tb.clock, .node, .nodeReset, none, none, false⟩).push
            ⟨s.tb.clock, .cal sp.channel, .spanAborted, none, some sp.entryG, false⟩) ∧
      t.scn.list = s.scn.list ∧ t.scn.mode = s.scn.mode ∧ t.scn.pause = s.scn.pause ∧ t.scn.state = .idle ∧
      t.scn.selector = 0 ∧ t.cal = Cal.initial ∧ t.vestibule = Vestibule.initial ∧
      (∀ c : ChanNo, t.ch c = { Channel.initial with
        cfg := (match s.cal.span with
          | none => (s.ch c).cfg
          | some sp => if sp.channel = c then { (s.ch c).cfg with span := sp.entryG } else (s.ch c).cfg)
        state := if (s.ch c).cfg.enabled then .noValue else .disabled }) ∧
      (∀ f : FanNo, (t.fan f).cfg = (s.fan f).cfg ∧ (t.fan f).latch = (s.fan f).latch ∧
        (t.fan f).history = (s.fan f).history ∧ (t.fan f).retryCount = (s.fan f).retryCount ∧
        (t.fan f).retryDue = (s.fan f).retryDue ∧ (t.fan f).reqStage = 0 ∧ (t.fan f).effStage = 0 ∧
        (t.fan f).dirOut = (s.fan f).dirOut ∧ (t.fan f).tachCount = (s.fan f).tachCount ∧
        (t.fan f).state = if poweredState (s.fan f).state then some .coasting
          else if (s.fan f).state = some .waitingBudget then some .stopped else (s.fan f).state) ∧
      t.rau.regime = .manual ∧ t.rau.role = none ∧ t.rau.autoDir = s.rau.autoDir ∧ t.rau.floor = s.rau.floor ∧
      t.rau.sought = s.rau.floor ∧ t.rau.demand = s.rau.floor ∧ t.rau.step = 0 ∧ t.rau.imax = 0 ∧ t.rau.short = false ∧
      t.rau.doorOpen = false ∧ t.rau.steps = s.rau.steps ∧ t.rau.doorCap = s.rau.doorCap ∧
      (∀ f : FanNo, t.held f = { s.held f with req := 0, eff := 0 }) ∧
      (∀ d : DoorNo, (t.door d).cfg = (s.door d).cfg ∧ (t.door d).lockMode = (s.door d).lockMode ∧
        (t.door d).lock = (s.door d).lock ∧ (t.door d).contacts.complete = false ∧
        (t.door d).lastTime = (s.door d).lastTime ∧
        (t.door d).state = if (s.door d).cfg.present then some .initial else none))

/-- What a full reset leaves, whatever the part was doing: the straps as read, every block at its full-reset values, and NODE
START alone in the queue (R2, R19, R24, R32, R53, R54, R93, R105, R127, R143, R169, R190). That the ticks counted since the
last character stand at 0 is the model's choice (assumption 19). -/
def Obligations.FullResetCarriedOut : Prop :=
  ∀ (straps : Straps) (s : State), ∃ t, exec (.fullReset straps) s = .next t ∧
    t.lif = { straps := straps, rx := .hunt, gapTicks := 0, service := none, silenceSince := some 0, silenceLimit := 30,
              lineLost := false, silenceTimeout := 30 } ∧
    t.tb = { uptime := 0, uptimePre := 0, clock := 0, clockPre := 0, clockUnset := true } ∧
    t.evq = { entries := [⟨0, .node, .nodeStart, none, none, false⟩], gapPending := false } ∧
    t.scn.list = [] ∧ t.scn.mode = .single ∧ t.scn.pause = 0 ∧ t.scn.state = .idle ∧ t.scn.selector = 0 ∧
    (∀ c : ChanNo, (t.ch c).state = .disabled ∧ (t.ch c).cfg.enabled = false ∧ (t.ch c).cfg.span = 4096 ∧
      (t.ch c).cfg.zero = 0 ∧ (t.ch c).value = 0 ∧ (t.ch c).level = 0 ∧ (t.ch c).index = 0 ∧ (t.ch c).window = [] ∧
      (t.ch c).published = false ∧ (t.ch c).filterInit = false) ∧
    t.cal.queue = [] ∧ t.cal.phase = .none ∧ t.cal.valve = false ∧ t.cal.headSelect = 0 ∧ t.cal.span = none ∧
    (∀ c : ChanNo, t.cal.longDone[c] = false) ∧
    (∀ f : FanNo, (t.fan f).state = none ∧ (t.fan f).cfg = FanConfig.initial ∧ (t.fan f).run = false ∧
      (t.fan f).drive = 0 ∧ (t.fan f).dirOut = .forward ∧ (t.fan f).effStage = 0 ∧ (t.fan f).latch = none ∧
      (t.fan f).retryCount = 0 ∧ (t.fan f).history = [] ∧ (t.fan f).tachCount = none ∧ (t.fan f).reading = none ∧
      (t.fan f).vibration.level = false ∧ (t.fan f).driveFault.level = false) ∧
    t.inhibit.level = false ∧ t.rau = Rau.initial straps.fallback ∧
    (∀ d : DoorNo, (t.door d).cfg = DoorConfig.initial ∧ (t.door d).state = some .initial ∧
      (t.door d).lockMode = .locked ∧ (t.door d).lock = false ∧ (t.door d).engageWaiting = true ∧
      (t.door d).sign = .steady ∧ (t.door d).contacts.closed.level = none ∧ (t.door d).lastTime = 0) ∧
    t.vestibule = { breach := false, buzzer := false, silenced := false } ∧ t.pending = s.pending

/-! ### Channels and the scan (chapters 3 and 4) -/

/-- An accepted SET CHANNEL replaces the configuration and restarts the channel, with CHANNEL RECONFIGURED where its level was
above 0, and leaves the other channels' records but by hand-overs; a visit to the channel ends, and the scan goes on as after
any visit (R42, R43, R44); one that names a queued channel or the session's is refused NOT NOW (R35, R36, R39, R74). -/
def Obligations.SetChannelRestarts : Prop :=
  ∀ (c : ChanNo) (ts cs : Option ChanNo) (fields : List Byte) (s : State), s.ready → fields.length = 42 →
    u8 fields 0 = c.val → optChannel (u8 fields 20) = some ts → optChannel (u8 fields 21) = some cs →
    (s.cal.queued c = true ∨ s.inSession c = true →
      exec (.setChannel .addressed fields) s = .next ((contact s).replies 0x11 .notNow [])) ∧
    (s.cal.queued c = false → s.inSession c = false →
      consistentChannel s c (takenChannel (fields.drop 1) ts cs) = true →
      ∃ u, exec (.setChannel .addressed fields) s = .next (u.replies 0x11
          (taken ((takenChannel (fields.drop 1) ts cs).bytes !=
            sentChannel (fields.drop 1) (takenChannel (fields.drop 1) ts cs)))
          (byte c.val :: (takenChannel (fields.drop 1) ts cs).bytes)) ∧
        (u.ch c).fixed = ({ Channel.initial with
          cfg := takenChannel (fields.drop 1) ts cs
          state := if (takenChannel (fields.drop 1) ts cs).enabled then .noValue else .disabled } : Channel).fixed ∧
        (∀ k : ChanNo, k ≠ c → (u.ch k).fixed = (s.ch k).fixed) ∧
        (∀ f : FanNo, (u.fan f).fixed = (s.fan f).fixed) ∧ u.rau.fixed = s.rau.fixed ∧ u.cal.fixed = s.cal.fixed ∧
        sameBut (.scn :: Part.reached) (contact s) u ∧ (s.visiting c = false → u.scn = s.scn) ∧
        (s.scn.state = .settling ∨ s.scn.state = .converting → s.scn.visited = some c → VisitEnded u s.scn u.scn) ∧
        Appended
          (if 0 < (s.ch c).level then (contact s).evq.push
            ⟨s.tb.clock, .channel c, .channelReconfigured, some (s.ch c).level, none, false⟩ else (contact s).evq) u.evq)

/-- SET SCAN replaces the list, the mode and the pause while the scan is IDLE and not locked (R40); SCAN STOP acts by the
scan's state where it is not locked (R44). -/
def Obligations.ScanRequestsAct : Prop :=
  ∀ (fields : List Byte) (list : List ChanNo) (s : State), s.ready → fields.length = 20 →
    readEntries ((fields.drop 1).take (min (u8 fields 0) 16)) = some list →
    (s.scn.state = .idle → s.cal.phase.airOn = false → s.cal.span = none →
      exec (.setScan .addressed fields) s = .next
        ({ contact s with scn := { s.scn with
            list := list, mode := if u8 fields 17 = 0 then .single else .continuous,
            pause := min (u16 fields 18) 1000 } }.replies 0x12
          (taken (decide (16 < u8 fields 0 ∨ 1 < u8 fields 17 ∨ 1000 < u16 fields 18)))
          ([byte list.length] ++ (list.map fun c : ChanNo => byte c.val) ++ List.replicate (16 - list.length) 0 ++
            [byte (if u8 fields 17 = 0 then 0 else 1)] ++ le16 (min (u16 fields 18) 1000)))) ∧
    (s.scn.state ≠ .idle ∨ s.cal.phase.airOn = true ∨ s.cal.span ≠ none →
      exec (.setScan .addressed fields) s = .next ((contact s).replies 0x12 .notNow [])) ∧
    (s.cal.phase.airOn = true ∨ s.cal.span ≠ none →
      exec (.scanStop .addressed []) s = .next ((contact s).replies 0x19 .notNow [])) ∧
    (s.cal.phase.airOn = false → s.cal.span = none →
      exec (.scanStop .addressed []) s = .next
        ({ contact s with scn := (match s.scn.state with
            | .idle => s.scn
            | .pausing => { s.scn with state := .idle, stopPending := false }
            | .settling => { s.scn with stopPending := true }
            | .converting => { s.scn with stopPending := true }) }.replies 0x19 .done []))

/-- SCAN START empties every window and begins the first visit at the start entry (R41, R42); the settle time leads to a
conversion of 50 µs, and the pass pause to the next pass at the start entry (R34, R42, R43). In both, entries of DISABLED
channels are skipped, and a pass whose every visit is skipped ends as any pass does (R42, R43); with a pause of 0 it then pauses
1 ms, which the model counts as 100 ticks (assumption 15). -/
def Obligations.ScanVisitsBegin : Prop :=
  ∀ s : State,
    (∀ (e : Byte) (c : ChanNo), s.ready → e.toNat ≤ 15 → s.scn.state = .idle → s.scn.list[e.toNat]? = some c →
      (s.ch c).state ≠ .disabled →
      exec (.scanStart .addressed [e]) s = .next
        ({ contact s with
          channels := each (fun x : Channel => { x with window := [] }) s.channels
          scn := { s.scn with
            start := e.toNat, current := e.toNat, visits := 0, stopPending := false, begun := true, state := .settling,
            selector := (s.ch c).cfg.input, ticks := 0, due := 100 * 2 ^ (s.ch c).cfg.settle } }.replies 0x18 .done [])) ∧
    (∀ e : Byte, s.ready → e.toNat ≤ 15 → s.scn.state = .idle → s.scn.list.length ≤ e.toNat →
      exec (.scanStart .addressed [e]) s = .next ((contact s).replies 0x18 .inconsistent [])) ∧
    (s.scn.state = .settling → s.scn.due ≤ s.scn.ticks →
      exec .settleTimeExpiry s = .next { s with scn := { s.scn with state := .converting, ticks := 0, due := 5 } }) ∧
    (∀ c : ChanNo, s.scn.state = .pausing → s.scn.due ≤ s.scn.ticks → s.scn.list[s.scn.start]? = some c →
      (s.ch c).state ≠ .disabled →
      exec .passPauseExpiry s = .next { s with scn := { s.scn with
        current := s.scn.start, visits := 0, begun := true, state := .settling, selector := (s.ch c).cfg.input,
        ticks := 0, due := 100 * 2 ^ (s.ch c).cfg.settle } }) ∧
    (∀ e : Byte, s.ready → e.toNat ≤ 15 → s.scn.state = .idle → e.toNat < s.scn.list.length →
      ∃ r : Scan, exec (.scanStart .addressed [e]) s = .next
          ({ contact s with
            channels := each (fun x : Channel => { x with window := [] }) s.channels, scn := r }.replies 0x18 .done []) ∧
        VisitsFrom s { s.scn with
            start := e.toNat, current := e.toNat, visits := 0, stopPending := false, begun := false } r
          fun k => PassEnded s k r) ∧
    (s.scn.state = .pausing → s.scn.due ≤ s.scn.ticks → s.scn.start < s.scn.list.length →
      s.scn.stopPending = false ∨ s.scn.mode = .single →
      ∃ r : Scan, exec .passPauseExpiry s = .next { s with scn := r } ∧
        VisitsFrom s { s.scn with current := s.scn.start, visits := 0, begun := false } r fun k => PassEnded s k r)

/-- A conversion's code joins the visited channel's window (R34, R45); a first faulty window is counted and forgotten; the
second in a row takes the channel into SENSOR FAULT, with its value, flags and level held and SENSOR FAULT appended (R46).
Whatever the window, the visit then ends: the count of visits rises by one, and the scan is in SETTLING at the next entry of an
enabled channel, in PAUSING, in the next pass, or in IDLE (R42, R43, R44); the 1 ms after a pass of skipped visits is counted as
100 ticks (assumption 15). -/
def Obligations.SamplesFillWindows : Prop :=
  (∀ (code : Code) (c : ChanNo) (s : State), s.scn.state = .converting → s.scn.due ≤ s.scn.ticks →
    s.scn.visited = some c →
    ∃ t, exec (.conversionComplete code) s = .next t ∧ VisitEnded t s.scn t.scn) ∧
  (∀ (code : Code) (c : ChanNo) (s : State), s.scn.state = .converting → s.scn.due ≤ s.scn.ticks →
    s.scn.visited = some c → (s.ch c).window.length < 3 →
    ∃ t, exec (.conversionComplete code) s = .next t ∧ t.ch c = { s.ch c with window := (s.ch c).window ++ [code] } ∧
      (∀ k : ChanNo, k ≠ c → t.ch k = s.ch k) ∧ sameBut [.scn, .channels] s t) ∧
  (∀ (code : Code) (c : ChanNo) (s : State), s.scn.state = .converting → s.scn.due ≤ s.scn.ticks →
    s.scn.visited = some c → (s.ch c).window.length = 3 → faultyWindow (s.ch c).cfg ((s.ch c).window ++ [code]) = true →
    ((s.ch c).faulty = 0 → ∃ t, exec (.conversionComplete code) s = .next t ∧
      t.ch c = { s.ch c with window := [], faulty := 1 } ∧ (∀ k : ChanNo, k ≠ c → t.ch k = s.ch k) ∧
      sameBut [.scn, .channels] s t) ∧
    ((s.ch c).faulty ≠ 0 → (s.ch c).state ≠ .sensorFault → ∃ t, exec (.conversionComplete code) s = .next t ∧
      (t.ch c).fixed = { s.ch c with window := [], faulty := 2, state := .sensorFault }.fixed ∧
      (∀ k : ChanNo, k ≠ c → (t.ch k).fixed = (s.ch k).fixed) ∧ sameBut (.scn :: Part.reached) s t ∧
      Appended (s.evq.push
        ⟨s.tb.clock, .channel c, .sensorFault, some (s.ch c).level,
          if (s.ch c).published then some (s.ch c).value else none, false⟩) t.evq))

/-- A fourth sample that makes a good window of a channel that is not under calibration publishes its value (R45, R47, R48,
R51, R68, R71): the value, level and index of the value pipeline, VALID, FRESH, OVERWRITTEN where FRESH stood, AT LIMIT where
the clamp acted (R62), and UNSETTLED by the session's countdown (R100). SENSOR RECOVERED comes before any ALARM UP or ALARM
DOWN (R47, R69), and both countdowns fall by one (R52, R100). Outside AUTO the index goes to the RAU, which computes the niche
index and selects the step (R74, R154, R156), and nothing further follows. -/
def Obligations.GoodWindowPublishes : Prop :=
  ∀ (code : Code) (c : ChanNo) (s : State), s.scn.state = .converting → s.scn.due ≤ s.scn.ticks →
    s.scn.visited = some c → (s.ch c).window.length = 3 → faultyWindow (s.ch c).cfg ((s.ch c).window ++ [code]) = false →
    s.cal.inPhase c .purging = false → s.cal.inPhase c .accumulating = false →
    ∀ w : Nat, w = windowSum ((s.ch c).window ++ [code]) →
    ∃ t, exec (.conversionComplete code) s = .next t ∧
      (t.ch c).state = .valid ∧ (t.ch c).published = true ∧ (t.ch c).window = [] ∧ (t.ch c).faulty = 0 ∧
      (t.ch c).cfg = (s.ch c).cfg ∧ (t.ch c).value = publishedValue s c w ∧ (t.ch c).level = publishedLevel s c w ∧
      (t.ch c).index = publishedIndex s c w ∧
      (t.ch c).flags.fresh = true ∧ (t.ch c).flags.overwritten = ((s.ch c).flags.overwritten || (s.ch c).flags.fresh) ∧
      (t.ch c).flags.transient = ((s.ch c).cfg.fanSensitive && (s.fansMoving || decide (0 < (s.ch c).countdown))) ∧
      (t.ch c).flags.atLimit = actsLimit (s.ch c).cfg (unlimitedValue s c w) ∧
      (s.inSession c = false → (t.ch c).flags.unsettled = (s.ch c).flags.unsettled ∧ t.cal.span = s.cal.span) ∧
      (∀ sp : SpanSession, s.cal.span = some sp → sp.channel = c →
        (t.ch c).flags.unsettled = decide (0 < sp.countdown) ∧
        t.cal.span = some { sp with countdown := sp.countdown - 1 }) ∧
      (∀ k : ChanNo, k ≠ c → (t.ch k).fixed = (s.ch k).fixed) ∧ (∀ f : FanNo, (t.fan f).fixed = (s.fan f).fixed) ∧
      sameBut (.scn :: Part.reached) s t ∧
      (∀ q : EventQueue, q = (if (s.ch c).state = .sensorFault then
            s.evq.push ⟨s.tb.clock, .channel c, .sensorRecovered, none, none, false⟩ else s.evq) →
        Appended (if (s.ch c).level < publishedLevel s c w then
            q.push ⟨s.tb.clock, .channel c, .alarmUp, some (publishedLevel s c w), some (publishedValue s c w), false⟩
          else if publishedLevel s c w < (s.ch c).level then
            q.push ⟨s.tb.clock, .channel c, .alarmDown, some (publishedLevel s c w), some (publishedValue s c w), false⟩
          else q) t.evq) ∧
      (s.rau.regime ≠ .auto ∨ (s.ch c).cfg.participates = false →
        (t.ch c).countdown = (if (s.ch c).cfg.fanSensitive then (s.ch c).countdown - 1 else (s.ch c).countdown) ∧
        (∀ k : ChanNo, k ≠ c → t.ch k = s.ch k) ∧ t.fans = s.fans) ∧
      ((s.ch c).cfg.participates = false → t.rau = s.rau) ∧
      (s.rau.regime ≠ .auto → (s.ch c).cfg.participates = true →
        t.rau.contrib = s.rau.contrib.set c
          ⟨true, (t.ch c).index, .valid, (s.ch c).flags.calibrating, (s.ch c).flags.trim⟩ ∧
        t.rau.imax = t.nicheIndex ∧ t.rau.step = selectedStep s.rau t.rau.imax s.rau.step)

/-- Stage 4 is the exact quotient rounded once, halves away from zero (R57), and stages 4 to 7 stay within the bounds that the
ranges of the configuration give (R58). -/
def Obligations.ArithmeticBounds : Prop :=
  ∀ (cfg : ChanConfig) (w : Nat) (tv xv : Option Int), w ≤ 16380 → -4096 ≤ cfg.zero → cfg.zero ≤ 4095 →
    2048 ≤ cfg.span → cfg.span ≤ 8191 → 1 ≤ cfg.fs → cfg.fs ≤ 4000 → -2000 ≤ cfg.base → cfg.base ≤ 2000 →
    (cfg.kind ≠ .temperature → cfg.kind ≠ .general → cfg.base = 0) → -200 ≤ cfg.tc → cfg.tc ≤ 200 → -500 ≤ cfg.xs →
    cfg.xs ≤ 500 → (∀ x, tv = some x → -2000 ≤ x ∧ x ≤ 6000) → (∀ x, xv = some x → 0 ≤ x ∧ x ≤ 4000) →
    (∀ num den e : Int, num = polarCount cfg w * cfg.span * cfg.fs →
      den = 4096 * (if cfg.kind.bipolar then 8192 else 16384) → e = scaledValue cfg w - cfg.base →
      2 * (num - den * e).natAbs ≤ den.natAbs ∧
        (2 * (num - den * e).natAbs = den.natAbs → num.natAbs < (den * e).natAbs)) ∧
    (polarCount cfg w * cfg.span * cfg.fs).natAbs ≤ 670875664000 ∧
    (cfg.kind.bipolar = false → -3999 ≤ scaledValue cfg w ∧ scaledValue cfg w ≤ 11997) ∧
    (cfg.kind.bipolar = true → -11998 ≤ scaledValue cfg w ∧ scaledValue cfg w ≤ 11995) ∧
    (compensatedValue cfg tv (scaledValue cfg w)).natAbs ≤ 125962 ∧
    (crossedValue cfg xv (compensatedValue cfg tv (scaledValue cfg w))).natAbs ≤ 127962

/-- Smoothing comes to rest (R63, R65): with k of at least 1 the value stays exactly when it is nearer than 2^(k-1) to the
clamped value, and otherwise moves toward it without passing it; with k of 0 it takes it. -/
def Obligations.SmoothingComesToRest : Prop :=
  ∀ (x : Channel) (v : Int), x.filterInit = true →
    (x.cfg.smoothing = 0 → smoothedValue x v = v) ∧
    ∀ k : Nat, x.cfg.smoothing = k + 1 →
      (smoothedValue x v = x.value ↔ (v - x.value).natAbs < 2 ^ k) ∧
      (x.value ≤ v → x.value ≤ smoothedValue x v ∧ smoothedValue x v ≤ v) ∧
      (v ≤ x.value → v ≤ smoothedValue x v ∧ smoothedValue x v ≤ x.value)

/-- The new alarm level is the greatest i of 0 to 3 whose threshold the judged amount reaches, or which, at or below the
current level, it keeps by the hysteresis (R68). -/
def Obligations.AlarmLevelJudged : Prop :=
  ∀ (cfg : ChanConfig) (f : Int) (level : Nat), cfg.l1 < cfg.l2 → cfg.l2 < cfg.l3 → level ≤ 3 →
    ∀ (a : Int), a = (if cfg.kind.bipolar then (f.natAbs : Int) else f) →
    ∀ th : Nat → Int, th 1 = cfg.l1 → th 2 = cfg.l2 → th 3 = cfg.l3 →
      judgedLevel cfg f level ≤ 3 ∧
      (judgedLevel cfg f level ≠ 0 → th (judgedLevel cfg f level) ≤ a ∨
        (judgedLevel cfg f level ≤ level ∧ th (judgedLevel cfg f level) - cfg.hyst ≤ a)) ∧
      ∀ i : Nat, 1 ≤ i → i ≤ 3 → (th i ≤ a ∨ (i ≤ level ∧ th i - cfg.hyst ≤ a)) → i ≤ judgedLevel cfg f level

/-! ### Zero calibration and span sessions (chapters 5 and 6) -/

/-- An accepted ZERO appends an entry at the tail, LONG where a SHORT one is not yet allowed, and one of a channel that may
not be zeroed is refused NOT NOW (R77, R78, R79). A group ZERO appends an entry for every eligible channel in ascending order,
is ignored in INCIDENT, and leaves the part alone where no channel is eligible (R80). The first entry of an empty queue is
head at once: it waits while a fan starts, changes or coasts, and otherwise is PURGING at once (R79, R82, R83); in AUTO this
is said where no step of the table is urgent, or the channel does not participate. -/
def Obligations.ZeroQueuesEntry : Prop :=
  ∀ (c : ChanNo) (ty : Byte) (s : State), s.ready →
    (zeroBarred s c = true → exec (.zero .addressed [byte c.val, ty]) s = .next ((contact s).replies 0x20 .notNow [])) ∧
    (zeroBarred s c = false → (s.ch c).cfg.kind.calibratable = false →
      exec (.zero .addressed [byte c.val, ty]) s = .next ((contact s).replies 0x20 .inconsistent [])) ∧
    (zeroBarred s c = false → (s.ch c).cfg.kind.calibratable = true →
      ∀ k : CalType, k = (if ty = 0 ∨ s.cal.longDone[c] = false then .long else .short) →
      ∃ u, HandedOn (contact s) u ∧
        exec (.zero .addressed [byte c.val, ty]) s = .next (u.replies 0x20 (taken (decide (k.code ≠ ty.toNat)))
          [byte c.val, byte k.code, byte s.cal.queue.length]) ∧
        (s.cal.queue ≠ [] → u = { contact s with cal := { s.cal with
          queue := s.cal.queue ++ [{ channel := c, type := k, retried := false }] } }) ∧
        (s.cal.queue = [] → s.cal.phase = .none → s.fansMoving = true → u = { contact s with cal := { s.cal with
          queue := [{ channel := c, type := k, retried := false }], phase := .waitingQuiet } }) ∧
        (s.cal.queue = [] → s.cal.phase = .none → s.fansMoving = false →
          s.rau.regime ≠ .auto ∨ (s.ch c).cfg.participates = false ∨
            (∀ st ∈ s.rau.steps, st.threshold < s.rau.urgentIndex) →
          u.cal.queue = [{ channel := c, type := k, retried := false }] ∧ u.cal.phase = .purging ∧ u.cal.valve = true ∧
            u.cal.headSelect = c ∧ (u.ch c).flags.calibrating = true ∧ u.cal.purgeStart = s.tb.uptime ∧
            u.cal.purgeTime = (if k = .long then (s.ch c).cfg.longPurge else (s.ch c).cfg.shortPurge))) ∧
    ∀ (map : BitVec 64) (b : Byte), map.getLsbD s.lif.straps.address.val = true →
      ∃ u, exec (.zero (.group map) [ty, b]) s = .next u ∧ HandedOn (contact s) u ∧
        (s.rau.regime = .incident ∨ (∀ k : ChanNo, zeroEligible s k = false) → u = contact s) ∧
        ∀ es : List CalEntry, es = (allChans.filter (zeroEligible s)).map (fun k : ChanNo =>
            ⟨k, if s.cal.longDone[k] then .short else .long, false⟩) →
          (s.rau.regime ≠ .incident → s.cal.queue ≠ [] →
            u = { contact s with cal := { s.cal with queue := s.cal.queue ++ es } }) ∧
          (s.rau.regime ≠ .incident → s.cal.queue = [] → s.cal.phase = .none → es ≠ [] →
            (s.fansMoving = true → u = { contact s with cal := { s.cal with queue := es, phase := .waitingQuiet } }) ∧
            (s.fansMoving = false → s.rau.regime = .manual ∨ (∀ st ∈ s.rau.steps, st.threshold < s.rau.urgentIndex) →
              u.cal.queue = es ∧ u.cal.phase = .purging ∧ u.cal.valve = true ∧
              es.head?.map (·.channel) = some u.cal.headSelect ∧ (u.ch u.cal.headSelect).flags.calibrating = true))

/-- ZERO CANCEL answers with the position that the channel's entry held, removes the entry, and aborts a head with CAL
ABORTED, cause CANCELLED; the zero offsets stay (R81, R89). -/
def Obligations.ZeroCancelRemoves : Prop :=
  ∀ (c : ChanNo) (s : State), s.ready → s.queueOk →
    (s.cal.queued c = false →
      exec (.zeroCancel .addressed [byte c.val]) s = .next ((contact s).replies 0x21 .done [byte c.val, 0xFF])) ∧
    ∀ (e : CalEntry) (rest : List CalEntry), s.cal.queue = e :: rest →
      (e.channel ≠ c → s.cal.queued c = true →
        ∃ p : Nat, (s.cal.queue[p]?.map (·.channel)) = some c ∧
          exec (.zeroCancel .addressed [byte c.val]) s = .next
            ({ contact s with cal := { s.cal with queue := s.cal.queue.filter (·.channel != c) } }.replies 0x21 .done
              [byte c.val, byte p])) ∧
      (e.channel = c → ∃ u, HandedOn (appendEvent (.cal c) .calAborted (some 1) (some 0) (contact s)) u ∧
        u.cal.queued c = false ∧
        exec (.zeroCancel .addressed [byte c.val]) s = .next (u.replies 0x21 .done [byte c.val, 0]))

/-- The end of the purge time begins ACCUMULATING (R84); 120 s without a window sum abort the head with CAL ABORTED, cause NO
SAMPLES, and the entry is not queued again (R91). In AUTO the deferral ends with it (R167), said here where no queued channel
participates: the RAU re-evaluates, so that a rise, or a fall whose hold has passed, is D, the allocation of D is requested, and
due starts are granted; only then does the next head make its quiet test. -/
def Obligations.HeadTimersAct : Prop :=
  ∀ s : State,
    (s.cal.phase = .purging → s.passed s.cal.purgeStart (1000 * s.cal.purgeTime) = true →
      exec .purgeTimeExpiry s = .next { s with cal := { s.cal with
        phase := .accumulating, received := 0, total := 0, lastSum := s.tb.uptime } }) ∧
    (s.cal.phase ≠ .purging → exec .purgeTimeExpiry s = .next s) ∧
    ∀ (e : CalEntry) (rest : List CalEntry), s.queueOk → s.cal.queue = e :: rest → s.cal.phase = .accumulating →
      s.passed s.cal.lastSum 120000 = true →
      ∃ t, exec .noSamples s = .next t ∧
        HandedOn (appendEvent (.cal e.channel) .calAborted (some 3) (some 0) s) t ∧ t.cal.queued e.channel = false ∧
        (rest = [] → t.cal.phase = .none ∧ t.cal.valve = false ∧ (t.ch e.channel).flags.calibrating = false ∧
          (t.ch e.channel).filterInit = false) ∧
        (s.rau.regime = .auto → (∀ x ∈ s.cal.queue, (s.ch x.channel).cfg.participates = false) → ∀ D : Nat,
          D = (if s.rau.demand ≤ s.rau.sought ∨ s.holdPassed = true then s.rau.sought else s.rau.demand) →
          t.rau.sought = s.rau.sought ∧ t.rau.demand = D ∧ t.rau.fallWaiting = decide (s.rau.sought < D) ∧
          t.rau.lastChange = (if s.allocationChanges D then some ⟨s.tb.uptime, false⟩ else s.rau.lastChange) ∧
          (∀ f : FanNo, (t.held f).req = s.allocatedStage D f ∧ (t.held f).dir = s.rau.autoDir ∧
            ((s.fan f).state = some .waitingBudget → (s.fan f).startDue = true →
              0 < s.rau.effective (s.allocatedStage D f) → (t.fan f).state = some .starting)) ∧
          t.cal.queue = rest ∧
          t.cal.phase = if rest = [] then .none else if t.fansMoving then .waitingQuiet else .purging)

/-- The result of a LONG and of a SHORT calibration (R87, R88): the new zero offset, the "long zero done" flag and the
entries. A good window of the head is discarded in PURGING (R84), where a head in SENSOR FAULT only recovers (R47); in
ACCUMULATING its sum is added to the total (R85), and the 16th of a LONG or the 4th of a SHORT entry gives the mean's result,
then the ending (R85, R86, R89). -/
def Obligations.CalibrationResultsSettled : Prop :=
  (∀ (c : ChanNo) (zt : Nat) (s : State),
    (zt ≤ 4095 → longResult c zt s = appendEvent (.cal c) .calDone none (some zt)
      { s.setCh c { s.ch c with cfg := { (s.ch c).cfg with zero := zt } } with
        cal := { s.cal with longDone := s.cal.longDone.set c true } }) ∧
    (4095 < zt → longResult c zt s = appendEvent (.cal c) .calFailed none (some zt) s ∧
      shortResult c zt s = appendEvent (.cal c) .calFailed none (some zt) s) ∧
    ∀ d : Int, d = (zt : Int) - (s.ch c).cfg.zero → zt ≤ 4095 →
      (d.natAbs ≤ (s.ch c).cfg.trimLimit →
        shortResult c zt s = appendEvent (.cal c) .calDone none (some zt)
          (s.setCh c { s.ch c with cfg := { (s.ch c).cfg with zero := zt } })) ∧
      ((s.ch c).cfg.trimLimit < d.natAbs →
        ∀ z : Int, z = (if 0 < d then (s.ch c).cfg.zero + (s.ch c).cfg.trimLimit
          else (s.ch c).cfg.zero - (s.ch c).cfg.trimLimit) →
        shortResult c zt s = appendEvent (.cal c) .calDone none (some z)
          (appendEvent (.cal c) .calDrift none (some d)
            (s.setCh c { s.ch c with cfg := { (s.ch c).cfg with zero := z } })))) ∧
  ∀ (code : Code) (e : CalEntry) (rest : List CalEntry) (c : ChanNo) (s : State), s.scn.state = .converting →
    s.scn.due ≤ s.scn.ticks → s.scn.visited = some c → (s.ch c).window.length = 3 →
    faultyWindow (s.ch c).cfg ((s.ch c).window ++ [code]) = false → s.cal.queue = e :: rest → e.channel = c →
    (s.cal.phase = .purging → (s.ch c).state = .sensorFault → ∃ t, exec (.conversionComplete code) s = .next t ∧
      (t.ch c).fixed = { s.ch c with
        window := [], faulty := 0, state := if (s.ch c).published then .valid else .noValue }.fixed ∧
      sameBut (.scn :: Part.reached) s t ∧
      Appended (s.evq.push ⟨s.tb.clock, .channel c, .sensorRecovered, none, none, false⟩) t.evq) ∧
    ((s.ch c).state ≠ .sensorFault →
      ∀ (k : Cal) (n : Nat), n = (if e.type = .long then 16 else 4) →
        k = { s.cal with
          received := s.cal.received + 1
          total := s.cal.total + windowSum ((s.ch c).window ++ [code])
          lastSum := s.tb.uptime } →
      (s.cal.phase = .purging → ∃ t, exec (.conversionComplete code) s = .next t ∧
        t.ch c = { s.ch c with window := [], faulty := 0 } ∧ (∀ j : ChanNo, j ≠ c → t.ch j = s.ch j) ∧
        sameBut [.scn, .channels] s t) ∧
      (s.cal.phase = .accumulating → k.received < n → ∃ t, exec (.conversionComplete code) s = .next t ∧ t.cal = k ∧
        t.ch c = { s.ch c with window := [], faulty := 0 } ∧ (∀ j : ChanNo, j ≠ c → t.ch j = s.ch j) ∧
        sameBut [.scn, .channels, .cal] s t) ∧
      (s.cal.phase = .accumulating → k.received = n → s.queueOk → ∀ (zt : Nat) (u : State),
        zt = (2 * k.total + n) / (2 * n) →
        u = { s.setCh c { s.ch c with window := [], faulty := 0 } with cal := k } →
        ∃ t, exec (.conversionComplete code) s = .next t ∧
          HandedOn { (if e.type = .long then longResult c zt u else shortResult c zt u) with scn := t.scn } t ∧
          t.cal.queued c = false ∧
          (rest = [] → t.cal.phase = .none ∧ t.cal.valve = false ∧ (t.ch c).flags.calibrating = false ∧
            (t.ch c).filterInit = false)))

/-- An accepted SPAN ENTER opens the session with the channel's G as entry G and current G and sets TRIM; a channel that may
not be entered is refused NOT NOW (R95, R96). -/
def Obligations.SpanEnterOpens : Prop :=
  ∀ (c : ChanNo) (st : Byte) (s : State), s.ready →
    (spanBarred s c = true → exec (.spanEnter .addressed [byte c.val, st]) s = .next ((contact s).replies 0x22 .notNow [])) ∧
    (spanBarred s c = false → (s.ch c).cfg.kind.calibratable = false →
      exec (.spanEnter .addressed [byte c.val, st]) s = .next ((contact s).replies 0x22 .inconsistent [])) ∧
    (spanBarred s c = false → (s.ch c).cfg.kind.calibratable = true →
      ∃ u, HandedOn
          { (contact s).setCh c { s.ch c with flags := { (s.ch c).flags with trim := true } } with
            cal := { s.cal with span := some (SpanSession.mk c (if st = 0 then .coarse else .fine) (s.ch c).cfg.span
              (s.ch c).cfg.span 0 s.tb.uptime) } } u ∧
        exec (.spanEnter .addressed [byte c.val, st]) s = .next (u.replies 0x22 (taken (decide (1 < st.toNat)))
          ([byte c.val, byte (if st = 0 then 0 else 1)] ++ le16 (s.ch c).cfg.span)))

/-- SPAN STEP and SPAN SET write the new G, clamped, to the session and to the channel together, load the unsettled countdown
and restart the inactivity time; without the session of the channel named they are refused NOT NOW (R94, R98, R99). -/
def Obligations.SpanStepAndSetWrite : Prop :=
  ∀ (c : ChanNo) (a b : Byte) (s : State), s.ready →
    (s.inSession c = false →
      exec (.spanStep .addressed [byte c.val, a, b]) s = .next ((contact s).replies 0x23 .notNow []) ∧
      exec (.spanSet .addressed [byte c.val, a, b]) s = .next ((contact s).replies 0x24 .notNow [])) ∧
    ∀ sp : SpanSession, s.cal.span = some sp → sp.channel = c →
      (∀ n : Nat, ∀ w : Int, ∀ g : Nat, n = clampNat 1 16 b.toNat →
        w = (if a = 0 then (sp.currentG : Int) + n * sp.step.size else (sp.currentG : Int) - n * sp.step.size) →
        (g : Int) = clampInt 2048 8191 w →
        exec (.spanStep .addressed [byte c.val, a, b]) s = .next
          ({ (contact s).setCh c { s.ch c with cfg := { (s.ch c).cfg with span := g } } with
            cal := { s.cal with span := some { sp with currentG := g, countdown := 2, lastRequest := s.tb.uptime } }
            }.replies 0x23 (taken (decide (1 < a.toNat ∨ n ≠ b.toNat ∨ (g : Int) ≠ w))) (byte c.val :: le16 g))) ∧
      ∀ g : Nat, g = clampNat 2048 8191 (a.toNat + 256 * b.toNat) →
        exec (.spanSet .addressed [byte c.val, a, b]) s = .next
          ({ (contact s).setCh c { s.ch c with cfg := { (s.ch c).cfg with span := g } } with
            cal := { s.cal with span := some { sp with currentG := g, countdown := 2, lastRequest := s.tb.uptime } }
            }.replies 0x24 (taken (decide (g ≠ a.toNat + 256 * b.toNat))) (byte c.val :: le16 g))

/-- SPAN EXIT keeps the current G and the inactivity timeout restores the entry G; both clear TRIM and UNSETTLED, append their
entry and close the session (R101, R102, R103). -/
def Obligations.SpanSessionEnds : Prop :=
  ∀ (s : State) (sp : SpanSession), s.cal.span = some sp →
    (s.ready → ∃ u, HandedOn
        (appendEvent (.cal sp.channel) .spanExit none (some sp.currentG)
          { (contact s).setCh sp.channel { s.ch sp.channel with
              cfg := { (s.ch sp.channel).cfg with span := sp.currentG }
              flags := { (s.ch sp.channel).flags with trim := false, unsettled := false } } with
            cal := { s.cal with span := none } }) u ∧
      exec (.spanExit .addressed [byte sp.channel.val]) s =
        .next (u.replies 0x25 .done (byte sp.channel.val :: le16 sp.currentG))) ∧
    (s.passed sp.lastRequest 1800000 = true → ∃ u, HandedOn
        (appendEvent (.cal sp.channel) .spanTimeout none (some sp.entryG)
          { s.setCh sp.channel { s.ch sp.channel with
              cfg := { (s.ch sp.channel).cfg with span := sp.entryG }
              flags := { (s.ch sp.channel).flags with trim := false, unsettled := false } } with
            cal := { s.cal with span := none } }) u ∧ exec .spanTimeout s = .next u) ∧
    (s.passed sp.lastRequest 1800000 = false → exec .spanTimeout s = .next s)

/-! ### Fans (chapters 7 and 8) -/

/-- SET FAN is OUT OF RANGE for a fan number above 3, refused NOT NOW in the states that bar it, and INCONSISTENT where the
stages do not ascend or the period of stage 1 is above 65534 (R107, R108). Accepted, it stores the configuration taken and
leaves the tach measurement, the retry count and the other fans' own records alone; a fan that it takes out of service has no
state and RUN off, and keeps its start history, its DIRECTION output and its latch (R109). A fan that stands STOPPED or is
made present trips at once where an enabled source is active (R129); otherwise one made present is INHIBITED while OUTPUT
INHIBIT is active, and else STOPPED, with a start attempt at the stage it holds (R109, R117, R137, R139), said here for MANUAL
with DEMAND SHORT clear, as MANUAL keeps it; in INCIDENT it is given the role's stage and direction (R149). A TRIPPED fan has
its retry settled afresh (R135). -/
def Obligations.SetFanStores : Prop :=
  (∀ (fields : List Byte) (s : State), s.ready → fields.length = 22 → 3 < u8 fields 0 →
    exec (.setFan .addressed fields) s = .next ((contact s).replies 0x13 .outOfRange [])) ∧
  ∀ (f : FanNo) (fields : List Byte) (s : State) (cfg : FanConfig), s.ready → fields.length = 22 → u8 fields 0 = f.val →
    cfg = takenFan (fields.drop 1) →
    (fanSetBarred (s.fan f).state (decide (u8 fields 1 ≠ 0)) = true →
      exec (.setFan .addressed fields) s = .next ((contact s).replies 0x13 .notNow [])) ∧
    (fanSetBarred (s.fan f).state (decide (u8 fields 1 ≠ 0)) = false →
      ¬(cfg.stage1 < cfg.stage2 ∧ cfg.stage2 < cfg.stage3 ∧ cfg.targetPeriod 1 ≤ 65534) →
      exec (.setFan .addressed fields) s = .next ((contact s).replies 0x13 .inconsistent [])) ∧
    (fanSetBarred (s.fan f).state (decide (u8 fields 1 ≠ 0)) = false →
      cfg.stage1 < cfg.stage2 → cfg.stage2 < cfg.stage3 → cfg.targetPeriod 1 ≤ 65534 →
      ∃ u, exec (.setFan .addressed fields) s = .next (u.replies 0x13
          (taken (cfg.bytes != fields.drop 1)) (byte f.val :: cfg.bytes)) ∧
        (u.fan f).cfg = cfg ∧ (u.fan f).tachCount = (s.fan f).tachCount ∧
        (u.fan f).reading = (s.fan f).reading ∧ (u.fan f).retryCount = (s.fan f).retryCount ∧
        (u8 fields 1 = 0 → (s.fan f).state = none → u.fan f = { s.fan f with cfg := cfg }) ∧
        (u8 fields 1 = 0 → (s.fan f).state ≠ none → (u.fan f).state = none ∧ (u.fan f).run = false ∧ (u.fan f).drive = 0 ∧
          (u.fan f).history = (s.fan f).history ∧ (u.fan f).dirOut = (s.fan f).dirOut ∧
          (u.fan f).latch = (s.fan f).latch) ∧
        (∀ g : FanNo, g ≠ f → (u.fan g).fixed = (s.fan g).fixed) ∧ (∀ c : ChanNo, (u.ch c).fixed = (s.ch c).fixed) ∧
        u.rau.fixed = s.rau.fixed ∧ sameBut (.choices :: Part.reached) (contact s) u ∧
        (u8 fields 1 ≠ 0 → ∀ (y : Fan) (due : Option RetryDue) (kept : List Stamp), y = { s.fan f with cfg := cfg } →
          due = (if cfg.retryInterval ≠ 0 ∧ (s.fan f).retryCount < cfg.maxRetries then
            some ⟨s.tb.uptime, cfg.retryInterval⟩ else none) →
          kept = (s.setFan f y).windowStamps f →
          ((s.fan f).state = some .tripped → u.fan f = { y with retryDue := due }) ∧
          ((s.fan f).state = some .stopped → y.activeSources = [] → u.fan f = y) ∧
          ((s.fan f).state = none ∨ (s.fan f).state = some .stopped → y.activeSources ≠ [] →
            ∃ cause ∈ y.activeSources, (u.fan f).state = some .tripped ∧ (u.fan f).latch = some cause ∧
              (u.fan f).run = false ∧ (u.fan f).drive = 0 ∧ (u.fan f).retryDue = due ∧
              Appended ((contact s).evq.push ⟨s.tb.clock, .fan f, .fanTrip, some cause.code, none, false⟩) u.evq) ∧
          ((s.fan f).state = none → y.activeSources = [] → s.inhibit.level = true →
            (u.fan f).state = some .inhibited ∧ (u.fan f).run = false ∧ (u.fan f).drive = 0) ∧
          ((s.fan f).state = none → y.activeSources = [] → s.inhibit.level = false → s.rau.regime = .manual →
            s.rau.short = false →
            ((s.fan f).effStage = 0 → (u.fan f).state = some .stopped ∧ (u.fan f).run = false ∧ (u.fan f).drive = 0) ∧
            (0 < (s.fan f).effStage → (s.fan f).reqDir ≠ (s.fan f).dirOut → aboveCoast cfg (s.fan f).reading = true →
              (u.fan f).state = some .coasting ∧ (u.fan f).run = false ∧ (u.fan f).since = s.tb.uptime ∧
              Appended ((contact s).evq.push
                ⟨s.tb.clock, .fan f, .fanReverse, some (s.fan f).reqDir.code, none, false⟩) u.evq) ∧
            (0 < (s.fan f).effStage →
              (s.fan f).reqDir = (s.fan f).dirOut ∨ aboveCoast cfg (s.fan f).reading = false →
              (kept.length < cfg.budget → (u.fan f).state = some .starting ∧ (u.fan f).run = true ∧
                (u.fan f).dirOut = (s.fan f).reqDir ∧ (u.fan f).drive = cfg.feedForward (s.fan f).effStage ∧
                (u.fan f).history = recordStart kept ⟨s.tb.uptime, false⟩) ∧
              (cfg.budget ≤ kept.length → (u.fan f).state = some .waitingBudget ∧ (u.fan f).run = false ∧
                Appended ((contact s).evq.push
                  ⟨s.tb.clock, .fan f, .budgetWait, none, some (s.waitSeconds cfg kept : Int), false⟩) u.evq))) ∧
          ((s.fan f).state = none → s.rau.regime = .incident → (u.held f).dir = s.rau.incDir ∧
            (u.held f).req = if s.rau.role = some .fireZone then 0 else s.rau.incStage)))

/-- The tach (R112, R113, R114): an edge in WAITING EDGE begins a count; a rising edge completes a measurement whose period is
the count, or 1, and begins the next; a falling edge completes nothing; and a count of 65535 is a saturated measurement. A
measurement within 8 % of the target ends STARTING and CHANGING in RUNNING with FAN RUNNING, its level the stage and its value
the period (R118, R119); one at or beyond the coast threshold, or a saturated one, ends COASTING: in STOPPED with FAN STOP at
stage 0, and otherwise, said here for MANUAL, in a start or in WAITING BUDGET (R122, R137, R139). The end of STARTING, CHANGING
or COASTING loads the settle-window countdowns (R52). The fan's state after is said where the move cannot set the fans moving
anew: outside AUTO, or with no head in WAITING QUIET. -/
def Obligations.TachMeasures : Prop :=
  ∀ (f : FanNo) (s : State),
    exec (.tachMeasurement f .falling) s = .next (s.setFan f { s.fan f with tachLevel := false }) ∧
    ((s.fan f).tachCount = none →
      exec (.tachMeasurement f .rising) s = .next (s.setFan f { s.fan f with tachLevel := true, tachCount := some 0 })) ∧
    (∀ n p drive : Nat, (s.fan f).tachCount = some n → n < 65535 → p = max 1 n →
      drive = correctedDrive (s.fan f).cfg (s.fan f).effStage p (s.fan f).drive →
      ∃ t, exec (.tachMeasurement f .rising) s = .next t ∧ (t.fan f).reading = some (.period p) ∧
        (t.fan f).tachCount = some 0 ∧ (t.fan f).tachLevel = true ∧ (t.fan f).cfg = (s.fan f).cfg ∧
        (∀ g : FanNo, g ≠ f → (t.fan g).fixed = (s.fan g).fixed) ∧ (∀ c : ChanNo, (t.ch c).fixed = (s.ch c).fixed) ∧
        sameBut Part.reached s t ∧
        ((s.fan f).state = some .running →
          (t.fan f).drive = drive ∧ (t.fan f).stallSince = some s.tb.uptime ∧ t.evq = s.evq ∧ t.rau = s.rau ∧
          t.cal = s.cal ∧ t.channels = s.channels) ∧
        ((s.fan f).state = some .starting ∨ (s.fan f).state = some .changing →
          withinBand (s.fan f).cfg (s.fan f).effStage p = false →
          (t.fan f).state = (s.fan f).state ∧ (t.fan f).drive = drive ∧ (t.fan f).stateReading = some (.period p) ∧
          (t.fan f).lastPeriod = some p ∧ t.evq = s.evq ∧ t.channels = s.channels) ∧
        ((s.fan f).state = some .starting ∨ (s.fan f).state = some .changing →
          withinBand (s.fan f).cfg (s.fan f).effStage p = true →
          Appended (s.evq.push ⟨s.tb.clock, .fan f, .fanRunning, some (s.fan f).effStage, some (p : Int), false⟩) t.evq ∧
          CountdownsLoaded s t ∧
          (s.rau.regime ≠ .auto ∨ s.cal.phase ≠ .waitingQuiet →
            (t.fan f).state = some .running ∧ (t.fan f).run = true ∧ (t.fan f).drive = drive ∧
            (t.fan f).runSince = some s.tb.uptime ∧ (t.fan f).stallSince = some s.tb.uptime)) ∧
        ((s.fan f).state = some .coasting → p < (s.fan f).cfg.coastPeriod →
          (t.fan f).state = some .coasting ∧ t.evq = s.evq)) ∧
    ((s.fan f).tachCount = some 65535 →
      ∃ t, exec (.tachSaturation f) s = .next t ∧ (t.fan f).reading = some .saturated ∧ (t.fan f).tachCount = none ∧
        (∀ g : FanNo, g ≠ f → (t.fan g).fixed = (s.fan g).fixed) ∧ (∀ c : ChanNo, (t.ch c).fixed = (s.ch c).fixed) ∧
        sameBut Part.reached s t ∧
        ((s.fan f).state ≠ some .coasting →
          t = s.setFan f { s.fan f with reading := some .saturated, stateReading := some .saturated, tachCount := none })) ∧
    ∀ i : Instr, (i = .tachSaturation f ∧ (s.fan f).tachCount = some 65535) ∨
        (i = .tachMeasurement f .rising ∧
          ∃ n, (s.fan f).tachCount = some n ∧ n < 65535 ∧ (s.fan f).cfg.coastPeriod ≤ max 1 n) →
      (s.fan f).state = some .coasting →
      ∃ t, exec i s = .next t ∧ CountdownsLoaded s t ∧
        ((s.fan f).effStage = 0 → Appended (s.evq.push ⟨s.tb.clock, .fan f, .fanStop, none, none, false⟩) t.evq ∧
          (s.rau.regime ≠ .auto ∨ s.cal.phase ≠ .waitingQuiet →
            (t.fan f).state = some .stopped ∧ (t.fan f).run = false)) ∧
        (0 < (s.fan f).effStage → s.rau.regime = .manual →
          ((s.windowStamps f).length < (s.fan f).cfg.budget → (t.fan f).state = some .starting ∧
            (t.fan f).run = true ∧ (t.fan f).dirOut = (s.fan f).reqDir ∧
            (t.fan f).drive = (s.fan f).cfg.feedForward (s.fan f).effStage) ∧
          ((s.fan f).cfg.budget ≤ (s.windowStamps f).length → (t.fan f).state = some .waitingBudget ∧
            (t.fan f).run = false ∧ Appended (s.evq.push ⟨s.tb.clock, .fan f, .budgetWait, none,
              some (s.waitSeconds (s.fan f).cfg (s.windowStamps f) : Int), false⟩) t.evq))

/-- The start timeout makes the fan RUNNING with SPEED OFF at 80 % of the target or with STALL not enabled, and trips it with
cause STALL otherwise (R118); the change timeout makes it RUNNING with SPEED OFF whatever its speed (R119). Each of the three
ends a transition and loads the settle-window countdowns (R52). The fan's whole record is said where leaving its transition
cannot set it moving anew: outside AUTO, or with no head in WAITING QUIET. -/
def Obligations.StartAndChangeTimeouts : Prop :=
  ∀ (f : FanNo) (s : State), s.passed (s.fan f).since (1000 * (s.fan f).cfg.startTimeout) = true →
    ((s.fan f).state = some .starting →
      atLeast80 (s.fan f).cfg (s.fan f).effStage (s.fan f).stateReading = true ∨ (s.fan f).enabled .stall = false →
      ∃ t, exec (.startTimeout f) s = .next t ∧
        HandedOn (appendEvent (.fan f) .speedOff (some (s.fan f).effStage) (some ((s.fan f).lastPeriod.getD 65535)) s) t ∧
        CountdownsLoaded s t ∧
        (s.rau.regime ≠ .auto ∨ s.cal.phase ≠ .waitingQuiet →
          t.fan f = { s.fan f with state := some .running, run := true, runSince := some s.tb.uptime,
                                   stallSince := some s.tb.uptime })) ∧
    ((s.fan f).state = some .starting → (s.fan f).latch = none →
      atLeast80 (s.fan f).cfg (s.fan f).effStage (s.fan f).stateReading = false → (s.fan f).enabled .stall = true →
      ∃ t, exec (.startTimeout f) s = .next t ∧ (t.fan f).state = some .tripped ∧ (t.fan f).latch = some .stall ∧
        (t.fan f).run = false ∧ (t.fan f).drive = 0 ∧ (t.fan f).cfg = (s.fan f).cfg ∧
        (∀ g : FanNo, g ≠ f → (t.fan g).fixed = (s.fan g).fixed) ∧ sameBut Part.reached s t ∧ CountdownsLoaded s t ∧
        Appended
          (s.evq.push ⟨s.tb.clock, .fan f, .fanTrip, some 4, none, false⟩) t.evq) ∧
    ((s.fan f).state = some .changing →
      ∃ t, exec (.changeTimeout f) s = .next t ∧
        HandedOn (appendEvent (.fan f) .speedOff (some (s.fan f).effStage) (some ((s.fan f).lastPeriod.getD 65535)) s) t ∧
        CountdownsLoaded s t ∧
        (s.rau.regime ≠ .auto ∨ s.cal.phase ≠ .waitingQuiet →
          t.fan f = { s.fan f with state := some .running, run := true, runSince := some s.tb.uptime }))

/-- The coast timeout appends COAST TIMEOUT and ends the coast: STOPPED at stage 0, and otherwise, in MANUAL, a start in the
direction asked, without the coast-first test, where the budget permits it, and WAITING BUDGET where it does not (R122, R137);
and the stall watch, run out, trips a fan whose STALL is enabled and otherwise only stops (R123). The end of the coast and the
trip load the settle-window countdowns (R52). The fan STOPPED at stage 0 is said outside AUTO, or with no head in WAITING
QUIET, where leaving the coast cannot set it moving anew. -/
def Obligations.CoastAndStallEnd : Prop :=
  ∀ (f : FanNo) (s : State),
    ((s.fan f).state = some .coasting → s.passed (s.fan f).since (1000 * (s.fan f).cfg.coastTimeout) = true →
      ∃ t, exec (.coastTimeout f) s = .next t ∧ (t.fan f).fixed = (s.fan f).fixed ∧ CountdownsLoaded s t ∧
        (∀ g : FanNo, g ≠ f → (t.fan g).fixed = (s.fan g).fixed) ∧ sameBut Part.reached s t ∧
        Appended (s.evq.push ⟨s.tb.clock, .fan f, .coastTimeout, none, none, false⟩) t.evq ∧
        ((s.fan f).effStage = 0 → s.rau.regime ≠ .auto ∨ s.cal.phase ≠ .waitingQuiet →
          (t.fan f).state = some .stopped ∧ (t.fan f).run = false) ∧
        (0 < (s.fan f).effStage → s.rau.regime = .manual → (s.fan f).holds (s.held f) = true →
          ((s.windowStamps f).length < (s.fan f).cfg.budget →
            (t.fan f).state = some .starting ∧ (t.fan f).run = true ∧ (t.fan f).dirOut = (s.fan f).reqDir) ∧
          ((s.fan f).cfg.budget ≤ (s.windowStamps f).length →
            (t.fan f).state = some .waitingBudget ∧ (t.fan f).run = false))) ∧
    ((s.fan f).state = some .running ∨ (s.fan f).state = some .changing →
      ∀ w : Ms, (s.fan f).stallSince = some w → s.passed w 1000 = true →
        ((s.fan f).enabled .stall = false →
          exec (.stallWatchExpiry f) s = .next (s.setFan f { s.fan f with stallSince := none })) ∧
        ((s.fan f).enabled .stall = true → (s.fan f).latch = none →
          ∃ t, exec (.stallWatchExpiry f) s = .next t ∧ (t.fan f).state = some .tripped ∧
            (t.fan f).latch = some .stall ∧ (t.fan f).run = false ∧ (t.fan f).drive = 0 ∧ CountdownsLoaded s t ∧
            (∀ g : FanNo, g ≠ f → (t.fan g).fixed = (s.fan g).fixed) ∧ sameBut Part.reached s t))

/-- At the ageing of a stamp a waiting fan is checked again (R139, R141, R168): with fewer in-window stamps than its budget
its start falls due, which MANUAL grants at once, and otherwise a further BUDGET WAIT is appended and it waits on. -/
def Obligations.BudgetRechecked : Prop :=
  ∀ (f : FanNo) (s : State), (s.fan f).state = some .waitingBudget → (s.fan f).startDue = false →
    (s.windowStamps f).length < (s.fan f).history.length →
    ((s.windowStamps f).length < (s.fan f).cfg.budget →
      ∃ t, exec (.budgetRecheck f) s = .next t ∧
        HandedOn (s.setFan f { s.fan f with history := s.windowStamps f, startDue := true }) t) ∧
    ((s.windowStamps f).length < (s.fan f).cfg.budget → s.rau.regime = .manual →
      ∃ t, exec (.budgetRecheck f) s = .next t ∧ (t.fan f).state = some .starting ∧ (t.fan f).run = true ∧
        (t.fan f).dirOut = (s.fan f).reqDir ∧ (t.fan f).startDue = false ∧
        (t.fan f).history = recordStart (s.windowStamps f) { time := s.tb.uptime, expired := false } ∧
        (∀ g : FanNo, g ≠ f → (t.fan g).fixed = (s.fan g).fixed) ∧ sameBut Part.reached s t) ∧
    ((s.windowStamps f).length < (s.fan f).cfg.budget →
      s.rau.regime = .incident ∨ (s.rau.regime = .auto ∧ s.heldBack = true) → exec (.budgetRecheck f) s = .next
        (s.setFan f { s.fan f with history := s.windowStamps f, startDue := true })) ∧
    ((s.fan f).cfg.budget ≤ (s.windowStamps f).length →
      exec (.budgetRecheck f) s = .next (appendEvent (.fan f) .budgetWait none
        (some (s.waitSeconds (s.fan f).cfg (s.windowStamps f) : Int))
        (s.setFan f { s.fan f with history := s.windowStamps f })))

/-- An enabled level source that becomes active trips a present fan whose latch is clear, and otherwise its input's level is
all that changes: the overcurrent comparator at once, the two contacts once debounced (R128, R129, R130). The trip loads the
settle-window countdowns (R52). Its FAN TRIP comes first; a head in PURGING or ACCUMULATING is then aborted, with CAL ABORTED,
cause QUIET LOST, the head re-queued once with retried yes (R90; what stands in the queue after is said outside AUTO); that
this stands before a DEMAND SHORT entry is the model's order of hand-overs (assumption 10). Where an available fan is lost,
outside AUTO and with no calibration, DEMAND SHORT is then evaluated: set with DEMAND SHORT ON and the shortfall where the
effective stages of the available fans fall below what is sought, cleared with DEMAND SHORT OFF where they reach it (R164). -/
def Obligations.TripSourcesAct : Prop :=
  ∀ (f : FanNo) (s : State),
    ((s.fan f).state.isSome = true → (s.fan f).latch = none → (s.fan f).overcurrent = false →
      (s.fan f).enabled .overcurrent = true →
      ∃ t, exec (.overcurrentChange f true) s = .next t ∧ (t.fan f).state = some .tripped ∧
        (t.fan f).latch = some .overcurrent ∧ (t.fan f).run = false ∧ (t.fan f).drive = 0 ∧
        (t.fan f).overcurrent = true ∧ (t.fan f).history = (s.fan f).history ∧ (t.fan f).cfg = (s.fan f).cfg ∧
        (∀ g : FanNo, g ≠ f → (t.fan g).fixed = (s.fan g).fixed) ∧ sameBut Part.reached s t ∧
        ((s.fan f).state ≠ some .tripped → CountdownsLoaded s t) ∧
        ∀ q : EventQueue, q = s.evq.push ⟨s.tb.clock, .fan f, .fanTrip, some 1, none, false⟩ → Appended q t.evq ∧
          (∀ (e : CalEntry) (rest : List CalEntry), (s.fan f).state ≠ some .tripped → s.cal.phase.airOn = true →
            s.cal.queue = e :: rest →
            QuietLostNext e q s t ∧ (s.rau.regime ≠ .auto → HeadAborted e rest t)) ∧
          (s.rau.regime ≠ .auto → s.cal.phase = .none → availableState (s.fan f).state = true → ∀ delivered sought : Nat,
            delivered = ((allFans.filter fun k => availableState (t.fan k).state).map fun k => (s.held k).eff).sum →
            sought = (if s.rau.regime = .incident then
              ((allFans.filter fun k => (s.fan k).state.isSome).map fun k => (s.held k).req).sum else 0) →
            t.rau = { s.rau with short := decide (delivered < sought) } ∧
            t.evq = (if delivered < sought ∧ s.rau.short = false then
                q.push ⟨s.tb.clock, .node, .demandShortOn, none, some ((sought - delivered : Nat) : Int), false⟩
              else if sought ≤ delivered ∧ s.rau.short = true then
                q.push ⟨s.tb.clock, .node, .demandShortOff, none, none, false⟩ else q))) ∧
    (∀ level : Bool, level = false ∨ (s.fan f).overcurrent = true ∨ (s.fan f).enabled .overcurrent = false ∨
      (s.fan f).state = none ∨ (s.fan f).latch ≠ none →
      exec (.overcurrentChange f level) s = .next (s.setFan f { s.fan f with overcurrent := level })) ∧
    ∀ (i : TripInput) (cause : TripCause) (d : Debounced), s.debounced d = true → d = (s.fan f).tripInput i →
      cause = (match i with | .vibration => .vibration | .driveFault => .driveFault) →
      (d.input = true → (s.fan f).state.isSome = true → (s.fan f).latch = none → (s.fan f).enabled cause = true →
        ∃ t, exec (.tripSourceDebounced f i) s = .next t ∧ (t.fan f).state = some .tripped ∧
          (t.fan f).latch = some cause ∧ (t.fan f).run = false ∧ (t.fan f).drive = 0 ∧
          (t.fan f).tripInput i = ⟨true, true, none⟩ ∧ (∀ g : FanNo, g ≠ f → (t.fan g).fixed = (s.fan g).fixed) ∧
          sameBut Part.reached s t) ∧
      (d.input = false ∨ (s.fan f).state = none ∨ (s.fan f).latch ≠ none ∨ (s.fan f).enabled cause = false →
        exec (.tripSourceDebounced f i) s = .next
          (s.setFan f ((s.fan f).setTripInput i ⟨d.input, d.input, none⟩)))

/-- TRIP RESET clears a set latch unless an enabled level source is active, sets the retry count to 0 and releases the fan
(R132); a due auto-retry clears it too and counts itself, or is put off while a source is active (R134). A released fan enters
INHIBITED with the debounced OUTPUT INHIBIT active, and STOPPED otherwise, from where it follows the stage and direction stored
(R133): what comes of that is said whole outside AUTO, where no re-evaluation moves the fan as well. -/
def Obligations.TripLatchCleared : Prop :=
  ∀ (f : FanNo) (s : State),
    (s.ready → (s.fan f).latch = none → exec (.tripReset .addressed [byte f.val]) s = .next
      ((contact s).replies 0x2A .done [byte f.val, byte (fanStateCode (s.fan f).state)])) ∧
    (s.ready → (s.fan f).latch ≠ none → (s.fan f).activeSources ≠ [] →
      exec (.tripReset .addressed [byte f.val]) s = .next ((contact s).replies 0x2A .notNow [])) ∧
    (s.ready → (s.fan f).latch ≠ none → (s.fan f).activeSources = [] →
      ∃ u, exec (.tripReset .addressed [byte f.val]) s = .next
          (u.replies 0x2A .done [byte f.val, byte (fanStateCode (u.fan f).state)]) ∧
        (u.fan f).latch = none ∧ (u.fan f).retryDue = none ∧ (u.fan f).retryCount = 0 ∧ (u.fan f).cfg = (s.fan f).cfg ∧
        (∀ g : FanNo, g ≠ f → (u.fan g).fixed = (s.fan g).fixed) ∧ sameBut Part.reached (contact s) u ∧
        ∀ q : EventQueue, q = (contact s).evq.push ⟨s.tb.clock, .fan f, .tripCleared, some 1, some 0, false⟩ →
          Appended q u.evq ∧ FanReleased f q s u) ∧
    ∀ r : RetryDue, (s.fan f).latch ≠ none → (s.fan f).retryDue = some r → s.passed r.since (1000 * r.interval) = true →
      ((s.fan f).activeSources ≠ [] → exec (.autoRetry f) s = .next (s.setFan f { s.fan f with
        retryDue := some { since := s.tb.uptime, interval := (s.fan f).cfg.retryInterval } })) ∧
      ((s.fan f).activeSources = [] → ∃ t, exec (.autoRetry f) s = .next t ∧ (t.fan f).latch = none ∧
        (t.fan f).retryDue = none ∧ (t.fan f).retryCount = (s.fan f).retryCount + 1 ∧
        (t.fan f).cfg = (s.fan f).cfg ∧
        (∀ g : FanNo, g ≠ f → (t.fan g).fixed = (s.fan g).fixed) ∧ sameBut Part.reached s t ∧
        ∀ q : EventQueue, q = s.evq.push
            ⟨s.tb.clock, .fan f, .tripCleared, some 2, some ((s.fan f).retryCount + 1 : Nat), false⟩ →
          Appended q t.evq ∧ FanReleased f q s t)

/-- What the inputs and the counts of a fan and a door do by themselves: an input's change starts, starts again or abandons
its debounce and does nothing else (R125, R128, R174); 600 s of RUNNING clear the retry count (R135); and a stamp of 2^31 ms
is held as expired (R21). -/
def Obligations.InputsAndCountsKept : Prop :=
  ∀ s : State,
    (∀ level : Bool, exec (.inhibitInputChange level) s = .next (if level = s.inhibit.input then s else
      { s with inhibit := { s.inhibit with
        input := level, since := if level = s.inhibit.level then none else some s.tb.uptime } })) ∧
    (∀ (f : FanNo) (level : Bool), level ≠ (s.fan f).vibration.input →
      exec (.tripInputChange f .vibration level) s = .next (s.setFan f { s.fan f with
        vibration := ⟨level, (s.fan f).vibration.level,
          if level = (s.fan f).vibration.level then none else some s.tb.uptime⟩ })) ∧
    (∀ (f : FanNo) (level : Bool), level ≠ (s.fan f).driveFault.input →
      exec (.tripInputChange f .driveFault level) s = .next (s.setFan f { s.fan f with
        driveFault := ⟨level, (s.fan f).driveFault.level,
          if level = (s.fan f).driveFault.level then none else some s.tb.uptime⟩ })) ∧
    (∀ (d : DoorNo) (c : Contact) (level : Bool), level ≠ ((s.door d).contacts.get c).input →
      exec (.doorContactInputChange d c level) s = .next (s.setDoor d { s.door d with
        contacts := (s.door d).contacts.set c ⟨level, ((s.door d).contacts.get c).level,
          if ((s.door d).contacts.get c).level = some level then none else some s.tb.uptime⟩ })) ∧
    (∀ (f : FanNo) (w : Ms), (s.fan f).state = some .running → (s.fan f).runSince = some w → s.passed w 600000 = true →
      exec (.retryCountClear f) s = .next (s.setFan f { s.fan f with retryCount := 0, runSince := none })) ∧
    ∃ t, exec .stampExpiry s = .next t ∧ sameBut [.fans, .rau, .doors] s t ∧
      (∀ x : Stamp, s.expire x = if 2147483648 ≤ s.age x.time then { x with expired := true } else x) ∧
      (∀ f : FanNo, t.fan f = { s.fan f with history := (s.fan f).history.map s.expire }) ∧
      t.rau = { s.rau with lastChange := s.rau.lastChange.map s.expire } ∧
      ∀ d : DoorNo, t.door d = { s.door d with armed := (s.door d).armed.map s.expire }

/-- The debounced OUTPUT INHIBIT (R125, R126): INHIBIT ON and then every present fan that is not TRIPPED in INHIBITED with RUN
off; INHIBIT OFF and then no fan in INHIBITED. TRIPPED and absent fans stay as they are; the order of the fans is free
(assumption 3). A fan that enters INHIBITED loads the settle-window countdowns, and one released into STOPPED does not (R52; the
release is said outside AUTO); the first that enters it aborts a head in PURGING or ACCUMULATING, cause QUIET LOST, before
anything the RAU appends in consequence (R90, assumption 10). -/
def Obligations.InhibitActsOnFans : Prop :=
  ∀ s : State, s.inhibitHeld → s.debounced s.inhibit = true →
    (s.inhibit.input = true → ∃ t, exec .inhibitOn s = .next t ∧ t.inhibit = ⟨true, true, none⟩ ∧
      (∀ f : FanNo, (t.fan f).cfg = (s.fan f).cfg ∧ (t.fan f).latch = (s.fan f).latch ∧
        (availableState (s.fan f).state = true →
          (t.fan f).state = some .inhibited ∧ (t.fan f).run = false ∧ (t.fan f).drive = 0) ∧
        ((s.fan f).state = some .tripped → (t.fan f).state = some .tripped) ∧
        ((s.fan f).state = none → (t.fan f).state = none)) ∧
      sameBut (.inhibit :: .choices :: Part.reached) s t ∧
      ((∃ f : FanNo, availableState (s.fan f).state = true) → CountdownsLoaded s t) ∧
      ((∀ f : FanNo, availableState (s.fan f).state = false) → t.channels = s.channels ∧ t.cal = s.cal) ∧
      ∀ q : EventQueue, q = s.evq.push ⟨s.tb.clock, .node, .inhibitOn, none, none, false⟩ → Appended q t.evq ∧
        ∀ (e : CalEntry) (rest : List CalEntry), (∃ f : FanNo, availableState (s.fan f).state = true) →
          s.cal.phase.airOn = true → s.cal.queue = e :: rest → QuietLostNext e q s t) ∧
    (s.inhibit.input = false → ∃ t, exec .inhibitOff s = .next t ∧ t.inhibit = ⟨false, false, none⟩ ∧
      (∀ f : FanNo, (t.fan f).cfg = (s.fan f).cfg ∧ (t.fan f).latch = (s.fan f).latch ∧
        (t.fan f).state ≠ some .inhibited ∧ ((s.fan f).state = some .tripped → (t.fan f).state = some .tripped) ∧
        ((s.fan f).state = none → (t.fan f).state = none)) ∧
      sameBut (.inhibit :: .choices :: Part.reached) s t ∧ (s.rau.regime ≠ .auto → CountdownsKept s t) ∧
      Appended
        (s.evq.push ⟨s.tb.clock, .node, .inhibitOff, none, none, false⟩) t.evq)

/-! ### Ventilation (chapter 9) -/

/-- REGIME stores the regime named with the parameters it reads, clamped, and keeps the others; REGIME CHANGED comes first, and
INCIDENT empties the calibration queue with CAL ABORTED, cause INCIDENT, and then ends the session with its entry G restored
and SPAN ABORTED (R92, R101, R104), and gives every present fan the role's stage and direction, in the same hand-over starting
a fan that waits on its budget, or stopping it with FAN STOP where its effective stage is 0 (R138, R140, R145, R146, R149).
AUTO sets D to what the current step and the new floor seek, requests the allocation of D over the ranking as it stands at the
entry, and sets the last-change time (R148, R157, R159, R160), said here for a CAL that is IDLE; DEMAND SHORT is left as the
thrust delivered and sought give it (R164). -/
def Obligations.RegimeEntered : Prop :=
  ∀ (a b c d e f g : Byte) (s : State), s.ready →
    ∃ u, exec (.regime .addressed [a, b, c, d, e, f, g]) s = .next (u.replies 0x28
        (taken (decide (2 < a.toNat) ||
          (if a.toNat = 0 then false else if a.toNat = 1 then decide (1 < b.toNat ∨ 12 < c.toNat)
            else decide (d.toNat = 0 ∨ 3 < d.toNat ∨ 1 < e.toNat ∨ 3 < f.toNat ∨ 1 < g.toNat))))
        (regimeBytes u.rau)) ∧
      sameBut (.doors :: .vestibule :: Part.reached) (contact s) u ∧
      u.rau.steps = s.rau.steps ∧ u.rau.doorCap = s.rau.doorCap ∧ u.rau.autoHold = s.rau.autoHold ∧
      (∀ k : FanNo, (u.fan k).fixed = (s.fan k).fixed) ∧ (∀ k : DoorNo, (u.door k).lockMode = (s.door k).lockMode) ∧
      (a.toNat = 0 → u.rau.regime = .manual ∧ u.rau.autoDir = s.rau.autoDir ∧ u.rau.floor = s.rau.floor ∧
        u.rau.role = s.rau.role ∧ u.rau.incStage = s.rau.incStage ∧
        ∀ k : FanNo, (u.held k).req = (s.held k).eff) ∧
      (a.toNat = 1 → u.rau.regime = .auto ∧ u.rau.autoDir = Dir.ofCode b.toNat ∧ u.rau.floor = min c.toNat 12 ∧
        u.rau.role = s.rau.role ∧ ∀ k : FanNo, (u.held k).dir = Dir.ofCode b.toNat) ∧
      (a.toNat = 1 → s.cal.phase = .none → ∀ D : Nat, D = max (s.rau.thrustOf s.rau.step) (min c.toNat 12) →
        u.rau.sought = D ∧ u.rau.demand = D ∧ u.rau.fallWaiting = false ∧
        u.rau.lastChange = some ⟨s.tb.uptime, false⟩ ∧
        ∀ k : FanNo, (u.held k).req = State.allocatedStage
            { s with rau := { s.rau with autoDir := Dir.ofCode b.toNat } } D k ∧
          (u.held k).eff = if u.rau.doorOpen then min (u.held k).req u.rau.doorCap else (u.held k).req) ∧
      (a.toNat ≠ 1 ∨ s.cal.phase = .none → (u.rau.short = true ↔ u.delivered < u.thrustSought)) ∧
      (2 ≤ a.toNat → u.rau.regime = .incident ∧ u.rau.role = some (Role.ofCode d.toNat) ∧
        u.rau.incDir = Dir.ofCode e.toNat ∧ u.rau.incStage = min f.toNat 3 ∧
        u.rau.respectCap = decide (g.toNat ≠ 0) ∧ u.rau.autoDir = s.rau.autoDir ∧ u.rau.floor = s.rau.floor ∧
        u.cal.queue = [] ∧ (s.queueOk → u.cal.phase = .none) ∧ u.cal.span = none ∧
        (∀ k : FanNo, (s.fan k).state.isSome = true → (u.held k).dir = Dir.ofCode e.toNat ∧
          (u.held k).req = (if Role.ofCode d.toNat = .fireZone then 0 else min f.toNat 3)) ∧
        (∀ k : FanNo, (s.fan k).state = none → (u.held k).req = 0) ∧
        (∀ sp : SpanSession, s.cal.span = some sp → (u.ch sp.channel).cfg = { (s.ch sp.channel).cfg with span := sp.entryG } ∧
          (u.ch sp.channel).flags.trim = false ∧ (u.ch sp.channel).flags.unsettled = false) ∧
        (s.cal.phase.airOn = true → ∀ (x : CalEntry) (rest : List CalEntry), s.cal.queue = x :: rest →
          u.cal.valve = false ∧ (u.ch x.channel).flags.calibrating = false ∧ (u.ch x.channel).filterInit = false) ∧
        ∀ k : FanNo, (s.fan k).state = some .waitingBudget →
          (0 < (u.held k).eff → (u.fan k).state = some .starting ∧ (u.fan k).run = true ∧
            (u.fan k).dirOut = Dir.ofCode e.toNat ∧ (u.fan k).drive = (s.fan k).cfg.feedForward (u.held k).eff ∧
            (u.fan k).history = recordStart (s.windowStamps k) ⟨s.tb.uptime, false⟩) ∧
          ((u.held k).eff = 0 → (u.fan k).state = some .stopped ∧ (u.fan k).run = false ∧
            ∃ es : List Event, u.evq = es.foldl EventQueue.push (contact s).evq ∧
              ⟨s.tb.clock, .fan k, .fanStop, none, none, false⟩ ∈ es)) ∧
      ∀ q : EventQueue, q = (contact s).evq.push
          ⟨s.tb.clock, .node, .regimeChanged, some u.rau.regime.code,
            if u.rau.regime = .incident then u.rau.role.map fun x => (x.code : Int) else none, false⟩ →
        Appended q u.evq ∧
        (2 ≤ a.toNat → ∀ q1 q2 : EventQueue,
          q1 = (match s.cal.queue with
            | [] => q
            | x :: _ => q.push ⟨s.tb.clock, .cal x.channel, .calAborted, some 4, some 0, false⟩) →
          q2 = (match s.cal.span with
            | none => q1
            | some sp => q1.push ⟨s.tb.clock, .cal sp.channel, .spanAborted, none, some sp.entryG, false⟩) →
          Appended q2 u.evq)

/-- FAN COMMAND in MANUAL sets what the RAU holds for the fan, with the effective stage under the door cap; in AUTO and
INCIDENT it is refused NOT NOW (R151, R163). A fan handed a change stores it and follows it (R116): an absent, TRIPPED,
INHIBITED or COASTING one only stores it; a STOPPED one with a stage above 0 coasts first where it turns the other way above
the coast threshold (R117), and otherwise starts with its feed-forward code and a stamp in its history, or waits where its
budget is spent (R111, R137, R138, R139); a waiting or powered one handed stage 0 stops (R120, R140); a powered one handed the
other direction reverses through COASTING (R121); and one handed another stage changes to it (R118, R119). Where the fan leaves
STARTING, CHANGING or COASTING the settle-window countdowns are loaded, and otherwise not (R52); where it enters one of them, a
head in PURGING or ACCUMULATING is aborted, with CAL ABORTED, cause QUIET LOST, the head re-queued once with retried yes
(R90). -/
def Obligations.FanCommandHandsStage : Prop :=
  ∀ (f : FanNo) (a b : Byte) (s : State), s.ready →
    (s.rau.regime ≠ .manual →
      exec (.fanCommand .addressed [byte f.val, a, b]) s = .next ((contact s).replies 0x29 .notNow [])) ∧
    (s.rau.regime = .manual → ∀ r : RauFan,
      r = { req := min a.toNat 3,
            eff := if s.rau.doorOpen then min (min a.toNat 3) s.rau.doorCap else min a.toNat 3,
            dir := if b = 0 then .forward else .reverse } →
      ∃ u, HandedOn (contact s) u ∧ u.held f = r ∧ (∀ g : FanNo, g ≠ f → u.held g = s.held g) ∧
        (s.rau.short = false → u.rau.short = false) ∧
        (movingState (s.fan f).state = true → (u.fan f).state ≠ (s.fan f).state → CountdownsLoaded s u) ∧
        (movingState (s.fan f).state = false ∨ (u.fan f).state = (s.fan f).state → CountdownsKept s u) ∧
        (∀ (e : CalEntry) (rest : List CalEntry), movingState (u.fan f).state = true →
          (u.fan f).state ≠ (s.fan f).state → s.cal.phase.airOn = true → s.cal.queue = e :: rest →
          HeadAborted e rest u ∧ QuietLostNext e
            (if (u.fan f).state = some .coasting then
              (contact s).evq.push ⟨s.tb.clock, .fan f, .fanReverse, some r.dir.code, none, false⟩
             else (contact s).evq) s u) ∧
        exec (.fanCommand .addressed [byte f.val, a, b]) s = .next (u.replies 0x29
          (taken (decide (3 < a.toNat ∨ 1 < b.toNat)))
          [byte f.val, byte r.req, byte r.eff, byte r.dir.code]) ∧
        ((s.fan f).state = some .running → (s.fan f).effStage ≠ 0 → r.eff = 0 →
          (u.fan f).state = some .stopped ∧ (u.fan f).run = false ∧ (u.fan f).drive = 0) ∧
        ((s.fan f).state = none → (u.fan f).state = none ∧ (u.fan f).reqStage = r.req ∧ (u.fan f).effStage = r.eff ∧
          (u.fan f).reqDir = r.dir) ∧
        ((s.fan f).holds (s.held f) = true → r = s.held f → u.fan f = s.fan f) ∧
        ((s.fan f).holds (s.held f) = true → r ≠ s.held f → ∀ (x : Fan) (coastFirst : Prop),
          x = { s.fan f with reqStage := r.req, effStage := r.eff, reqDir := r.dir } →
          (coastFirst ↔ r.dir ≠ x.dirOut ∧ ∃ p, x.reading = some (.period p) ∧ p < x.cfg.coastPeriod) →
          (x.state = none ∨ x.state = some .tripped ∨ x.state = some .inhibited ∨ x.state = some .coasting ∨
              (x.state = some .stopped ∧ r.eff = 0) ∨ (x.state = some .waitingBudget ∧ r.eff ≠ 0) ∨
              (poweredState x.state = true ∧ r.eff ≠ 0 ∧ r.dir = x.dirOut ∧ r.eff = (s.fan f).effStage) →
            u.fan f = x) ∧
          ((x.state = some .waitingBudget ∨ poweredState x.state = true) → r.eff = 0 →
            (u.fan f).state = some .stopped ∧ (u.fan f).run = false ∧ (u.fan f).drive = 0 ∧
            Appended ((contact s).evq.push ⟨s.tb.clock, .fan f, .fanStop, none, none, false⟩) u.evq) ∧
          ((x.state = some .stopped ∧ coastFirst) ∨ (poweredState x.state = true ∧ r.dir ≠ x.dirOut) → r.eff ≠ 0 →
            (u.fan f).state = some .coasting ∧ (u.fan f).run = false ∧ (u.fan f).drive = 0 ∧
            (u.fan f).since = s.tb.uptime ∧ (u.fan f).dirOut = x.dirOut ∧
            Appended ((contact s).evq.push ⟨s.tb.clock, .fan f, .fanReverse, some r.dir.code, none, false⟩) u.evq) ∧
          (x.state = some .stopped → ¬coastFirst → r.eff ≠ 0 →
            ((s.windowStamps f).length < x.cfg.budget →
              (u.fan f).state = some .starting ∧ (u.fan f).run = true ∧ (u.fan f).dirOut = r.dir ∧
              (u.fan f).drive = x.cfg.feedForward r.eff ∧ (u.fan f).since = s.tb.uptime ∧
              (u.fan f).history = recordStart (s.windowStamps f) ⟨s.tb.uptime, false⟩) ∧
            (x.cfg.budget ≤ (s.windowStamps f).length →
              (u.fan f).state = some .waitingBudget ∧ (u.fan f).run = false ∧ (u.fan f).drive = 0 ∧
              Appended ((contact s).evq.push ⟨s.tb.clock, .fan f, .budgetWait, none,
                some (s.waitSeconds x.cfg (s.windowStamps f) : Int), false⟩) u.evq)) ∧
          (poweredState x.state = true → r.eff ≠ 0 → r.dir = x.dirOut → r.eff ≠ (s.fan f).effStage →
            (u.fan f).drive = x.cfg.feedForward r.eff ∧ (u.fan f).dirOut = x.dirOut ∧
            (x.state = some .starting → (u.fan f).state = some .starting ∧ (u.fan f).since = x.since) ∧
            (x.state ≠ some .starting → (u.fan f).state = some .changing ∧ (u.fan f).since = s.tb.uptime))))

/-- SET DEMAND replaces the table and dh, clamped, where the thresholds ascend and the thrusts do not fall, and is
INCONSISTENT otherwise; it is CLAMPED where the number of steps, dh or a field of a step in use lay outside its range (R155).
The step is selected anew from none, and the demand sought anew (R156, R157); in AUTO, said here for a CAL that is IDLE, a
rise, or a fall whose hold has passed, is D at once, and another fall waits; the allocation of D is requested, and the
last-change time is set where it changes something (R158, R161, R162). A waiting fall whose hold has passed is applied at the
hold's expiry (R162): D is the sought demand and its allocation is requested, and where that changes something the effective
stages are formed under the door cap, every fan holds its own, and the last-change time is set (R160, R161, R163); said here
for a CAL that is IDLE, or in WAITING QUIET behind a fan that the fall leaves in transition. While the head is
PURGING or ACCUMULATING and the current step is not urgent, neither moves a fan nor grants a start: what the RAU holds for the
fans stands, a rise is D at once, and a fall leaves D unless its hold has passed and its allocation changes nothing (R157, R165,
R166). An urgent step is applied at once, and due starts are granted (R166), said here for a rise to the capacity or above,
with no queued channel participating. An AUTO_HOLD_EXPIRY outside AUTO or with no fall waiting does nothing (assumption 4). -/
def Obligations.DemandSetAndHoldExpires : Prop :=
  ∀ s : State,
    (∀ (fields : List Byte) (steps : List DemandStep), s.ready → fields.length = 14 →
      steps = (List.range (min (u8 fields 0) 6)).map (fun i =>
        ⟨clampNat 1 250 (u8 fields (1 + 2 * i)), clampNat 1 12 (u8 fields (2 + 2 * i))⟩) →
      ((steps.IsChain fun x y => x.threshold < y.threshold ∧ x.thrust ≤ y.thrust) →
        ∃ (u : State) (o : Bool), exec (.setDemand .addressed fields) s = .next (u.replies 0x15 (taken o)
            ([byte steps.length] ++ steps.flatMap (fun st => [byte st.threshold, byte st.thrust]) ++
              List.replicate (12 - 2 * steps.length) 0 ++ [byte (min (u8 fields 13) 50)])) ∧
          (o = true ↔ 6 < u8 fields 0 ∨ 50 < u8 fields 13 ∨ ∃ i, i < min (u8 fields 0) 6 ∧
            (u8 fields (1 + 2 * i) = 0 ∨ 250 < u8 fields (1 + 2 * i) ∨ u8 fields (2 + 2 * i) = 0 ∨
              12 < u8 fields (2 + 2 * i))) ∧
          u.rau.steps = steps ∧ u.rau.dh = min (u8 fields 13) 50 ∧ u.rau.regime = s.rau.regime ∧
          u.rau.floor = s.rau.floor ∧ (∀ f : FanNo, (u.fan f).fixed = (s.fan f).fixed) ∧
          (∀ c : ChanNo, (u.ch c).fixed = (s.ch c).fixed) ∧ sameBut Part.reached (contact s) u ∧
          (s.rau.regime ≠ .auto ∨ s.cal.phase = .none →
            u.rau.step = selectedStep { s.rau with steps := steps, dh := min (u8 fields 13) 50 } s.rau.imax 0 ∧
            u.rau.sought = max (u.rau.thrustOf u.rau.step) s.rau.floor) ∧
          (s.rau.regime ≠ .auto → u.rau.demand = u.rau.sought ∧ ∀ f : FanNo, u.held f = s.held f) ∧
          (s.rau.regime = .auto → s.cal.phase = .none → ∀ D : Nat,
            D = (if s.rau.demand ≤ u.rau.sought ∨ s.holdPassed = true then u.rau.sought else s.rau.demand) →
            u.rau.demand = D ∧ u.rau.fallWaiting = decide (u.rau.sought < D) ∧
            u.rau.lastChange = (if s.allocationChanges D then some ⟨s.tb.uptime, false⟩ else s.rau.lastChange) ∧
            ∀ f : FanNo, (u.held f).req = s.allocatedStage D f ∧ (u.held f).dir = s.rau.autoDir) ∧
          (s.rau.regime = .auto → s.cal.phase.airOn = true → ∀ k : Rau,
            k = { s.rau with
              steps := steps, dh := min (u8 fields 13) 50
              step := selectedStep { s.rau with steps := steps, dh := min (u8 fields 13) 50 } s.rau.imax 0 } →
            ∀ sought : Nat, sought = max (k.thrustOf k.step) s.rau.floor →
            (¬k.stepUrgent → sameBut [.evq, .rau] (contact s) u ∧ (∀ f : FanNo, u.held f = s.held f) ∧
              u.rau.step = k.step ∧ u.rau.sought = sought ∧ u.rau.lastChange = s.rau.lastChange ∧
              (s.rau.demand ≤ sought → u.rau.demand = sought ∧ u.rau.fallWaiting = false) ∧
              (sought < s.rau.demand → s.holdPassed = true → s.allocationChanges sought = false →
                u.rau.demand = sought ∧ u.rau.fallWaiting = false) ∧
              (sought < s.rau.demand → s.holdPassed = true → s.allocationChanges sought = true →
                u.rau.demand = s.rau.demand ∧ u.rau.fallWaiting = s.rau.fallWaiting) ∧
              (sought < s.rau.demand → s.holdPassed = false →
                u.rau.demand = s.rau.demand ∧ u.rau.fallWaiting = true)) ∧
            (k.stepUrgent → s.rau.demand ≤ sought → 3 * (allFans.filter s.available).length ≤ sought →
              (∀ x ∈ s.cal.queue, (s.ch x.channel).cfg.participates = false) →
              u.rau.demand = sought ∧ u.rau.fallWaiting = false ∧
              ∀ f : FanNo, (u.held f).req = (if s.available f then 3 else 0) ∧ (u.held f).dir = s.rau.autoDir ∧
                ((s.fan f).state = some .waitingBudget → (s.fan f).startDue = true →
                  (s.fan f).holds (s.held f) = true → (s.held f).dir = s.rau.autoDir →
                  s.rau.doorOpen = false ∨ 0 < s.rau.doorCap → (u.fan f).state = some .starting)))) ∧
      (¬(steps.IsChain fun x y => x.threshold < y.threshold ∧ x.thrust ≤ y.thrust) →
        exec (.setDemand .addressed fields) s = .next ((contact s).replies 0x15 .inconsistent []))) ∧
    (∀ t0 : Stamp, s.rau.regime = .auto → s.rau.fallWaiting = true → s.rau.lastChange = some t0 →
      (t0.expired = true ∨ s.passed t0.time (1000 * s.rau.autoHold) = true) → s.rau.sought < s.rau.demand →
      s.calUnmoved s.rau.sought →
      ∃ t, exec .autoHoldExpiry s = .next t ∧ HandedOn s t ∧ t.cal = s.cal ∧
        t.rau.sought = s.rau.sought ∧ t.rau.demand = s.rau.sought ∧ t.rau.fallWaiting = false ∧
        t.rau.lastChange = (if s.allocationChanges s.rau.sought then some ⟨s.tb.uptime, false⟩ else some t0) ∧
        (∀ f : FanNo, (t.held f).req = s.allocatedStage s.rau.sought f ∧ (t.held f).dir = s.rau.autoDir) ∧
        (s.allocationChanges s.rau.sought = true → ∀ f : FanNo,
          (t.held f).eff = (if s.rau.doorOpen then min (t.held f).req s.rau.doorCap else (t.held f).req) ∧
          (t.fan f).holds (t.held f) = true)) ∧
    (∀ t0 : Stamp, s.rau.regime = .auto → s.rau.fallWaiting = true → s.rau.lastChange = some t0 →
      (t0.expired = true ∨ s.passed t0.time (1000 * s.rau.autoHold) = true) → s.rau.sought < s.rau.demand →
      s.cal.phase.airOn = true → ¬s.rau.stepUrgent →
      ∃ t, exec .autoHoldExpiry s = .next t ∧ sameBut [.evq, .rau] s t ∧ (∀ f : FanNo, t.held f = s.held f) ∧
        t.rau.sought = s.rau.sought ∧ t.rau.lastChange = some t0 ∧
        t.rau.demand = (if s.allocationChanges s.rau.sought then s.rau.demand else s.rau.sought) ∧
        t.rau.fallWaiting = s.allocationChanges s.rau.sought) ∧
    (s.rau.regime ≠ .auto ∨ s.rau.fallWaiting = false → exec .autoHoldExpiry s = .next s)

/-- The current step is the greatest step whose threshold the niche index reaches, or which, at or below the current step, it
keeps by the decrease hysteresis (R156). -/
def Obligations.DemandStepSelected : Prop :=
  ∀ (r : Rau) (imax current : Nat), ∀ holds : Nat → Prop,
    (∀ n, holds n ↔ ∃ st, 1 ≤ n ∧ r.steps[n - 1]? = some st ∧
      (st.threshold ≤ imax ∨ (n ≤ current ∧ (st.threshold : Int) - r.dh ≤ imax))) →
    (selectedStep r imax current = 0 ∨ holds (selectedStep r imax current)) ∧
    ∀ n, holds n → n ≤ selectedStep r imax current

/-- The ranking holds each available fan once, class before class, class 1 by fan number and the others by in-window stamps
and then by fan number (R159), and the allocation gives the first N = ceil(Dm ÷ 3) fans of it trunc(Dm ÷ N), the first Dm mod
N of them one more, every other fan 0, and every fan the auto direction (R160): the stages sum to Dm and none is above 3. -/
def Obligations.AllocationSplitsDemand : Prop :=
  ∀ (s : State) (demand dm n : Nat), dm = min demand (3 * s.ranking.length) → n = (dm + 2) / 3 →
    s.ranking.Perm (allFans.filter s.available) ∧
    (∀ cls stamps : FanNo → Nat, (∀ f, stamps f = (s.windowStamps f).length) →
      (∀ f, cls f = if ((s.fan f).state = some .starting ∨ (s.fan f).state = some .changing ∨
          (s.fan f).state = some .running) ∧ (s.fan f).dirOut = s.rau.autoDir then 1
        else if stamps f < (s.fan f).cfg.budget then 2 else 3) →
      s.ranking.Pairwise fun f g => cls f < cls g ∨
        (cls f = cls g ∧ ((cls f = 1 ∧ f < g) ∨ (cls f ≠ 1 ∧ (stamps f < stamps g ∨ (stamps f = stamps g ∧ f < g)))))) ∧
    (∀ (i : Nat) (f : FanNo), s.ranking[i]? = some f →
      ((applyAllocation demand s).held f).req =
        if i < n then dm / n + (if i < dm % n then 1 else 0) else 0) ∧
    (∀ f : FanNo, s.available f = false → ((applyAllocation demand s).held f).req = 0) ∧
    (∀ f : FanNo, ((applyAllocation demand s).held f).dir = s.rau.autoDir ∧
      ((applyAllocation demand s).held f).req ≤ 3) ∧
    (allFans.map fun f => ((applyAllocation demand s).held f).req).sum = dm

/-! ### Doors (chapter 10) -/

/-- SET DOOR is OUT OF RANGE for a door number above 1, refused NOT NOW where a door to be made present has contacts with no
levels yet, and INCONSISTENT where its pressure channel is not DIFF PRESSURE (R170). Accepted, it stores the configuration
taken; a door that leaves supervision has no state, its drive released and its sign off, and one made present has the state
that its contacts give, with DOOR STATE, and its drive and sign by the regime and its lock mode (R171, R176, R186, R187). DOOR
COMMAND stores the two lock modes, and a RELEASED one releases its drive at once (R173, R186); SILENCE sets the silenced flag
while the buzzer condition stands (R189). -/
def Obligations.DoorRequestsAct : Prop :=
  (∀ (fields : List Byte) (s : State), s.ready → fields.length = 9 → 1 < u8 fields 0 →
    exec (.setDoor .addressed fields) s = .next ((contact s).replies 0x14 .outOfRange [])) ∧
  (∀ (d : DoorNo) (p : Option ChanNo) (fields : List Byte) (s : State), s.ready → fields.length = 9 →
    u8 fields 0 = d.val → optChannel (u8 fields 6) = some p →
    (u8 fields 1 ≠ 0 → (s.door d).state = none → (s.door d).contacts.complete = false →
      exec (.setDoor .addressed fields) s = .next ((contact s).replies 0x14 .notNow [])) ∧
    (u8 fields 1 = 0 ∨ (s.door d).state ≠ none ∨ (s.door d).contacts.complete = true →
      (∃ c, p = some c ∧ (s.ch c).cfg.kind ≠ .diffPressure) →
      exec (.setDoor .addressed fields) s = .next ((contact s).replies 0x14 .inconsistent [])) ∧
    (u8 fields 1 = 0 ∨ (s.door d).state ≠ none ∨ (s.door d).contacts.complete = true →
      (∀ c, p = some c → (s.ch c).cfg.kind = .diffPressure) →
      ∃ u, exec (.setDoor .addressed fields) s = .next (u.replies 0x14
          (taken ((takenDoor (fields.drop 1) p).bytes != fields.drop 1))
          (byte d.val :: (takenDoor (fields.drop 1) p).bytes)) ∧
        (u.door d).cfg = takenDoor (fields.drop 1) p ∧ (u.door d).contacts = (s.door d).contacts ∧
        (u.door d).lockMode = (s.door d).lockMode ∧
        (u8 fields 1 = 0 → (s.door d).state ≠ none → (u.door d).state = none ∧ (u.door d).lock = false ∧
          (u.door d).engageWaiting = false ∧ (u.door d).sign = .off ∧ (u.door d).lastTime = (s.door d).lastTime) ∧
        (u8 fields 1 ≠ 0 → (s.door d).state = none →
          DoorEntered d (s.door d).derived (if (s.door d).derived = .opened then some 0 else none) (contact s) u ∧
          (u.door d).sign = (if s.rau.regime = .incident then .flash else .steady) ∧
          (s.rau.regime = .incident ∨ (s.door d).lockMode = .released →
            (u.door d).lock = false ∧ (u.door d).engageWaiting = false) ∧
          (s.rau.regime ≠ .incident → (s.door d).lockMode = .locked → (s.door d).lock = false →
            (u.door d).lock = (s.door d).shows .closed ∧ (u.door d).engageWaiting = !(s.door d).shows .closed)) ∧
        (∀ k : DoorNo, k ≠ d → u.door k = s.door k) ∧ (∀ f : FanNo, (u.fan f).fixed = (s.fan f).fixed) ∧
        (∀ c : ChanNo, (u.ch c).fixed = (s.ch c).fixed) ∧
        sameBut (.doors :: .vestibule :: Part.reached) (contact s) u)) ∧
  (∀ (a b c : Byte) (s : State), s.ready →
    ∃ u, exec (.doorCommand .addressed [a, b, c]) s = .next (u.replies 0x2B
        (taken (decide (2 < a.toNat ∨ 2 < b.toNat ∨ 1 < c.toNat)))
        [byte (u.door 0).lockMode.code, byte (u.door 1).lockMode.code, flag u.vestibule.silenced]) ∧
      (u.door 0).lockMode = (if a = 0 then (s.door 0).lockMode else if a = 1 then .locked else .released) ∧
      (u.door 1).lockMode = (if b = 0 then (s.door 1).lockMode else if b = 1 then .locked else .released) ∧
      (∀ d : DoorNo, (u.door d).cfg = (s.door d).cfg ∧ (u.door d).contacts = (s.door d).contacts ∧
        (u.door d).sign = (s.door d).sign) ∧
      ((s.door 0).lockMode = (u.door 0).lockMode → (s.door 1).lockMode = (u.door 1).lockMode → u.doors = s.doors) ∧
      ((s.door 0).lockMode = .locked → 2 ≤ a.toNat → (u.door 0).lock = false ∧ (u.door 0).engageWaiting = false) ∧
      ((s.door 1).lockMode = .locked → 2 ≤ b.toNat → (u.door 1).lock = false ∧ (u.door 1).engageWaiting = false) ∧
      (c ≠ 0 → u.buzzerCondition = true → u.vestibule.silenced = true ∧ u.vestibule.buzzer = false) ∧
      (∀ f : FanNo, (u.fan f).fixed = (s.fan f).fixed) ∧ (∀ k : ChanNo, (u.ch k).fixed = (s.ch k).fixed) ∧
      sameBut (.doors :: .vestibule :: Part.reached) (contact s) u)

/-- A debounced change of a contact gives it its input's level, and the door's state moves as chapter 10 states, each move
with DOOR STATE as its first entry (R174, R185). INITIAL ends when every contact has a level, and FAULT when neither of its
conditions stands, in the state that the contacts give (R175, R176, R183). The latch withdrawn from SECURED or FREE opens an
episode (R177); the leaf leaving its frame opens an UNLATCHED or OBSTRUCTED door with its time and way captured, and a SECURED
or FREE one with time 0, or forces it (R178, R181); the latch engaging closes UNLATCHED and OBSTRUCTED (R181); the feedback
moves a closed door (R177); the bar and the handle set their marks in UNLATCHED; and the leaf in its frame closes an open door
(R184). The CLOSED contact carries the lock drive toward what is due (R186). -/
def Obligations.DoorContactMovesDoor : Prop :=
  ∀ (d : DoorNo) (c : Contact) (s : State) (x y : Door) (up : Bool), x = s.door d → s.contactDue x c = true →
    up = (x.contacts.get c).input → y = { x with contacts := x.contacts.set c ⟨up, some up, none⟩ } →
    ∃ t, exec (.doorContactDebounced d c) s = .next t ∧
      (t.door d).contacts = y.contacts ∧ (t.door d).cfg = x.cfg ∧ (t.door d).lockMode = x.lockMode ∧
      (t.door d).sign = x.sign ∧ (∀ k : DoorNo, k ≠ d → t.door k = s.door k) ∧
      (∀ f : FanNo, (t.fan f).fixed = (s.fan f).fixed) ∧ (∀ k : ChanNo, (t.ch k).fixed = (s.ch k).fixed) ∧
      sameBut (.doors :: .vestibule :: Part.reached) s t ∧
      (x.state = none → (t.door d).state = none ∧ t.evq = s.evq) ∧
      (x.state = some .initial → y.contacts.complete = false → (t.door d).state = some .initial ∧ t.evq = s.evq) ∧
      (x.state = some .fault → c ≠ .closed → y.disagrees = true ∨ y.latchWhileOpen = true →
        (t.door d).state = some .fault ∧ t.evq = s.evq) ∧
      ((x.state = some .initial ∧ y.contacts.complete = true) ∨
          (x.state = some .fault ∧ y.disagrees = false ∧ y.latchWhileOpen = false) →
        DoorEntered d y.derived (if y.derived = .opened then some 0 else none) s t ∧
        (y.derived = .opened → (t.door d).lastTime = 0 ∧ (t.door d).lastWay = .none ∧
          (t.door d).openSince = some s.tb.uptime)) ∧
      (c = .latch → up = false → x.state = some .secured ∨ x.state = some .free →
        DoorEntered d .unlatched none s t ∧ (t.door d).armed = some ⟨s.tb.uptime, false⟩ ∧
        (t.door d).barSeen = x.shows .escapeBar ∧ (t.door d).handleSeen = x.shows .reverseHandle ∧
        (t.door d).barSince = (if x.shows .escapeBar then some s.tb.uptime else none) ∧
        (t.door d).episode = if x.state = some .secured then .secured else .free) ∧
      (c = .closed → up = false → ∀ (bar handle : Bool) (time : Nat),
        ((x.state = some .unlatched ∨ x.state = some .obstructed) ∧
            bar = (x.barSeen || decide (x.state = some .obstructed)) ∧ handle = x.handleSeen ∧
            time = (match x.armed with
              | none => 0
              | some a => if a.expired = true ∨ 2147483648 ≤ s.age a.time then 2147483647
                  else if s.age a.time < x.cfg.debounce then 0 else s.age a.time)) ∨
          ((x.state = some .secured ∨ x.state = some .free) ∧ bar = x.shows .escapeBar ∧
            handle = x.shows .reverseHandle ∧ time = 0) →
        ∀ forced : Bool, forced = (decide (x.state = some .secured ∨
            (x.state ≠ some .free ∧ x.episode = .secured)) && !bar) →
          DoorEntered d (if forced then .forced else .opened) (some time) s t ∧ (t.door d).lastTime = time ∧
          (t.door d).lastWay = (if bar then .escapeBar else if handle then .reverseHandle else .neither) ∧
          (t.door d).armed = none ∧ (t.door d).episode = .none ∧
          (t.door d).openSince = if forced then none else some s.tb.uptime) ∧
      (c = .latch → up = true → x.state = some .unlatched ∨ x.state = some .obstructed →
        DoorEntered d (if x.shows .lockFeedback then .secured else .free) none s t ∧ (t.door d).armed = none ∧
        (t.door d).episode = .none ∧ (t.door d).barSince = none ∧ (t.door d).lastTime = x.lastTime) ∧
      (c = .lockFeedback → x.state = some .secured → up = false → DoorEntered d .free none s t) ∧
      (c = .lockFeedback → x.state = some .free → up = true → DoorEntered d .secured none s t) ∧
      (c = .escapeBar → x.state = some .unlatched → (t.door d).state = some .unlatched ∧ t.evq = s.evq ∧
        (t.door d).barSeen = (x.barSeen || up) ∧ (t.door d).barSince = if up then some s.tb.uptime else none) ∧
      (c = .reverseHandle → x.state = some .unlatched → (t.door d).state = some .unlatched ∧ t.evq = s.evq ∧
        (t.door d).handleSeen = (x.handleSeen || up)) ∧
      (c = .closed → up = true → openDoor x.state = true →
        DoorEntered d y.derived none s t ∧ (t.door d).openSince = none ∧ (t.door d).armed = none ∧
        (t.door d).episode = .none ∧
        (y.derived = .unlatched → (t.door d).barSeen = false ∧ (t.door d).handleSeen = false ∧
          (t.door d).barSince = if x.shows .escapeBar then some s.tb.uptime else none)) ∧
      (c ≠ .closed → (t.door d).lock = x.lock ∧ (t.door d).engageWaiting = x.engageWaiting) ∧
      (c = .closed → ∀ due : Bool, due = (x.cfg.present && s.rau.regime != .incident && x.lockMode == .locked) →
        (t.door d).lock = (due && (x.lock || up)) ∧ (t.door d).engageWaiting = (due && !x.lock && !up))

/-- The doors' timers (R179, R180, R182): an OPEN door whose hold limit has passed enters HELD OPEN, an UNLATCHED one whose
bar has been held for the open wait enters OBSTRUCTED with the cause judged then, and a fault condition of 2 s leads to FAULT,
each with DOOR STATE; before its time no timer does anything (assumption 4). -/
def Obligations.DoorTimersMoveDoor : Prop :=
  ∀ (d : DoorNo) (s : State),
    (∀ w : Ms, (s.door d).state = some .opened → (s.door d).openSince = some w →
      s.passed w (1000 * (s.door d).cfg.holdLimit) = true →
      ∃ t, exec (.holdLimitExpiry d) s = .next t ∧
        t.door d = { s.door d with state := some .heldOpen, openSince := none } ∧
        (∀ k : DoorNo, k ≠ d → t.door k = s.door k) ∧ sameBut (.doors :: .vestibule :: Part.reached) s t ∧
        Appended
          (s.evq.push ⟨s.tb.clock, .door d, .doorState, some 4, none, false⟩) t.evq) ∧
    (∀ w : Ms, (s.door d).state = some .unlatched → (s.door d).barSince = some w →
      s.passed w (1000 * (s.door d).cfg.openWait) = true →
      ∃ t, exec (.openWaitExpiry d) s = .next t ∧
        t.door d = { s.door d with
          state := some .obstructed, lastCause := obstructionCause s (s.door d), barSince := none } ∧
        (∀ k : DoorNo, k ≠ d → t.door k = s.door k) ∧ sameBut (.doors :: .vestibule :: Part.reached) s t ∧
        Appended (s.evq.push
          ⟨s.tb.clock, .door d, .doorState, some 6, some ((obstructionCause s (s.door d)).code : Int), false⟩) t.evq) ∧
    (∀ w : Ms, (s.door d).state ≠ none → (s.door d).state ≠ some .initial → (s.door d).state ≠ some .fault →
      (s.door d).disagreeSince = some w ∨ (s.door d).latchOpenSince = some w → s.passed w 2000 = true →
      ∃ t, exec (.doorFaultTimeout d) s = .next t ∧
        t.door d = { s.door d with
          state := some .fault, episode := .none, armed := none, openSince := none, barSince := none } ∧
        (∀ k : DoorNo, k ≠ d → t.door k = s.door k) ∧ sameBut (.doors :: .vestibule :: Part.reached) s t ∧
        Appended
          (s.evq.push ⟨s.tb.clock, .door d, .doorState, some 7, none, false⟩) t.evq) ∧
    (s.holdOver (s.door d) = false → exec (.holdLimitExpiry d) s = .next s) ∧
    (s.waitOver (s.door d) = false → exec (.openWaitExpiry d) s = .next s) ∧
    (s.faultOver (s.door d) = false → exec (.doorFaultTimeout d) s = .next s)

/-! ### What every command leaves alone, and what every step keeps -/

/-- Every command but a full reset, the end of a reply, and a frame of any kind changes no component of the state but those
that its rule names and those that the hand-overs between the blocks reach. -/
def Obligations.CommandsChangeOnlyTheirParts : Prop :=
  ∀ (i : Instr) (s t : State), exec i s = .next t → sameBut (mayChange i) s t

/-- The hand-overs of a command come to an end: the model's bound leaves none over (assumption 6). -/
def Obligations.HandOversComeToAnEnd : Prop :=
  ∀ (ws : List Work) (s : State), (cascade (cascadeFuel ws s) ws s).2 = []

/-- Right after a full reset every invariant below holds. -/
def Obligations.ResetMeetsInvariants : Prop :=
  State.reset.lineOk ∧ State.reset.evq.ok ∧ State.reset.fansOk ∧ State.reset.calOk ∧ State.reset.airQuiet ∧
    State.reset.doorsOk ∧ State.reset.channelsOk ∧ State.reset.demandOk ∧ State.reset.fansFollow

/-- The receiver keeps no more than a frame, stands in HUNT during service, and the silence timer is stopped only while LINE
LOST is set (R3, R8, R13); the prescalers count 0 to 99 (R22); and the event queue holds at most 64 entries with the GAP mark
on the oldest alone (R28, R29). -/
def Obligations.LineAndQueueKept : Prop :=
  ∀ s t : State, s.lineOk → s.evq.ok → step s = .next t → t.lineOk ∧ t.evq.ok

/-- The fans' outputs go with their states (R114, R115, R130), no history holds more than 8 stamps (R136), and while the
debounced OUTPUT INHIBIT is active every present fan is INHIBITED or TRIPPED (R126). -/
def Obligations.FanOutputsKept : Prop := ∀ s t : State, s.fansOk → step s = .next t → t.fansOk

/-- The calibration queue holds each channel once, VALVE and CALIBRATING go with the head's phase (R75, R76, R83, R89), TRIM
and the current G go with the session (R94, R96), and INCIDENT leaves neither (R92, R104). -/
def Obligations.CalibrationKept : Prop := ∀ s t : State, s.calOk → step s = .next t → t.calOk

/-- While the head is PURGING or ACCUMULATING, no present fan is in STARTING, CHANGING or COASTING (R90). -/
def Obligations.PurgedAirStaysQuiet : Prop :=
  ∀ s t : State, s.queueOk → s.airQuiet → step s = .next t → t.queueOk ∧ t.airQuiet

/-- A door's drive is engaged only while it is present and LOCKED outside INCIDENT, its sign goes with the regime (R186,
R187), and the breach, the buzzer and the door open condition go with the doors' states (R163, R188, R189). -/
def Obligations.DoorOutputsKept : Prop := ∀ s t : State, s.doorsOk → step s = .next t → t.doorsOk

/-- Every span factor lies within 2048–8191 and every zero offset within −4096..+4095 (R86, R94), levels, indexes and counts
stay in their ranges (R46, R52, R68, R71), windows hold fewer than four samples between commands (R45), and a visit is of an
enabled channel (R42). -/
def Obligations.ChannelBoundsKept : Prop := ∀ s t : State, s.channelsOk → step s = .next t → t.channelsOk

/-- The demand is at most 12 and no lower than what is sought (R157), in AUTO the requested stages never sum to more than D,
and in INCIDENT with role FIRE ZONE every one is 0 (R161). -/
def Obligations.DemandBoundsStages : Prop := ∀ s t : State, s.demandOk → step s = .next t → t.demandOk

/-- Every fan holds what the RAU holds for it, the effective stage being the requested one under the door cap (R116, R144,
R163), and follows it: STOPPED only at stage 0, waiting or powered only above it, and powered only in the direction asked
(R117, R120, R121, R140). In INCIDENT no fan waits on its budget (R138, R140). -/
def Obligations.FansFollowTheirStages : Prop := ∀ s t : State, s.fansFollow → step s = .next t → t.fansFollow
end

