-- ==== Sys2Proof/Laws/State.lean ====
section
/-! SUPPORT. What each update of the state leaves and what it changes: one lemma per field and update, so that no later proof unfolds
a record update, and the read-back of a record that has been written. -/

namespace Sys2Proof.Machine

/-! ### each -/

@[simp] theorem getElem_each {α β : Type} {n : Nat} (g : α → β) (v : Vector α n) (i : Nat) (h : i < n) :
    (each g v)[i] = g v[i] := by simp [each]

/-! ### setCh -/

@[simp] theorem State.setCh_lif (s : State) (c : ChanNo) (x : Channel) : (s.setCh c x).lif = s.lif := rfl
@[simp] theorem State.setCh_tb (s : State) (c : ChanNo) (x : Channel) : (s.setCh c x).tb = s.tb := rfl
@[simp] theorem State.setCh_evq (s : State) (c : ChanNo) (x : Channel) : (s.setCh c x).evq = s.evq := rfl
@[simp] theorem State.setCh_scn (s : State) (c : ChanNo) (x : Channel) : (s.setCh c x).scn = s.scn := rfl
@[simp] theorem State.setCh_cal (s : State) (c : ChanNo) (x : Channel) : (s.setCh c x).cal = s.cal := rfl
@[simp] theorem State.setCh_fans (s : State) (c : ChanNo) (x : Channel) : (s.setCh c x).fans = s.fans := rfl
@[simp] theorem State.setCh_inhibit (s : State) (c : ChanNo) (x : Channel) : (s.setCh c x).inhibit = s.inhibit := rfl
@[simp] theorem State.setCh_rau (s : State) (c : ChanNo) (x : Channel) : (s.setCh c x).rau = s.rau := rfl
@[simp] theorem State.setCh_doors (s : State) (c : ChanNo) (x : Channel) : (s.setCh c x).doors = s.doors := rfl
@[simp] theorem State.setCh_vestibule (s : State) (c : ChanNo) (x : Channel) : (s.setCh c x).vestibule = s.vestibule := rfl
@[simp] theorem State.setCh_choices (s : State) (c : ChanNo) (x : Channel) : (s.setCh c x).choices = s.choices := rfl
@[simp] theorem State.setCh_pending (s : State) (c : ChanNo) (x : Channel) : (s.setCh c x).pending = s.pending := rfl

/-! ### modCh -/

@[simp] theorem State.modCh_lif (s : State) (c : ChanNo) (g : Channel → Channel) : (s.modCh c g).lif = s.lif := rfl
@[simp] theorem State.modCh_tb (s : State) (c : ChanNo) (g : Channel → Channel) : (s.modCh c g).tb = s.tb := rfl
@[simp] theorem State.modCh_evq (s : State) (c : ChanNo) (g : Channel → Channel) : (s.modCh c g).evq = s.evq := rfl
@[simp] theorem State.modCh_scn (s : State) (c : ChanNo) (g : Channel → Channel) : (s.modCh c g).scn = s.scn := rfl
@[simp] theorem State.modCh_cal (s : State) (c : ChanNo) (g : Channel → Channel) : (s.modCh c g).cal = s.cal := rfl
@[simp] theorem State.modCh_fans (s : State) (c : ChanNo) (g : Channel → Channel) : (s.modCh c g).fans = s.fans := rfl
@[simp] theorem State.modCh_inhibit (s : State) (c : ChanNo) (g : Channel → Channel) : (s.modCh c g).inhibit = s.inhibit := rfl
@[simp] theorem State.modCh_rau (s : State) (c : ChanNo) (g : Channel → Channel) : (s.modCh c g).rau = s.rau := rfl
@[simp] theorem State.modCh_doors (s : State) (c : ChanNo) (g : Channel → Channel) : (s.modCh c g).doors = s.doors := rfl
@[simp] theorem State.modCh_vestibule (s : State) (c : ChanNo) (g : Channel → Channel) : (s.modCh c g).vestibule = s.vestibule := rfl
@[simp] theorem State.modCh_choices (s : State) (c : ChanNo) (g : Channel → Channel) : (s.modCh c g).choices = s.choices := rfl
@[simp] theorem State.modCh_pending (s : State) (c : ChanNo) (g : Channel → Channel) : (s.modCh c g).pending = s.pending := rfl

/-! ### setFan -/

@[simp] theorem State.setFan_lif (s : State) (f : FanNo) (x : Fan) : (s.setFan f x).lif = s.lif := rfl
@[simp] theorem State.setFan_tb (s : State) (f : FanNo) (x : Fan) : (s.setFan f x).tb = s.tb := rfl
@[simp] theorem State.setFan_evq (s : State) (f : FanNo) (x : Fan) : (s.setFan f x).evq = s.evq := rfl
@[simp] theorem State.setFan_scn (s : State) (f : FanNo) (x : Fan) : (s.setFan f x).scn = s.scn := rfl
@[simp] theorem State.setFan_channels (s : State) (f : FanNo) (x : Fan) : (s.setFan f x).channels = s.channels := rfl
@[simp] theorem State.setFan_cal (s : State) (f : FanNo) (x : Fan) : (s.setFan f x).cal = s.cal := rfl
@[simp] theorem State.setFan_inhibit (s : State) (f : FanNo) (x : Fan) : (s.setFan f x).inhibit = s.inhibit := rfl
@[simp] theorem State.setFan_rau (s : State) (f : FanNo) (x : Fan) : (s.setFan f x).rau = s.rau := rfl
@[simp] theorem State.setFan_doors (s : State) (f : FanNo) (x : Fan) : (s.setFan f x).doors = s.doors := rfl
@[simp] theorem State.setFan_vestibule (s : State) (f : FanNo) (x : Fan) : (s.setFan f x).vestibule = s.vestibule := rfl
@[simp] theorem State.setFan_choices (s : State) (f : FanNo) (x : Fan) : (s.setFan f x).choices = s.choices := rfl
@[simp] theorem State.setFan_pending (s : State) (f : FanNo) (x : Fan) : (s.setFan f x).pending = s.pending := rfl

/-! ### modFan -/

@[simp] theorem State.modFan_lif (s : State) (f : FanNo) (g : Fan → Fan) : (s.modFan f g).lif = s.lif := rfl
@[simp] theorem State.modFan_tb (s : State) (f : FanNo) (g : Fan → Fan) : (s.modFan f g).tb = s.tb := rfl
@[simp] theorem State.modFan_evq (s : State) (f : FanNo) (g : Fan → Fan) : (s.modFan f g).evq = s.evq := rfl
@[simp] theorem State.modFan_scn (s : State) (f : FanNo) (g : Fan → Fan) : (s.modFan f g).scn = s.scn := rfl
@[simp] theorem State.modFan_channels (s : State) (f : FanNo) (g : Fan → Fan) : (s.modFan f g).channels = s.channels := rfl
@[simp] theorem State.modFan_cal (s : State) (f : FanNo) (g : Fan → Fan) : (s.modFan f g).cal = s.cal := rfl
@[simp] theorem State.modFan_inhibit (s : State) (f : FanNo) (g : Fan → Fan) : (s.modFan f g).inhibit = s.inhibit := rfl
@[simp] theorem State.modFan_rau (s : State) (f : FanNo) (g : Fan → Fan) : (s.modFan f g).rau = s.rau := rfl
@[simp] theorem State.modFan_doors (s : State) (f : FanNo) (g : Fan → Fan) : (s.modFan f g).doors = s.doors := rfl
@[simp] theorem State.modFan_vestibule (s : State) (f : FanNo) (g : Fan → Fan) : (s.modFan f g).vestibule = s.vestibule := rfl
@[simp] theorem State.modFan_choices (s : State) (f : FanNo) (g : Fan → Fan) : (s.modFan f g).choices = s.choices := rfl
@[simp] theorem State.modFan_pending (s : State) (f : FanNo) (g : Fan → Fan) : (s.modFan f g).pending = s.pending := rfl

/-! ### setDoor -/

@[simp] theorem State.setDoor_lif (s : State) (d : DoorNo) (x : Door) : (s.setDoor d x).lif = s.lif := rfl
@[simp] theorem State.setDoor_tb (s : State) (d : DoorNo) (x : Door) : (s.setDoor d x).tb = s.tb := rfl
@[simp] theorem State.setDoor_evq (s : State) (d : DoorNo) (x : Door) : (s.setDoor d x).evq = s.evq := rfl
@[simp] theorem State.setDoor_scn (s : State) (d : DoorNo) (x : Door) : (s.setDoor d x).scn = s.scn := rfl
@[simp] theorem State.setDoor_channels (s : State) (d : DoorNo) (x : Door) : (s.setDoor d x).channels = s.channels := rfl
@[simp] theorem State.setDoor_cal (s : State) (d : DoorNo) (x : Door) : (s.setDoor d x).cal = s.cal := rfl
@[simp] theorem State.setDoor_fans (s : State) (d : DoorNo) (x : Door) : (s.setDoor d x).fans = s.fans := rfl
@[simp] theorem State.setDoor_inhibit (s : State) (d : DoorNo) (x : Door) : (s.setDoor d x).inhibit = s.inhibit := rfl
@[simp] theorem State.setDoor_rau (s : State) (d : DoorNo) (x : Door) : (s.setDoor d x).rau = s.rau := rfl
@[simp] theorem State.setDoor_vestibule (s : State) (d : DoorNo) (x : Door) : (s.setDoor d x).vestibule = s.vestibule := rfl
@[simp] theorem State.setDoor_choices (s : State) (d : DoorNo) (x : Door) : (s.setDoor d x).choices = s.choices := rfl
@[simp] theorem State.setDoor_pending (s : State) (d : DoorNo) (x : Door) : (s.setDoor d x).pending = s.pending := rfl

/-! ### modDoor -/

@[simp] theorem State.modDoor_lif (s : State) (d : DoorNo) (g : Door → Door) : (s.modDoor d g).lif = s.lif := rfl
@[simp] theorem State.modDoor_tb (s : State) (d : DoorNo) (g : Door → Door) : (s.modDoor d g).tb = s.tb := rfl
@[simp] theorem State.modDoor_evq (s : State) (d : DoorNo) (g : Door → Door) : (s.modDoor d g).evq = s.evq := rfl
@[simp] theorem State.modDoor_scn (s : State) (d : DoorNo) (g : Door → Door) : (s.modDoor d g).scn = s.scn := rfl
@[simp] theorem State.modDoor_channels (s : State) (d : DoorNo) (g : Door → Door) : (s.modDoor d g).channels = s.channels := rfl
@[simp] theorem State.modDoor_cal (s : State) (d : DoorNo) (g : Door → Door) : (s.modDoor d g).cal = s.cal := rfl
@[simp] theorem State.modDoor_fans (s : State) (d : DoorNo) (g : Door → Door) : (s.modDoor d g).fans = s.fans := rfl
@[simp] theorem State.modDoor_inhibit (s : State) (d : DoorNo) (g : Door → Door) : (s.modDoor d g).inhibit = s.inhibit := rfl
@[simp] theorem State.modDoor_rau (s : State) (d : DoorNo) (g : Door → Door) : (s.modDoor d g).rau = s.rau := rfl
@[simp] theorem State.modDoor_vestibule (s : State) (d : DoorNo) (g : Door → Door) : (s.modDoor d g).vestibule = s.vestibule := rfl
@[simp] theorem State.modDoor_choices (s : State) (d : DoorNo) (g : Door → Door) : (s.modDoor d g).choices = s.choices := rfl
@[simp] theorem State.modDoor_pending (s : State) (d : DoorNo) (g : Door → Door) : (s.modDoor d g).pending = s.pending := rfl

/-! ### setHeld -/

@[simp] theorem State.setHeld_lif (s : State) (f : FanNo) (r : RauFan) : (s.setHeld f r).lif = s.lif := rfl
@[simp] theorem State.setHeld_tb (s : State) (f : FanNo) (r : RauFan) : (s.setHeld f r).tb = s.tb := rfl
@[simp] theorem State.setHeld_evq (s : State) (f : FanNo) (r : RauFan) : (s.setHeld f r).evq = s.evq := rfl
@[simp] theorem State.setHeld_scn (s : State) (f : FanNo) (r : RauFan) : (s.setHeld f r).scn = s.scn := rfl
@[simp] theorem State.setHeld_channels (s : State) (f : FanNo) (r : RauFan) : (s.setHeld f r).channels = s.channels := rfl
@[simp] theorem State.setHeld_cal (s : State) (f : FanNo) (r : RauFan) : (s.setHeld f r).cal = s.cal := rfl
@[simp] theorem State.setHeld_fans (s : State) (f : FanNo) (r : RauFan) : (s.setHeld f r).fans = s.fans := rfl
@[simp] theorem State.setHeld_inhibit (s : State) (f : FanNo) (r : RauFan) : (s.setHeld f r).inhibit = s.inhibit := rfl
@[simp] theorem State.setHeld_doors (s : State) (f : FanNo) (r : RauFan) : (s.setHeld f r).doors = s.doors := rfl
@[simp] theorem State.setHeld_vestibule (s : State) (f : FanNo) (r : RauFan) : (s.setHeld f r).vestibule = s.vestibule := rfl
@[simp] theorem State.setHeld_choices (s : State) (f : FanNo) (r : RauFan) : (s.setHeld f r).choices = s.choices := rfl
@[simp] theorem State.setHeld_pending (s : State) (f : FanNo) (r : RauFan) : (s.setHeld f r).pending = s.pending := rfl

/-! ### replies -/

@[simp] theorem State.replies_tb (s : State) (code : Byte) (o : ReqOutcome) (l : List Byte) : (s.replies code o l).tb = s.tb := rfl
@[simp] theorem State.replies_evq (s : State) (code : Byte) (o : ReqOutcome) (l : List Byte) : (s.replies code o l).evq = s.evq := rfl
@[simp] theorem State.replies_scn (s : State) (code : Byte) (o : ReqOutcome) (l : List Byte) : (s.replies code o l).scn = s.scn := rfl
@[simp] theorem State.replies_channels (s : State) (code : Byte) (o : ReqOutcome) (l : List Byte) : (s.replies code o l).channels = s.channels := rfl
@[simp] theorem State.replies_cal (s : State) (code : Byte) (o : ReqOutcome) (l : List Byte) : (s.replies code o l).cal = s.cal := rfl
@[simp] theorem State.replies_fans (s : State) (code : Byte) (o : ReqOutcome) (l : List Byte) : (s.replies code o l).fans = s.fans := rfl
@[simp] theorem State.replies_inhibit (s : State) (code : Byte) (o : ReqOutcome) (l : List Byte) : (s.replies code o l).inhibit = s.inhibit := rfl
@[simp] theorem State.replies_rau (s : State) (code : Byte) (o : ReqOutcome) (l : List Byte) : (s.replies code o l).rau = s.rau := rfl
@[simp] theorem State.replies_doors (s : State) (code : Byte) (o : ReqOutcome) (l : List Byte) : (s.replies code o l).doors = s.doors := rfl
@[simp] theorem State.replies_vestibule (s : State) (code : Byte) (o : ReqOutcome) (l : List Byte) : (s.replies code o l).vestibule = s.vestibule := rfl
@[simp] theorem State.replies_choices (s : State) (code : Byte) (o : ReqOutcome) (l : List Byte) : (s.replies code o l).choices = s.choices := rfl
@[simp] theorem State.replies_pending (s : State) (code : Byte) (o : ReqOutcome) (l : List Byte) : (s.replies code o l).pending = s.pending := rfl

/-! ### appendEvent -/

@[simp] theorem appendEvent_lif (src : Source) (code : EventCode) (l : Option Nat) (v : Option Int) (s : State) : (appendEvent src code l v s).lif = s.lif := rfl
@[simp] theorem appendEvent_tb (src : Source) (code : EventCode) (l : Option Nat) (v : Option Int) (s : State) : (appendEvent src code l v s).tb = s.tb := rfl
@[simp] theorem appendEvent_scn (src : Source) (code : EventCode) (l : Option Nat) (v : Option Int) (s : State) : (appendEvent src code l v s).scn = s.scn := rfl
@[simp] theorem appendEvent_channels (src : Source) (code : EventCode) (l : Option Nat) (v : Option Int) (s : State) : (appendEvent src code l v s).channels = s.channels := rfl
@[simp] theorem appendEvent_cal (src : Source) (code : EventCode) (l : Option Nat) (v : Option Int) (s : State) : (appendEvent src code l v s).cal = s.cal := rfl
@[simp] theorem appendEvent_fans (src : Source) (code : EventCode) (l : Option Nat) (v : Option Int) (s : State) : (appendEvent src code l v s).fans = s.fans := rfl
@[simp] theorem appendEvent_inhibit (src : Source) (code : EventCode) (l : Option Nat) (v : Option Int) (s : State) : (appendEvent src code l v s).inhibit = s.inhibit := rfl
@[simp] theorem appendEvent_rau (src : Source) (code : EventCode) (l : Option Nat) (v : Option Int) (s : State) : (appendEvent src code l v s).rau = s.rau := rfl
@[simp] theorem appendEvent_doors (src : Source) (code : EventCode) (l : Option Nat) (v : Option Int) (s : State) : (appendEvent src code l v s).doors = s.doors := rfl
@[simp] theorem appendEvent_vestibule (src : Source) (code : EventCode) (l : Option Nat) (v : Option Int) (s : State) : (appendEvent src code l v s).vestibule = s.vestibule := rfl
@[simp] theorem appendEvent_choices (src : Source) (code : EventCode) (l : Option Nat) (v : Option Int) (s : State) : (appendEvent src code l v s).choices = s.choices := rfl
@[simp] theorem appendEvent_pending (src : Source) (code : EventCode) (l : Option Nat) (v : Option Int) (s : State) : (appendEvent src code l v s).pending = s.pending := rfl

/-! ### toHunt -/

@[simp] theorem toHunt_tb (s : State) : (toHunt s).tb = s.tb := rfl
@[simp] theorem toHunt_evq (s : State) : (toHunt s).evq = s.evq := rfl
@[simp] theorem toHunt_scn (s : State) : (toHunt s).scn = s.scn := rfl
@[simp] theorem toHunt_channels (s : State) : (toHunt s).channels = s.channels := rfl
@[simp] theorem toHunt_cal (s : State) : (toHunt s).cal = s.cal := rfl
@[simp] theorem toHunt_fans (s : State) : (toHunt s).fans = s.fans := rfl
@[simp] theorem toHunt_inhibit (s : State) : (toHunt s).inhibit = s.inhibit := rfl
@[simp] theorem toHunt_rau (s : State) : (toHunt s).rau = s.rau := rfl
@[simp] theorem toHunt_doors (s : State) : (toHunt s).doors = s.doors := rfl
@[simp] theorem toHunt_vestibule (s : State) : (toHunt s).vestibule = s.vestibule := rfl
@[simp] theorem toHunt_choices (s : State) : (toHunt s).choices = s.choices := rfl
@[simp] theorem toHunt_pending (s : State) : (toHunt s).pending = s.pending := rfl

/-! ### restartSilence -/

@[simp] theorem restartSilence_tb (s : State) : (restartSilence s).tb = s.tb := rfl
@[simp] theorem restartSilence_evq (s : State) : (restartSilence s).evq = s.evq := rfl
@[simp] theorem restartSilence_scn (s : State) : (restartSilence s).scn = s.scn := rfl
@[simp] theorem restartSilence_channels (s : State) : (restartSilence s).channels = s.channels := rfl
@[simp] theorem restartSilence_cal (s : State) : (restartSilence s).cal = s.cal := rfl
@[simp] theorem restartSilence_fans (s : State) : (restartSilence s).fans = s.fans := rfl
@[simp] theorem restartSilence_inhibit (s : State) : (restartSilence s).inhibit = s.inhibit := rfl
@[simp] theorem restartSilence_rau (s : State) : (restartSilence s).rau = s.rau := rfl
@[simp] theorem restartSilence_doors (s : State) : (restartSilence s).doors = s.doors := rfl
@[simp] theorem restartSilence_vestibule (s : State) : (restartSilence s).vestibule = s.vestibule := rfl
@[simp] theorem restartSilence_choices (s : State) : (restartSilence s).choices = s.choices := rfl
@[simp] theorem restartSilence_pending (s : State) : (restartSilence s).pending = s.pending := rfl

/-! ### endService -/

@[simp] theorem endService_tb (s : State) : (endService s).tb = s.tb := rfl
@[simp] theorem endService_evq (s : State) : (endService s).evq = s.evq := rfl
@[simp] theorem endService_scn (s : State) : (endService s).scn = s.scn := rfl
@[simp] theorem endService_channels (s : State) : (endService s).channels = s.channels := rfl
@[simp] theorem endService_cal (s : State) : (endService s).cal = s.cal := rfl
@[simp] theorem endService_fans (s : State) : (endService s).fans = s.fans := rfl
@[simp] theorem endService_inhibit (s : State) : (endService s).inhibit = s.inhibit := rfl
@[simp] theorem endService_rau (s : State) : (endService s).rau = s.rau := rfl
@[simp] theorem endService_doors (s : State) : (endService s).doors = s.doors := rfl
@[simp] theorem endService_vestibule (s : State) : (endService s).vestibule = s.vestibule := rfl
@[simp] theorem endService_choices (s : State) : (endService s).choices = s.choices := rfl
@[simp] theorem endService_pending (s : State) : (endService s).pending = s.pending := rfl

/-! ### setRx -/

@[simp] theorem setRx_tb (r : Rx) (s : State) : (setRx r s).tb = s.tb := rfl
@[simp] theorem setRx_evq (r : Rx) (s : State) : (setRx r s).evq = s.evq := rfl
@[simp] theorem setRx_scn (r : Rx) (s : State) : (setRx r s).scn = s.scn := rfl
@[simp] theorem setRx_channels (r : Rx) (s : State) : (setRx r s).channels = s.channels := rfl
@[simp] theorem setRx_cal (r : Rx) (s : State) : (setRx r s).cal = s.cal := rfl
@[simp] theorem setRx_fans (r : Rx) (s : State) : (setRx r s).fans = s.fans := rfl
@[simp] theorem setRx_inhibit (r : Rx) (s : State) : (setRx r s).inhibit = s.inhibit := rfl
@[simp] theorem setRx_rau (r : Rx) (s : State) : (setRx r s).rau = s.rau := rfl
@[simp] theorem setRx_doors (r : Rx) (s : State) : (setRx r s).doors = s.doors := rfl
@[simp] theorem setRx_vestibule (r : Rx) (s : State) : (setRx r s).vestibule = s.vestibule := rfl
@[simp] theorem setRx_choices (r : Rx) (s : State) : (setRx r s).choices = s.choices := rfl
@[simp] theorem setRx_pending (r : Rx) (s : State) : (setRx r s).pending = s.pending := rfl

/-! ### loadCountdowns -/

@[simp] theorem loadCountdowns_lif (s : State) : (loadCountdowns s).lif = s.lif := rfl
@[simp] theorem loadCountdowns_tb (s : State) : (loadCountdowns s).tb = s.tb := rfl
@[simp] theorem loadCountdowns_evq (s : State) : (loadCountdowns s).evq = s.evq := rfl
@[simp] theorem loadCountdowns_scn (s : State) : (loadCountdowns s).scn = s.scn := rfl
@[simp] theorem loadCountdowns_cal (s : State) : (loadCountdowns s).cal = s.cal := rfl
@[simp] theorem loadCountdowns_fans (s : State) : (loadCountdowns s).fans = s.fans := rfl
@[simp] theorem loadCountdowns_inhibit (s : State) : (loadCountdowns s).inhibit = s.inhibit := rfl
@[simp] theorem loadCountdowns_rau (s : State) : (loadCountdowns s).rau = s.rau := rfl
@[simp] theorem loadCountdowns_doors (s : State) : (loadCountdowns s).doors = s.doors := rfl
@[simp] theorem loadCountdowns_vestibule (s : State) : (loadCountdowns s).vestibule = s.vestibule := rfl
@[simp] theorem loadCountdowns_choices (s : State) : (loadCountdowns s).choices = s.choices := rfl
@[simp] theorem loadCountdowns_pending (s : State) : (loadCountdowns s).pending = s.pending := rfl

/-! ### updateBuzzer -/

@[simp] theorem updateBuzzer_lif (s : State) : (updateBuzzer s).lif = s.lif := rfl
@[simp] theorem updateBuzzer_tb (s : State) : (updateBuzzer s).tb = s.tb := rfl
@[simp] theorem updateBuzzer_evq (s : State) : (updateBuzzer s).evq = s.evq := rfl
@[simp] theorem updateBuzzer_scn (s : State) : (updateBuzzer s).scn = s.scn := rfl
@[simp] theorem updateBuzzer_channels (s : State) : (updateBuzzer s).channels = s.channels := rfl
@[simp] theorem updateBuzzer_cal (s : State) : (updateBuzzer s).cal = s.cal := rfl
@[simp] theorem updateBuzzer_fans (s : State) : (updateBuzzer s).fans = s.fans := rfl
@[simp] theorem updateBuzzer_inhibit (s : State) : (updateBuzzer s).inhibit = s.inhibit := rfl
@[simp] theorem updateBuzzer_rau (s : State) : (updateBuzzer s).rau = s.rau := rfl
@[simp] theorem updateBuzzer_doors (s : State) : (updateBuzzer s).doors = s.doors := rfl
@[simp] theorem updateBuzzer_choices (s : State) : (updateBuzzer s).choices = s.choices := rfl
@[simp] theorem updateBuzzer_pending (s : State) : (updateBuzzer s).pending = s.pending := rfl

/-! ### noteDoorOpen -/

@[simp] theorem noteDoorOpen_lif (s : State) : (noteDoorOpen s).lif = s.lif := rfl
@[simp] theorem noteDoorOpen_tb (s : State) : (noteDoorOpen s).tb = s.tb := rfl
@[simp] theorem noteDoorOpen_evq (s : State) : (noteDoorOpen s).evq = s.evq := rfl
@[simp] theorem noteDoorOpen_scn (s : State) : (noteDoorOpen s).scn = s.scn := rfl
@[simp] theorem noteDoorOpen_channels (s : State) : (noteDoorOpen s).channels = s.channels := rfl
@[simp] theorem noteDoorOpen_cal (s : State) : (noteDoorOpen s).cal = s.cal := rfl
@[simp] theorem noteDoorOpen_fans (s : State) : (noteDoorOpen s).fans = s.fans := rfl
@[simp] theorem noteDoorOpen_inhibit (s : State) : (noteDoorOpen s).inhibit = s.inhibit := rfl
@[simp] theorem noteDoorOpen_doors (s : State) : (noteDoorOpen s).doors = s.doors := rfl
@[simp] theorem noteDoorOpen_vestibule (s : State) : (noteDoorOpen s).vestibule = s.vestibule := rfl
@[simp] theorem noteDoorOpen_choices (s : State) : (noteDoorOpen s).choices = s.choices := rfl
@[simp] theorem noteDoorOpen_pending (s : State) : (noteDoorOpen s).pending = s.pending := rfl

/-! ### seekDemand -/

@[simp] theorem seekDemand_lif (s : State) : (seekDemand s).lif = s.lif := rfl
@[simp] theorem seekDemand_tb (s : State) : (seekDemand s).tb = s.tb := rfl
@[simp] theorem seekDemand_evq (s : State) : (seekDemand s).evq = s.evq := rfl
@[simp] theorem seekDemand_scn (s : State) : (seekDemand s).scn = s.scn := rfl
@[simp] theorem seekDemand_channels (s : State) : (seekDemand s).channels = s.channels := rfl
@[simp] theorem seekDemand_cal (s : State) : (seekDemand s).cal = s.cal := rfl
@[simp] theorem seekDemand_fans (s : State) : (seekDemand s).fans = s.fans := rfl
@[simp] theorem seekDemand_inhibit (s : State) : (seekDemand s).inhibit = s.inhibit := rfl
@[simp] theorem seekDemand_doors (s : State) : (seekDemand s).doors = s.doors := rfl
@[simp] theorem seekDemand_vestibule (s : State) : (seekDemand s).vestibule = s.vestibule := rfl
@[simp] theorem seekDemand_choices (s : State) : (seekDemand s).choices = s.choices := rfl
@[simp] theorem seekDemand_pending (s : State) : (seekDemand s).pending = s.pending := rfl

/-! ### recomputeDemand -/

@[simp] theorem recomputeDemand_lif (s : State) : (recomputeDemand s).lif = s.lif := rfl
@[simp] theorem recomputeDemand_tb (s : State) : (recomputeDemand s).tb = s.tb := rfl
@[simp] theorem recomputeDemand_evq (s : State) : (recomputeDemand s).evq = s.evq := rfl
@[simp] theorem recomputeDemand_scn (s : State) : (recomputeDemand s).scn = s.scn := rfl
@[simp] theorem recomputeDemand_channels (s : State) : (recomputeDemand s).channels = s.channels := rfl
@[simp] theorem recomputeDemand_cal (s : State) : (recomputeDemand s).cal = s.cal := rfl
@[simp] theorem recomputeDemand_fans (s : State) : (recomputeDemand s).fans = s.fans := rfl
@[simp] theorem recomputeDemand_inhibit (s : State) : (recomputeDemand s).inhibit = s.inhibit := rfl
@[simp] theorem recomputeDemand_doors (s : State) : (recomputeDemand s).doors = s.doors := rfl
@[simp] theorem recomputeDemand_vestibule (s : State) : (recomputeDemand s).vestibule = s.vestibule := rfl
@[simp] theorem recomputeDemand_choices (s : State) : (recomputeDemand s).choices = s.choices := rfl
@[simp] theorem recomputeDemand_pending (s : State) : (recomputeDemand s).pending = s.pending := rfl

/-! ### formEffective -/

@[simp] theorem formEffective_lif (s : State) : (formEffective s).lif = s.lif := rfl
@[simp] theorem formEffective_tb (s : State) : (formEffective s).tb = s.tb := rfl
@[simp] theorem formEffective_evq (s : State) : (formEffective s).evq = s.evq := rfl
@[simp] theorem formEffective_scn (s : State) : (formEffective s).scn = s.scn := rfl
@[simp] theorem formEffective_channels (s : State) : (formEffective s).channels = s.channels := rfl
@[simp] theorem formEffective_cal (s : State) : (formEffective s).cal = s.cal := rfl
@[simp] theorem formEffective_fans (s : State) : (formEffective s).fans = s.fans := rfl
@[simp] theorem formEffective_inhibit (s : State) : (formEffective s).inhibit = s.inhibit := rfl
@[simp] theorem formEffective_doors (s : State) : (formEffective s).doors = s.doors := rfl
@[simp] theorem formEffective_vestibule (s : State) : (formEffective s).vestibule = s.vestibule := rfl
@[simp] theorem formEffective_choices (s : State) : (formEffective s).choices = s.choices := rfl
@[simp] theorem formEffective_pending (s : State) : (formEffective s).pending = s.pending := rfl

/-! ### expireStamps -/

@[simp] theorem expireStamps_lif (s : State) : (expireStamps s).lif = s.lif := rfl
@[simp] theorem expireStamps_tb (s : State) : (expireStamps s).tb = s.tb := rfl
@[simp] theorem expireStamps_evq (s : State) : (expireStamps s).evq = s.evq := rfl
@[simp] theorem expireStamps_scn (s : State) : (expireStamps s).scn = s.scn := rfl
@[simp] theorem expireStamps_channels (s : State) : (expireStamps s).channels = s.channels := rfl
@[simp] theorem expireStamps_cal (s : State) : (expireStamps s).cal = s.cal := rfl
@[simp] theorem expireStamps_inhibit (s : State) : (expireStamps s).inhibit = s.inhibit := rfl
@[simp] theorem expireStamps_vestibule (s : State) : (expireStamps s).vestibule = s.vestibule := rfl
@[simp] theorem expireStamps_choices (s : State) : (expireStamps s).choices = s.choices := rfl
@[simp] theorem expireStamps_pending (s : State) : (expireStamps s).pending = s.pending := rfl

/-! ### emptyWindows -/

@[simp] theorem emptyWindows_lif (s : State) : (emptyWindows s).lif = s.lif := rfl
@[simp] theorem emptyWindows_tb (s : State) : (emptyWindows s).tb = s.tb := rfl
@[simp] theorem emptyWindows_evq (s : State) : (emptyWindows s).evq = s.evq := rfl
@[simp] theorem emptyWindows_scn (s : State) : (emptyWindows s).scn = s.scn := rfl
@[simp] theorem emptyWindows_cal (s : State) : (emptyWindows s).cal = s.cal := rfl
@[simp] theorem emptyWindows_fans (s : State) : (emptyWindows s).fans = s.fans := rfl
@[simp] theorem emptyWindows_inhibit (s : State) : (emptyWindows s).inhibit = s.inhibit := rfl
@[simp] theorem emptyWindows_rau (s : State) : (emptyWindows s).rau = s.rau := rfl
@[simp] theorem emptyWindows_doors (s : State) : (emptyWindows s).doors = s.doors := rfl
@[simp] theorem emptyWindows_vestibule (s : State) : (emptyWindows s).vestibule = s.vestibule := rfl
@[simp] theorem emptyWindows_choices (s : State) : (emptyWindows s).choices = s.choices := rfl
@[simp] theorem emptyWindows_pending (s : State) : (emptyWindows s).pending = s.pending := rfl

/-- Appending an event pushes one entry stamped with the tunnel clock (R27). -/
@[simp] theorem appendEvent_evq (src : Source) (code : EventCode) (l : Option Nat) (v : Option Int) (s : State) :
    (appendEvent src code l v s).evq = s.evq.push { stamp := s.tb.clock, source := src, code, level := l, value := v, gap := false } := rfl

/-! ### Reading back a record -/

@[simp] theorem State.ch_setCh_same (s : State) (i : ChanNo) (x : Channel) : (s.setCh i x).ch i = x := by
  simp [State.ch, State.setCh]

theorem State.ch_setCh_other (s : State) (i j : ChanNo) (x : Channel) (h : j ≠ i) : (s.setCh i x).ch j = s.ch j := by
  have h' : i.val ≠ j.val := fun e => h (Fin.ext e.symm)
  simp [State.ch, State.setCh, h']

/-- The record read after any write of one record. -/
theorem State.ch_setCh (s : State) (i j : ChanNo) (x : Channel) : (s.setCh i x).ch j = if j = i then x else s.ch j := by
  by_cases h : j = i
  · subst h; simp
  · simp [h, s.ch_setCh_other i j x h]

@[simp] theorem State.ch_modCh_same (s : State) (i : ChanNo) (g : Channel → Channel) : (s.modCh i g).ch i = g (s.ch i) := by
  simp [State.modCh]

theorem State.ch_modCh (s : State) (i j : ChanNo) (g : Channel → Channel) :
    (s.modCh i g).ch j = if j = i then g (s.ch i) else s.ch j := by
  simp [State.modCh, State.ch_setCh]

@[simp] theorem State.fan_setFan_same (s : State) (i : FanNo) (x : Fan) : (s.setFan i x).fan i = x := by
  simp [State.fan, State.setFan]

theorem State.fan_setFan_other (s : State) (i j : FanNo) (x : Fan) (h : j ≠ i) : (s.setFan i x).fan j = s.fan j := by
  have h' : i.val ≠ j.val := fun e => h (Fin.ext e.symm)
  simp [State.fan, State.setFan, h']

/-- The record read after any write of one record. -/
theorem State.fan_setFan (s : State) (i j : FanNo) (x : Fan) : (s.setFan i x).fan j = if j = i then x else s.fan j := by
  by_cases h : j = i
  · subst h; simp
  · simp [h, s.fan_setFan_other i j x h]

@[simp] theorem State.fan_modFan_same (s : State) (i : FanNo) (g : Fan → Fan) : (s.modFan i g).fan i = g (s.fan i) := by
  simp [State.modFan]

theorem State.fan_modFan (s : State) (i j : FanNo) (g : Fan → Fan) :
    (s.modFan i g).fan j = if j = i then g (s.fan i) else s.fan j := by
  simp [State.modFan, State.fan_setFan]

@[simp] theorem State.door_setDoor_same (s : State) (i : DoorNo) (x : Door) : (s.setDoor i x).door i = x := by
  simp [State.door, State.setDoor]

theorem State.door_setDoor_other (s : State) (i j : DoorNo) (x : Door) (h : j ≠ i) : (s.setDoor i x).door j = s.door j := by
  have h' : i.val ≠ j.val := fun e => h (Fin.ext e.symm)
  simp [State.door, State.setDoor, h']

/-- The record read after any write of one record. -/
theorem State.door_setDoor (s : State) (i j : DoorNo) (x : Door) : (s.setDoor i x).door j = if j = i then x else s.door j := by
  by_cases h : j = i
  · subst h; simp
  · simp [h, s.door_setDoor_other i j x h]

@[simp] theorem State.door_modDoor_same (s : State) (i : DoorNo) (g : Door → Door) : (s.modDoor i g).door i = g (s.door i) := by
  simp [State.modDoor]

theorem State.door_modDoor (s : State) (i j : DoorNo) (g : Door → Door) :
    (s.modDoor i g).door j = if j = i then g (s.door i) else s.door j := by
  simp [State.modDoor, State.door_setDoor]

@[simp] theorem State.held_setHeld_same (s : State) (i : FanNo) (r : RauFan) : (s.setHeld i r).held i = r := by
  simp [State.held, State.setHeld]

theorem State.held_setHeld (s : State) (i j : FanNo) (r : RauFan) :
    (s.setHeld i r).held j = if j = i then r else s.held j := by
  by_cases h : j = i
  · subst h; simp
  · have h' : i.val ≠ j.val := fun e => h (Fin.ext e.symm)
    simp [State.held, State.setHeld, h, h']

/-! ### Records of other kinds -/

@[simp] theorem State.fan_setCh (s : State) (c : ChanNo) (x : Channel) (i : FanNo) : (s.setCh c x).fan i = s.fan i := rfl
@[simp] theorem State.door_setCh (s : State) (c : ChanNo) (x : Channel) (i : DoorNo) : (s.setCh c x).door i = s.door i := rfl
@[simp] theorem State.held_setCh (s : State) (c : ChanNo) (x : Channel) (i : FanNo) : (s.setCh c x).held i = s.held i := rfl
@[simp] theorem State.fan_modCh (s : State) (c : ChanNo) (g : Channel → Channel) (i : FanNo) : (s.modCh c g).fan i = s.fan i := rfl
@[simp] theorem State.door_modCh (s : State) (c : ChanNo) (g : Channel → Channel) (i : DoorNo) : (s.modCh c g).door i = s.door i := rfl
@[simp] theorem State.held_modCh (s : State) (c : ChanNo) (g : Channel → Channel) (i : FanNo) : (s.modCh c g).held i = s.held i := rfl
@[simp] theorem State.ch_setFan (s : State) (f : FanNo) (x : Fan) (i : ChanNo) : (s.setFan f x).ch i = s.ch i := rfl
@[simp] theorem State.door_setFan (s : State) (f : FanNo) (x : Fan) (i : DoorNo) : (s.setFan f x).door i = s.door i := rfl
@[simp] theorem State.held_setFan (s : State) (f : FanNo) (x : Fan) (i : FanNo) : (s.setFan f x).held i = s.held i := rfl
@[simp] theorem State.ch_modFan (s : State) (f : FanNo) (g : Fan → Fan) (i : ChanNo) : (s.modFan f g).ch i = s.ch i := rfl
@[simp] theorem State.door_modFan (s : State) (f : FanNo) (g : Fan → Fan) (i : DoorNo) : (s.modFan f g).door i = s.door i := rfl
@[simp] theorem State.held_modFan (s : State) (f : FanNo) (g : Fan → Fan) (i : FanNo) : (s.modFan f g).held i = s.held i := rfl
@[simp] theorem State.ch_setDoor (s : State) (d : DoorNo) (x : Door) (i : ChanNo) : (s.setDoor d x).ch i = s.ch i := rfl
@[simp] theorem State.fan_setDoor (s : State) (d : DoorNo) (x : Door) (i : FanNo) : (s.setDoor d x).fan i = s.fan i := rfl
@[simp] theorem State.held_setDoor (s : State) (d : DoorNo) (x : Door) (i : FanNo) : (s.setDoor d x).held i = s.held i := rfl
@[simp] theorem State.ch_modDoor (s : State) (d : DoorNo) (g : Door → Door) (i : ChanNo) : (s.modDoor d g).ch i = s.ch i := rfl
@[simp] theorem State.fan_modDoor (s : State) (d : DoorNo) (g : Door → Door) (i : FanNo) : (s.modDoor d g).fan i = s.fan i := rfl
@[simp] theorem State.held_modDoor (s : State) (d : DoorNo) (g : Door → Door) (i : FanNo) : (s.modDoor d g).held i = s.held i := rfl
@[simp] theorem State.ch_setHeld (s : State) (f : FanNo) (r : RauFan) (i : ChanNo) : (s.setHeld f r).ch i = s.ch i := rfl
@[simp] theorem State.fan_setHeld (s : State) (f : FanNo) (r : RauFan) (i : FanNo) : (s.setHeld f r).fan i = s.fan i := rfl
@[simp] theorem State.door_setHeld (s : State) (f : FanNo) (r : RauFan) (i : DoorNo) : (s.setHeld f r).door i = s.door i := rfl
@[simp] theorem State.ch_replies (s : State) (code : Byte) (o : ReqOutcome) (l : List Byte) (i : ChanNo) : (s.replies code o l).ch i = s.ch i := rfl
@[simp] theorem State.fan_replies (s : State) (code : Byte) (o : ReqOutcome) (l : List Byte) (i : FanNo) : (s.replies code o l).fan i = s.fan i := rfl
@[simp] theorem State.door_replies (s : State) (code : Byte) (o : ReqOutcome) (l : List Byte) (i : DoorNo) : (s.replies code o l).door i = s.door i := rfl
@[simp] theorem State.held_replies (s : State) (code : Byte) (o : ReqOutcome) (l : List Byte) (i : FanNo) : (s.replies code o l).held i = s.held i := rfl
@[simp] theorem ch_appendEvent (src : Source) (code : EventCode) (l : Option Nat) (v : Option Int) (s : State) (i : ChanNo) : (appendEvent src code l v s).ch i = s.ch i := rfl
@[simp] theorem fan_appendEvent (src : Source) (code : EventCode) (l : Option Nat) (v : Option Int) (s : State) (i : FanNo) : (appendEvent src code l v s).fan i = s.fan i := rfl
@[simp] theorem door_appendEvent (src : Source) (code : EventCode) (l : Option Nat) (v : Option Int) (s : State) (i : DoorNo) : (appendEvent src code l v s).door i = s.door i := rfl
@[simp] theorem held_appendEvent (src : Source) (code : EventCode) (l : Option Nat) (v : Option Int) (s : State) (i : FanNo) : (appendEvent src code l v s).held i = s.held i := rfl
@[simp] theorem ch_toHunt (s : State) (i : ChanNo) : (toHunt s).ch i = s.ch i := rfl
@[simp] theorem fan_toHunt (s : State) (i : FanNo) : (toHunt s).fan i = s.fan i := rfl
@[simp] theorem door_toHunt (s : State) (i : DoorNo) : (toHunt s).door i = s.door i := rfl
@[simp] theorem held_toHunt (s : State) (i : FanNo) : (toHunt s).held i = s.held i := rfl
@[simp] theorem ch_restartSilence (s : State) (i : ChanNo) : (restartSilence s).ch i = s.ch i := rfl
@[simp] theorem fan_restartSilence (s : State) (i : FanNo) : (restartSilence s).fan i = s.fan i := rfl
@[simp] theorem door_restartSilence (s : State) (i : DoorNo) : (restartSilence s).door i = s.door i := rfl
@[simp] theorem held_restartSilence (s : State) (i : FanNo) : (restartSilence s).held i = s.held i := rfl

end Sys2Proof.Machine
end

