-- ==== Sys2Proof/Laws/HandOver.lean ====
section
/-! SUPPORT. Hand-overs between the blocks: each, and so every cascade of them, leaves alone all that `HandedOn` names, and only appends
to the event queue. A statement about a command that hands on cites `run_handedOn` and never unfolds a cascade. -/

namespace Sys2Proof.Machine

/-! ### Entries appended -/

theorem Appended.refl (q : EventQueue) : Appended q q := ⟨[], rfl⟩

theorem Appended.trans {q r u : EventQueue} (h : Appended q r) (k : Appended r u) : Appended q u := by
  obtain ⟨es, rfl⟩ := h
  obtain ⟨fs, rfl⟩ := k
  exact ⟨es ++ fs, List.foldl_append.symm⟩

/-! ### `HandedOn` as a preorder -/

theorem HandedOn.refl (s : State) : HandedOn s s := ⟨rfl, [], rfl⟩

theorem HandedOn.trans {s t u : State} (h : HandedOn s t) (k : HandedOn t u) : HandedOn s u :=
  ⟨k.1.trans h.1, h.2.trans k.2⟩

/-! ### The single updates -/

theorem appendEvent_handedOn (src : Source) (code : EventCode) (l : Option Nat) (v : Option Int) (s : State) :
    HandedOn s (appendEvent src code l v s) := ⟨rfl, [_], rfl⟩

theorem fanEvent_handedOn (f : FanNo) (code : EventCode) (l : Option Nat) (v : Option Int) (s : State) :
    HandedOn s (fanEvent f code l v s) := appendEvent_handedOn _ _ _ _ _

/-- A record replaced by one that a change of every record does not tell from it. -/
theorem each_set_eq {α β : Type} {n : Nat} (v : Vector α n) (i : Fin n) (x : α) (g : α → β) (h : g x = g v[i]) :
    each g (v.set i x) = each g v := by
  ext j hj
  by_cases e : i.val = j
  · subst e; simpa using h
  · simp [e]

theorem modFan_handedOn (f : FanNo) (g : Fan → Fan) (s : State) (h : (g (s.fan f)).fixed = (s.fan f).fixed) :
    HandedOn s (s.modFan f g) := by
  refine ⟨?_, [], rfl⟩
  have e := each_set_eq s.fans f (g (s.fan f)) Fan.fixed h
  simp only [State.fixed, State.modFan, State.setFan]
  rw [e]

theorem modCh_handedOn (c : ChanNo) (g : Channel → Channel) (s : State) (h : (g (s.ch c)).fixed = (s.ch c).fixed) :
    HandedOn s (s.modCh c g) := by
  refine ⟨?_, [], rfl⟩
  have e := each_set_eq s.channels c (g (s.ch c)) Channel.fixed h
  simp only [State.fixed, State.modCh, State.setCh]
  rw [e]

theorem rau_handedOn (r : Rau) (s : State) (h : r.fixed = s.rau.fixed) : HandedOn s { s with rau := r } :=
  ⟨by simp only [State.fixed, h], [], rfl⟩

theorem cal_handedOn (k : Cal) (s : State) (h : k.fixed = s.cal.fixed) : HandedOn s { s with cal := k } :=
  ⟨by simp only [State.fixed, h], [], rfl⟩

/-! ### The fan drive units -/

/-- A move of a fan that keeps it fixed. -/
theorem moveFan_handedOn (f : FanNo) (g : Fan → Fan) (s : State) (h : (g (s.fan f)).fixed = (s.fan f).fixed) :
    HandedOn s (moveFan f g s).1 := modFan_handedOn f g s h

theorem fixed_of_state {x : Fan} {a : FanState} (h : x.state = some a) (ht : a ≠ .tripped) (hi : a ≠ .inhibited) :
    fixedState x.state = some .stopped := by cases a <;> simp_all [fixedState]

theorem toStopped_fixed (x : Fan) (h : fixedState x.state = some .stopped) : x.toStopped.fixed = x.fixed := by
  simp only [Fan.toStopped, Fan.powerOff, Fan.fixed, h]; rfl

theorem toWaiting_fixed (x : Fan) (h : fixedState x.state = some .stopped) : x.toWaiting.fixed = x.fixed := by
  simp only [Fan.toWaiting, Fan.powerOff, Fan.fixed, h]; rfl

theorem toCoasting_fixed (x : Fan) (now : Ms) (h : fixedState x.state = some .stopped) :
    (x.toCoasting now).fixed = x.fixed := by
  simp only [Fan.toCoasting, Fan.powerOff, Fan.fixed, h]; rfl

theorem toStarting_fixed (x : Fan) (now : Ms) (h : fixedState x.state = some .stopped) :
    (x.toStarting now).fixed = x.fixed := by
  simp only [Fan.toStarting, Fan.fixed, h]; rfl

theorem toChanging_fixed (x : Fan) (now : Ms) (h : fixedState x.state = some .stopped) :
    (x.toChanging now).fixed = x.fixed := by
  simp only [Fan.toChanging, Fan.fixed, h]; rfl

theorem stopFan_handedOn (f : FanNo) (s : State) (h : fixedState (s.fan f).state = some .stopped) :
    HandedOn s (stopFan f s).1 :=
  (fanEvent_handedOn f .fanStop none none s).trans (moveFan_handedOn f _ _ (toStopped_fixed _ h))

theorem makeStart_handedOn (f : FanNo) (s : State) (h : fixedState (s.fan f).state = some .stopped) :
    HandedOn s (makeStart f s).1 := moveFan_handedOn f _ _ (toStarting_fixed _ _ h)

theorem reverseFan_handedOn (f : FanNo) (s : State) (h : fixedState (s.fan f).state = some .stopped) :
    HandedOn s (reverseFan f s).1 :=
  (fanEvent_handedOn f .fanReverse _ none s).trans (moveFan_handedOn f _ _ (toCoasting_fixed _ _ h))

theorem budgetAttempt_handedOn (f : FanNo) (s : State) (h : fixedState (s.fan f).state = some .stopped) :
    HandedOn s (budgetAttempt f s).1 := by
  have h1 : HandedOn s (s.modFan f fun x => { x with history := s.windowStamps f }) := modFan_handedOn f _ s rfl
  have h2 : fixedState ((s.modFan f fun x => { x with history := s.windowStamps f }).fan f).state = some .stopped := by
    simpa using h
  simp only [budgetAttempt]
  split
  · exact h1.trans (makeStart_handedOn f _ h2)
  · exact h1.trans ((fanEvent_handedOn _ _ _ _ _).trans (moveFan_handedOn f _ _ (toWaiting_fixed _ h2)))

theorem startAttempt_handedOn (f : FanNo) (s : State) : HandedOn s (startAttempt f s).1 := by
  simp only [startAttempt]
  split
  · rename_i h
    have h' := fixed_of_state h.1 (by decide) (by decide)
    split
    · exact reverseFan_handedOn f s h'
    · exact budgetAttempt_handedOn f s h'
  · exact .refl s

theorem changeStage_handedOn (f : FanNo) (s : State) : HandedOn s (changeStage f s).1 := by
  unfold changeStage
  split
  · rename_i h
    exact moveFan_handedOn f _ _ (toChanging_fixed _ _ (fixed_of_state h (by decide) (by decide)))
  · exact modFan_handedOn f _ s rfl
  · exact modFan_handedOn f _ s rfl
  · exact .refl s

theorem followHandover_handedOn (f : FanNo) (eff : Nat) (s : State) : HandedOn s (followHandover f eff s).1 := by
  have key : ∀ a, (s.fan f).state = some a → a ≠ .tripped → a ≠ .inhibited →
      HandedOn s (stopFan f s).1 ∧ HandedOn s (budgetAttempt f s).1 ∧ HandedOn s (reverseFan f s).1 := fun a h ht hi =>
    have h' := fixed_of_state h ht hi
    ⟨stopFan_handedOn f s h', budgetAttempt_handedOn f s h', reverseFan_handedOn f s h'⟩
  simp only [followHandover]
  split
  · exact .refl s
  · exact startAttempt_handedOn f s
  · rename_i h
    obtain ⟨h1, h2, -⟩ := key _ h (by decide) (by decide)
    repeat' split
    · exact h1
    · exact h2
    · exact .refl s
  all_goals first
    | exact .refl s
    | (rename_i h
       obtain ⟨h1, -, h3⟩ := key _ h (by decide) (by decide)
       repeat' split
       · exact h1
       · exact h3
       · exact changeStage_handedOn f s
       · exact .refl s)

theorem receiveHandover_handedOn (f : FanNo) (s : State) : HandedOn s (receiveHandover f s).1 :=
  (modFan_handedOn f _ s rfl).trans (followHandover_handedOn f _ _)

theorem grantStart_handedOn (f : FanNo) (s : State) : HandedOn s (grantStart f s).1 := by
  unfold grantStart
  split
  · rename_i h
    exact makeStart_handedOn f s (fixed_of_state h.1 (by decide) (by decide))
  · exact .refl s

/-! ### The regime and allocation unit -/

theorem formEffective_handedOn (s : State) : HandedOn s (formEffective s) := rau_handedOn _ s rfl

theorem setRequests_handedOn (g : FanNo → RauFan → RauFan) (s : State) : HandedOn s (setRequests g s) :=
  rau_handedOn _ s rfl

theorem applyAllocation_handedOn (demand : Nat) (s : State) : HandedOn s (applyAllocation demand s) := rau_handedOn _ s rfl

theorem reevaluate_handedOn (s : State) : HandedOn s (reevaluate s).1 := by
  simp only [reevaluate]
  repeat' split
  all_goals exact rau_handedOn _ s rfl

theorem takeContribution_handedOn (c : ChanNo) (s : State) : HandedOn s (takeContribution c s) := rau_handedOn _ s rfl

theorem receiveCalEnd_handedOn (c : ChanNo) (s : State) : HandedOn s (receiveCalEnd c s).1 := by
  unfold receiveCalEnd
  split
  · exact takeContribution_handedOn c s
  · exact .refl s

theorem evaluateShort_handedOn (s : State) : HandedOn s (evaluateShort s) := by
  unfold evaluateShort
  split
  · split
    · exact .refl s
    · exact HandedOn.trans (rau_handedOn { s.rau with short := true } s rfl) (appendEvent_handedOn _ _ _ _ _)
  · split
    · exact HandedOn.trans (rau_handedOn { s.rau with short := false } s rfl) (appendEvent_handedOn _ _ _ _ _)
    · exact .refl s

theorem giveRole_handedOn (f : FanNo) (s : State) : HandedOn s (giveRole f s).1 := by
  unfold giveRole
  split
  · exact rau_handedOn _ s rfl
  · exact .refl s

/-! ### The calibration unit and the channels -/

theorem enterPurging_handedOn (e : CalEntry) (s : State) : HandedOn s (enterPurging e s) :=
  (modCh_handedOn e.channel _ s rfl).trans (cal_handedOn _ _ rfl)

theorem quietTest_handedOn (s : State) : HandedOn s (quietTest s).1 := by
  unfold quietTest
  split
  · exact .refl s
  · split
    · exact enterPurging_handedOn _ s
    · exact .refl s

theorem nextHead_handedOn (s : State) : HandedOn s (nextHead s).1 := by
  unfold nextHead
  split
  · exact .refl s
  · split
    · exact cal_handedOn _ s rfl
    · exact .refl s

theorem endCalibration_handedOn (c : ChanNo) (l : List CalEntry) (s : State) : HandedOn s (endCalibration c l s).1 :=
  (modCh_handedOn c _ s rfl).trans ((cal_handedOn _ _ rfl).trans (cal_handedOn _ _ rfl))

theorem quietLost_handedOn (s : State) : HandedOn s (quietLost s).1 := by
  unfold quietLost
  split
  · exact .refl s
  · split
    · exact (appendEvent_handedOn _ _ _ _ _).trans (endCalibration_handedOn _ _ _)
    · exact .refl s

theorem loadCountdown_fixed (x : Channel) : x.loadCountdown.fixed = x.fixed := by
  unfold Channel.loadCountdown
  split <;> rfl

theorem loadCountdowns_handedOn (s : State) : HandedOn s (loadCountdowns s) := by
  refine ⟨?_, [], rfl⟩
  have e : each Channel.fixed (each Channel.loadCountdown s.channels) = each Channel.fixed s.channels := by
    ext i hi
    simp [loadCountdown_fixed]
  simp only [State.fixed, loadCountdowns, e]

theorem calHears_handedOn (before after : Option FanState) (s : State) : HandedOn s (calHears before after s).1 := by
  unfold calHears
  split
  · exact quietLost_handedOn s
  · exact .refl s

theorem fanMoved_handedOn (before after : Option FanState) (s : State) : HandedOn s (fanMoved before after s).1 := by
  simp only [fanMoved]
  split
  · exact (loadCountdowns_handedOn s).trans (calHears_handedOn _ _ _)
  · exact calHears_handedOn _ _ _

/-! ### Hand-overs carried out -/

/-- One hand-over leaves alone what `HandedOn` names. -/
theorem perform_handedOn (w : Work) (s : State) : HandedOn s (perform w s).1 := by
  cases w with
  | fanMoved f b a => exact fanMoved_handedOn b a s
  | startAttempt f => exact startAttempt_handedOn f s
  | handFan f =>
    simp only [perform]
    split
    · exact .refl s
    · exact receiveHandover_handedOn f s
  | handRegime f => exact receiveHandover_handedOn f s
  | contribution c => exact takeContribution_handedOn c s
  | calEnded c => exact receiveCalEnd_handedOn c s
  | nextHead => exact nextHead_handedOn s
  | quietTest => exact quietTest_handedOn s
  | availability => exact .refl s
  | reevaluate => exact reevaluate_handedOn s
  | reform => exact formEffective_handedOn s
  | giveRole f => exact giveRole_handedOn f s
  | demandShort => exact evaluateShort_handedOn s
  | grantDue => exact .refl s
  | grant f => exact grantStart_handedOn f s

/-- What every hand-over keeps, a cascade keeps. -/
theorem cascade_keeps (P : State → Prop) (h : ∀ w s, P s → P (perform w s).1) (n : Nat) (ws : List Work) (s : State)
    (hs : P s) : P (cascade n ws s).1 := by
  induction n generalizing ws s with
  | zero => cases ws <;> simpa [cascade] using hs
  | succ n ih =>
    cases ws with
    | nil => simpa [cascade] using hs
    | cons w rest =>
      rw [cascade]
      split
      · exact ih _ _ hs
      · exact ih _ _ (h w s hs)

/-- What every hand-over keeps, the hand-overs of a command keep. -/
theorem run_keeps (P : State → Prop) (h : ∀ w s, P s → P (perform w s).1) (ws : List Work) (s : State) (hs : P s) :
    P (run ws s) := cascade_keeps P h _ ws s hs

/-- The hand-overs of a command leave alone what `HandedOn` names. -/
theorem run_handedOn (ws : List Work) (s : State) : HandedOn s (run ws s) :=
  run_keeps (HandedOn s) (fun w _ h => h.trans (perform_handedOn w _)) ws s (.refl s)

/-- The hand-overs that an act asks for leave alone what `HandedOn` names of the state that the act leaves. -/
theorem runEffect_handedOn (e : Effect) : HandedOn e.1 (runEffect e) := run_handedOn e.2 e.1

/-- The hand-over of a recovery leaves alone what `HandedOn` names. -/
theorem handRecovery_handedOn (recovered : Bool) (c : ChanNo) (s : State) : HandedOn s (handRecovery recovered c s) :=
  run_handedOn _ s

/-- No hand-over and nothing happens. -/
@[simp] theorem run_nil (s : State) : run [] s = s := by
  unfold run
  cases cascadeFuel [] s <;> rfl

@[simp] theorem runEffect_nil (s : State) : runEffect (s, []) = s := run_nil s

/-! ### What `HandedOn` says of the single components -/

section
variable {s t : State} (h : HandedOn s t)
include h

theorem HandedOn.lif : t.lif = s.lif := show t.fixed.lif = s.fixed.lif from congrArg _ h.1
theorem HandedOn.tb : t.tb = s.tb := show t.fixed.tb = s.fixed.tb from congrArg _ h.1
theorem HandedOn.scn : t.scn = s.scn := show t.fixed.scn = s.fixed.scn from congrArg _ h.1
theorem HandedOn.inhibit : t.inhibit = s.inhibit := show t.fixed.inhibit = s.fixed.inhibit from congrArg _ h.1
theorem HandedOn.doors : t.doors = s.doors := show t.fixed.doors = s.fixed.doors from congrArg _ h.1
theorem HandedOn.vestibule : t.vestibule = s.vestibule := show t.fixed.vestibule = s.fixed.vestibule from congrArg _ h.1
theorem HandedOn.choices : t.choices = s.choices := show t.fixed.choices = s.fixed.choices from congrArg _ h.1
theorem HandedOn.pending : t.pending = s.pending := show t.fixed.pending = s.fixed.pending from congrArg _ h.1
theorem HandedOn.rau : t.rau.fixed = s.rau.fixed := show t.fixed.rau = s.fixed.rau from congrArg _ h.1
theorem HandedOn.cal : t.cal.fixed = s.cal.fixed := show t.fixed.cal = s.fixed.cal from congrArg _ h.1

theorem HandedOn.ch (c : ChanNo) : (t.ch c).fixed = (s.ch c).fixed := by
  have e := congrArg (fun u : State => u.ch c) h.1
  simpa [State.ch, State.fixed] using e

theorem HandedOn.fan (f : FanNo) : (t.fan f).fixed = (s.fan f).fixed := by
  have e := congrArg (fun u : State => u.fan f) h.1
  simpa [State.fan, State.fixed] using e

/-- Hand-overs reach no component but those of `Part.reached`. -/
theorem HandedOn.sameBut : sameBut Part.reached s t := by
  intro p hp
  cases p <;> first
    | exact absurd (by decide) hp
    | exact h.lif
    | exact h.tb
    | exact h.scn
    | exact h.inhibit
    | exact h.doors
    | exact h.vestibule
    | exact h.choices
    | exact h.pending

end

end Sys2Proof.Machine
end

