-- ==== Sys2Proof/Laws/Line.lean ====
section
/-! SUPPORT. What the taking of a frame does (R6–R14), said once: the contact with the station controller, the request carried to its
owner, the request that is answered or ignored for its length, and the frame that is not taken. -/

namespace Sys2Proof.Machine

/-! ### Contact (R13, R14) -/

@[simp] theorem contact_tb (s : State) : (contact s).tb = s.tb := by
  cases h : s.lif.lineLost <;> simp [contact, restartSilence, restoreLine, toHunt, appendEvent, h]

@[simp] theorem contact_scn (s : State) : (contact s).scn = s.scn := by
  cases h : s.lif.lineLost <;> simp [contact, restartSilence, restoreLine, toHunt, appendEvent, h]

@[simp] theorem contact_channels (s : State) : (contact s).channels = s.channels := by
  cases h : s.lif.lineLost <;> simp [contact, restartSilence, restoreLine, toHunt, appendEvent, h]

@[simp] theorem contact_cal (s : State) : (contact s).cal = s.cal := by
  cases h : s.lif.lineLost <;> simp [contact, restartSilence, restoreLine, toHunt, appendEvent, h]

@[simp] theorem contact_fans (s : State) : (contact s).fans = s.fans := by
  cases h : s.lif.lineLost <;> simp [contact, restartSilence, restoreLine, toHunt, appendEvent, h]

@[simp] theorem contact_inhibit (s : State) : (contact s).inhibit = s.inhibit := by
  cases h : s.lif.lineLost <;> simp [contact, restartSilence, restoreLine, toHunt, appendEvent, h]

@[simp] theorem contact_rau (s : State) : (contact s).rau = s.rau := by
  cases h : s.lif.lineLost <;> simp [contact, restartSilence, restoreLine, toHunt, appendEvent, h]

@[simp] theorem contact_doors (s : State) : (contact s).doors = s.doors := by
  cases h : s.lif.lineLost <;> simp [contact, restartSilence, restoreLine, toHunt, appendEvent, h]

@[simp] theorem contact_vestibule (s : State) : (contact s).vestibule = s.vestibule := by
  cases h : s.lif.lineLost <;> simp [contact, restartSilence, restoreLine, toHunt, appendEvent, h]

@[simp] theorem contact_choices (s : State) : (contact s).choices = s.choices := by
  cases h : s.lif.lineLost <;> simp [contact, restartSilence, restoreLine, toHunt, appendEvent, h]

@[simp] theorem contact_pending (s : State) : (contact s).pending = s.pending := by
  cases h : s.lif.lineLost <;> simp [contact, restartSilence, restoreLine, toHunt, appendEvent, h]

@[simp] theorem contact_straps (s : State) : (contact s).lif.straps = s.lif.straps := by
  cases h : s.lif.lineLost <;> simp [contact, restartSilence, restoreLine, toHunt, appendEvent, h]

@[simp] theorem contact_service (s : State) : (contact s).lif.service = s.lif.service := by
  cases h : s.lif.lineLost <;> simp [contact, restartSilence, restoreLine, toHunt, appendEvent, h]

@[simp] theorem contact_rx (s : State) : (contact s).lif.rx = .hunt := by
  cases h : s.lif.lineLost <;> simp [contact, restartSilence, restoreLine, toHunt, appendEvent, h]

@[simp] theorem contact_silenceTimeout (s : State) : (contact s).lif.silenceTimeout = s.lif.silenceTimeout := by
  cases h : s.lif.lineLost <;> simp [contact, restartSilence, restoreLine, toHunt, appendEvent, h]

@[simp] theorem contact_silenceSince (s : State) : (contact s).lif.silenceSince = some s.tb.uptime := by
  cases h : s.lif.lineLost <;> simp [contact, restartSilence, restoreLine, toHunt, appendEvent, h]

@[simp] theorem contact_ch (s : State) (c : ChanNo) : (contact s).ch c = s.ch c := by simp [State.ch]

@[simp] theorem contact_fan (s : State) (f : FanNo) : (contact s).fan f = s.fan f := by simp [State.fan]

@[simp] theorem contact_door (s : State) (d : DoorNo) : (contact s).door d = s.door d := by simp [State.door]

@[simp] theorem contact_held (s : State) (f : FanNo) : (contact s).held f = s.held f := by simp [State.held]

/-! ### The reply put in service (R8, R11) -/

@[simp] theorem beginService_refuse (code : Byte) (o : ReqOutcome) (s : State) :
    beginService code (refuse o s) = s.replies code o [] := rfl

@[simp] theorem beginService_answer (code : Byte) (clamped : Bool) (reply : List Byte) (s : State) :
    beginService code (answer clamped reply s) = s.replies code (taken clamped) reply := rfl

/-! ### The taking of a request (R6–R12) -/

/-- A node that is ready takes an addressed frame. -/
theorem State.ready.takes_addressed {s : State} (h : s.ready) : s.takes .addressed = true := by
  simp [State.takes, h.1, h.2]

/-- A node that is ready takes a group frame whose map selects it. -/
theorem State.ready.takes_group {s : State} (h : s.ready) {map : BitVec 64}
    (hm : map.getLsbD s.lif.straps.address.val = true) : s.takes (.group map) = true := by
  simp [State.takes, h.1, h.2, hm]

/-- An addressed request of the right length is served on the state that the contact leaves. -/
theorem takeRequest_served {s : State} (h : s.ready) {code : Byte} {group : Bool} {length : Nat}
    {serve : List Byte → State → Answer} {fields : List Byte} (hl : fields.length = length) (hn : length ≤ 96) :
    takeRequest code group length serve .addressed fields s = beginService code (serve fields (contact s)) := by
  have hf : fields.length ≤ 96 := by omega
  simp [takeRequest, h.takes_addressed, fitsFrame, answerOf, hl, hn]

/-- An addressed request of the wrong length is answered BAD LENGTH (R10 step 2). -/
theorem takeRequest_badLength {s : State} (h : s.ready) {code : Byte} {group : Bool} {length : Nat}
    {serve : List Byte → State → Answer} {fields : List Byte} (hl : fields.length ≠ length) (hn : fields.length ≤ 96) :
    takeRequest code group length serve .addressed fields s = (contact s).replies code .badLength [] := by
  simp [takeRequest, h.takes_addressed, fitsFrame, answerOf, hl, hn]

/-- A group request that selects the node is carried out without a reply, or ignored (R12). -/
theorem takeRequest_group {s : State} (h : s.ready) {code : Byte} {group : Bool} {length : Nat}
    {serve : List Byte → State → Answer} {fields : List Byte} {map : BitVec 64}
    (hm : map.getLsbD s.lif.straps.address.val = true) (hn : fields.length + 8 ≤ 96) :
    takeRequest code group length serve (.group map) fields s =
      if group && fields.length = length then (serve fields (contact s)).state else contact s := by
  simp [takeRequest, h.takes_group hm, fitsFrame, hn]

/-- A frame that the node does not take does nothing but bring the receiver of a node not in service to HUNT (R8). -/
theorem takeRequest_notTaken {s : State} {form : Form} (h : s.takes form = false) (code : Byte) (group : Bool) (length : Nat)
    (serve : List Byte → State → Answer) (fields : List Byte) :
    takeRequest code group length serve form fields s = dropFrame s := by
  simp [takeRequest, h]

end Sys2Proof.Machine
end

