-- ==== Sys2Proof/Tests/Slice0.lean ====
section
/-! SUPPORT. The model's own tests: ill-formed commands refused, the manual's worked figures, one small step here and there, and for
every obligation with hypotheses a state and operands that meet them. Expected values come from the manual, named at each test. -/

namespace Sys2Proof.Tests

open Sys2Proof.Machine

/-! ### Ill-formed commands -/

theorem test_wf_long_addressed : (Instr.statusPoll .addressed (List.replicate 97 0)).wf = false := by decide
theorem test_wf_longest_addressed : (Instr.statusPoll .addressed (List.replicate 96 0)).wf = true := by decide
theorem test_wf_long_group : (Instr.setTime (.group 2) (List.replicate 89 0)).wf = false := by decide
theorem test_wf_unknown_known : (Instr.unknownRequest .addressed 0x28 []).wf = false := by decide
theorem test_wf_unknown_zero : (Instr.unknownRequest .addressed 0x00 []).wf = false := by decide
theorem test_wf_unknown_high : (Instr.unknownRequest .addressed 0x40 []).wf = false := by decide
theorem test_wf_unknown : (Instr.unknownRequest .addressed 0x3F []).wf = true := by decide
theorem test_wf_long_foreign : (Instr.foreignFrame 1 1 (List.replicate 97 0) 0).wf = false := by decide

/-! ### The manual's figures -/

/-- Chapter 1, R5: a STATUS POLL to node 5. -/
theorem test_frame_of_status_poll : frameBytes 5 1 [] = [0xC5, 0x05, 0x01, 0x00, 0x14, 0x5D] := by decide +kernel

/-- R7: bit n of the map stands for node n, bit 0 of byte 0 for node 0: byte 0 with bit 3 set selects node 3. -/
theorem test_selection_map_low : (selectionMap [0x08, 0, 0, 0, 0, 0, 0, 0]).getLsbD 3 = true := by decide
theorem test_selection_map_high : (selectionMap [0, 0, 0, 0, 0, 0, 0, 0x40]).getLsbD 62 = true := by decide

/-- The carbon monoxide channel of chapter 4's worked cases. -/
def coConfig : ChanConfig :=
  { ChanConfig.initial with
    enabled := true, kind := .co, fs := 3000, zero := 3270, span := 5150, tc := -40, tempSource := some 4, crossSource := some 1,
    xs := 40, smoothing := 2, l1 := 500, l2 := 700, l3 := 1000, hyst := 30, participates := true }

def coChannel : Channel :=
  { Channel.initial with cfg := coConfig, state := .valid, value := 540, published := true, filterInit := true }

/-- Chapter 4, A carbon monoxide channel: E 605, E2 584, E3 578, F 550, level 1, index 78. -/
theorem test_co_scaled : scaledValue coConfig 5896 = 605 := by decide
theorem test_co_compensated : compensatedValue coConfig (some 285) 605 = 584 := by decide
theorem test_co_crossed : crossedValue coConfig (some 150) 584 = 578 := by decide
theorem test_co_smoothed : smoothedValue coChannel 578 = 550 := by decide
theorem test_co_level_and_index : judgedLevel coConfig 550 0 = 1 ∧ channelIndex coConfig 550 = 78 := by decide

/-- Chapter 4, Coming to rest: at 577 a clamped value of 578 moves no further. -/
theorem test_co_rest : smoothedValue { coChannel with value := 577 } 578 = 577 := by decide

/-- Chapter 4, Falling through hysteresis. -/
theorem test_co_falls :
    [690, 670, 665, 480].map (judgedLevel coConfig · 2) = [2, 2, 1, 1] ∧ judgedLevel coConfig 466 1 = 0 := by decide

/-- R111: the full-reset configuration of a fan. -/
theorem test_fan_periods : [1, 2, 3].map FanConfig.initial.targetPeriod = [4054, 2703, 2027] := by decide
theorem test_fan_fine_bands : [1, 2, 3].map FanConfig.initial.fineBand = [40, 27, 20] := by decide
theorem test_fan_coarse_bands : [1, 2, 3].map FanConfig.initial.coarseBand = [324, 216, 162] := by decide
theorem test_fan_feed_forward : [1, 2, 3].map FanConfig.initial.feedForward = [512, 767, 1023] := by decide
theorem test_fan_coast_period : FanConfig.initial.coastPeriod = 20270 := by decide

/-- R160: the split of each demand over four fans. -/
theorem test_split_seven : [0, 1, 2, 3].map (splitStage 7 4) = [3, 2, 2, 0] := by decide
theorem test_split_eleven : [0, 1, 2, 3].map (splitStage 11 4) = [3, 3, 3, 2] := by decide
theorem test_split_five : [0, 1, 2, 3].map (splitStage 5 4) = [3, 2, 0, 0] := by decide

/-- R16: the pages' lengths are those of the table of pages. -/
theorem test_page_lengths :
    [0, 1, 2, 12, 16, 18, 19, 20].map (fun n : Fin 21 => (State.reset.page n).length) = [6, 7, 41, 28, 21, 14, 20, 68] := by
  decide

/-- R26: 31 bytes. -/
theorem test_status_length : (statusBytes false State.reset).length = 31 := by decide

/-! ### Small states -/

/-- A present, stopped fan of the full-reset configuration. -/
def idleFan : Fan := { Fan.initial with cfg := { FanConfig.initial with present := true }, state := some .stopped }

/-- A fan at an effective stage, in a state. -/
def fanIn (st : FanState) (stage : Nat) : Fan :=
  { idleFan with
    state := some st, reqStage := stage, effStage := stage, run := poweredState (some st),
    drive := if poweredState (some st) then 512 else 0 }

/-- Fan 0 as given, with the RAU holding what it holds. -/
def withFan (x : Fan) : State := (State.reset.setFan 0 x).setHeld 0 { req := x.reqStage, eff := x.effStage, dir := x.reqDir }

/-- A channel of a kind, in the scan list, with the four codes to come. -/
def withChannel (x : Channel) : State :=
  { State.reset.setCh 2 x with scn := { Scan.initial with list := [2], state := .converting, ticks := 5, due := 5 } }

/-- A calibration queue whose head is channel 2, in a phase. -/
def withHead (p : CalPhase) : State :=
  let s := withChannel { coChannel with flags := { ValueFlags.clear with calibrating := p.airOn } }
  { s with cal := { Cal.initial with queue := [⟨2, .long, false⟩], phase := p, valve := p.airOn, headSelect := 2 } }

/-- A state with channel 2 as the head in a phase, the channel left out of the demand. -/
def headed (p : CalPhase) (retried : Bool) (s : State) : State :=
  { s.modCh 2 fun x => { x with
      flags := { x.flags with calibrating := p.airOn }, cfg := { x.cfg with participates := false } } with
    cal := { Cal.initial with queue := [⟨2, .long, retried⟩], phase := p, valve := p.airOn, headSelect := 2 } }

/-- An open span session of channel 2. -/
def session : SpanSession :=
  { channel := 2, step := .coarse, entryG := 5150, currentG := 5150, countdown := 0, lastRequest := 0 }

def withSession : State :=
  let s := withChannel { coChannel with flags := { ValueFlags.clear with trim := true } }
  { s with cal := { Cal.initial with span := some session } }

/-- Uptime as given. -/
def at' (ms : Nat) (s : State) : State := { s with tb := { s.tb with uptime := BitVec.ofNat 32 ms } }

/-- A reply in service. -/
def serving (v : Service) : State := { State.reset with lif := { State.reset.lif with service := some v } }

/-- A reply of one outcome byte. -/
def oneByte (sending : Bool) (elapsed : Nat) (reset : Bool) : Service :=
  { dest := 0x81, kind := 0x46, payload := [0], sending := sending, elapsed := elapsed, resetAfter := reset }

/-- Door 0 in a state, with its contacts at levels. -/
def contactAt (level : Bool) : ContactState := { input := level, level := some level, since := none }

def doorIn (st : DoorState) (closed latch bar feedback : Bool) : Door :=
  { Door.initial with
    state := some st, lock := feedback, engageWaiting := false,
    contacts := { closed := contactAt closed, latch := contactAt latch, escapeBar := contactAt bar,
                  reverseHandle := contactAt false, lockFeedback := contactAt feedback } }

def withDoor (x : Door) : State := State.reset.setDoor 0 x

/-- The same door with a contact whose input has stood, at uptime 50, for 50 ms at the other level. -/
def changing (x : Door) (c : Contact) (level : Bool) : State :=
  at' 50 (withDoor { x with contacts := x.contacts.set c { input := level, level := some (!level), since := some 0 } })

/-- A set of outcomes to look into: what a next state gives. -/
def after {α : Type} (o : Host.Outcome State Fault Refusal) (g : State → α) : Option α :=
  match o with
  | .next t => some (g t)
  | .fault _ => none
  | .refused _ => none

/-! ### Single steps -/

/-- R23: the step is signed, the entry carries the new clock. -/
theorem test_set_time_back :
    after (exec (.setTime .addressed [0, 0, 0, 0]) { State.reset with tb := { State.reset.tb with clock := 5 } })
      (fun t => (t.evq.entries.getLast?.map fun e => (e.code, e.value))) = some (some (.clockSet, some (-5))) := by decide

/-- R17: the longest silence timeout is the byte's own greatest value, and 0 is taken as 1. -/
theorem test_set_node_clamps :
    after (exec (.setNode .addressed [0, 2, 9, 0, 0, 255, 0]) State.reset)
      (fun t => (t.lif.service.map (·.payload))) = some (some [1, 1, 1, 3, 10, 0, 250, 50]) := by decide

/-- R81: a channel that is not queued answers FFh. -/
theorem test_zero_cancel_absent :
    after (exec (.zeroCancel .addressed [7]) State.reset) (fun t => (t.lif.service.map (·.payload))) =
      some (some [0, 7, 0xFF]) := by decide

/-- R98: a step count of 0 is taken as 1, and the reply is CLAMPED: G falls from 5150 by 64. -/
theorem test_span_step_down :
    after (exec (.spanStep .addressed [2, 1, 0]) withSession) (fun t => ((t.ch 2).cfg.span, t.lif.service.map (·.payload))) =
      some (5086, some [1, 2, 0xDE, 0x13]) := by decide

/-- R107: a fan that is RUNNING refuses SET FAN. -/
theorem test_set_fan_refused :
    after (exec (.setFan .addressed (0 :: FanConfig.initial.bytes)) (withFan (fanIn .running 1)))
      (fun t => (t.lif.service.map (·.payload))) = some (some [2]) := by decide

/-- R114: the period 4100 is within the coarse band of stage 1 and above its fine band: one code up. -/
theorem test_speed_loop_one_code : correctedDrive FanConfig.initial 1 4100 512 = 513 := by decide
theorem test_speed_loop_coarse : correctedDrive FanConfig.initial 1 5000 512 = 520 ∧ correctedDrive FanConfig.initial 1 3000 203 = 200 := by
  decide

/-- R129: overcurrent trips a running fan at once. -/
theorem test_overcurrent_trips :
    after (exec (.overcurrentChange 0 true) (withFan (fanIn .running 1))) (fun t => ((t.fan 0).state, (t.fan 0).run, (t.fan 0).latch)) =
      some (some .tripped, false, some .overcurrent) := by decide

/-- R151: FAN COMMAND in MANUAL starts a stopped fan. -/
theorem test_fan_command_starts :
    after (exec (.fanCommand .addressed [0, 1, 1]) (withFan idleFan)) (fun t => ((t.fan 0).state, (t.fan 0).dirOut, (t.fan 0).drive)) =
      some (some .starting, .reverse, 512) := by decide

/-- R149: INCIDENT with role FIRE ZONE stops a running fan. -/
theorem test_fire_zone_stops :
    after (exec (.regime .addressed [2, 0, 0, 3, 0, 3, 0]) (withFan (fanIn .running 1))) (fun t => ((t.fan 0).state, t.rau.role)) =
      some (some .stopped, some .fireZone) := by decide

/-- R177, R178: a door whose latch is withdrawn against the lock without the bar, and then opened, is FORCED. -/
theorem test_door_forced :
    after (exec (.doorContactDebounced 0 .closed)
        (changing { doorIn .unlatched true false false true with episode := .secured } .closed false))
      (fun t => ((t.door 0).state, (t.door 0).lastWay)) = some (some .forced, .neither) := by decide

/-- R186: a FAULT door whose leaf closes with an engage waiting and its feedback released is FREE before its drive engages. -/
theorem test_fault_ends_before_engage :
    after (exec (.doorContactDebounced 0 .closed)
        (changing { doorIn .fault false true false false with engageWaiting := true } .closed true))
      (fun t => ((t.door 0).state, (t.door 0).lock)) = some (some .free, true) := by decide

/-- R21, R178: a measurement whose age has just reached 2^31 ms gives the largest time. -/
theorem test_opening_time_expired :
    (at' 2147483648 State.reset).openingTime { Door.initial with armed := some ⟨0, false⟩ } = 2147483647 := by decide

/-- R181: an OBSTRUCTED door opens by way of ESCAPE BAR, whatever its marks. -/
theorem test_obstructed_way :
    (openFromUnlatched State.reset (doorIn .obstructed true false true false)).1.lastWay = .escapeBar := by decide

/-- R43: a pass whose every visit was skipped pauses 1 ms; one with a visit begun goes on at once. -/
theorem test_pause_of_zero :
    [false, true].map (fun b => ({ Scan.initial with list := [2], mode := .continuous, begun := b } : Scan).afterVisit.1.state) =
      [.pausing, .idle] := by decide

/-- R180: |F| of 710 against a force limit of 500 is PRESSURE. -/
theorem test_obstruction_pressure :
    obstructionCause
      (State.reset.setCh 5 { Channel.initial with
        cfg := { ChanConfig.initial with kind := .diffPressure }, value := -710, published := true, state := .valid })
      { Door.initial with cfg := { DoorConfig.initial with pressure := some 5 } } = .pressure := by decide

/-- R19, R32: a full reset leaves NODE START alone. -/
theorem test_full_reset_events :
    after (exec (.fullReset ⟨21, 1, true⟩) withSession) (fun t => (t.evq.entries.map (·.code), t.rau.fallback)) =
      some ([.nodeStart], true) := by decide

/-! ### Witnesses: for every obligation with hypotheses, states and operands that meet them, clause by clause -/

/-- A selection map that selects node 1, and one that selects every other node. -/
def mapOfOne : BitVec 64 := 2
def mapOfOthers : BitVec 64 := ~~~2#64

/-- Node 1 with no frame taken for its 30 s. -/
def silent (fallback : Bool) (regime : Regime) : State :=
  let s := at' 30000 State.reset
  { s with rau := { s.rau with fallback := fallback, regime := regime } }

theorem witness_StepRunsFrontCommand :
    ({ State.reset with pending := [.framingError] } : State).pending = .framingError :: [] := by decide

theorem witness_EmptyQueueTicks : State.reset.pending = [] := by decide

theorem witness_KindAndLengthJudged :
    ((Instr.readPage .addressed []).request = some ⟨0x04, false, 1, .addressed, []⟩ ∧ State.reset.ready ∧
      ([] : List Byte).length ≤ 96 ∧ ([] : List Byte).length ≠ 1) ∧
    (1 ≤ (0x07 : Byte).toNat ∧ (0x3F : Byte).toNat ≤ 0x3F ∧ (0x07 : Byte).toNat ∉ requestCodes ∧
      (0x3F : Byte).toNat ∉ requestCodes ∧ (List.replicate 88 (0 : Byte)).length + 8 ≤ 96 ∧
      mapOfOne.getLsbD State.reset.lif.straps.address.val = true) := by decide

theorem witness_GroupRequestsAct :
    ((Instr.readPage (.group mapOfOne) [0]).request = some ⟨0x04, false, 1, .group mapOfOne, [0]⟩ ∧
      (Instr.setTime (.group mapOfOne) [0]).request = some ⟨0x05, true, 4, .group mapOfOne, [0]⟩ ∧ State.reset.ready ∧
      mapOfOne.getLsbD State.reset.lif.straps.address.val = true) ∧
    ((Instr.setTime .addressed [0, 0, 0, 0]).request.map (·.length)) = some 4 ∧
      ((Instr.scanStart .addressed [0]).request.map (·.length)) = some 1 ∧
      ((Instr.regime .addressed [0, 0, 0, 0, 0, 0, 0]).request.map (·.length)) = some 7 ∧
      ((Instr.doorCommand .addressed [0, 0, 0]).request.map (·.length)) = some 3 := by decide

theorem witness_RefusedRequestHasNoEffect :
    (Instr.readPage .addressed [21]).request = some ⟨0x04, false, 1, .addressed, [21]⟩ ∧ State.reset.ready ∧
      after (exec (.readPage .addressed [21]) State.reset) (fun t => t.lif.service.map (·.payload.head?)) =
        some (some (some 5)) := by decide

theorem witness_FramesDropped :
    (Instr.statusPoll (.group mapOfOthers) []).request = some ⟨0x01, false, 0, .group mapOfOthers, []⟩ ∧
    (serving (oneByte false 0 false)).lif.service ≠ none ∧ State.reset.lif.service = none ∧
      mapOfOthers.getLsbD State.reset.lif.straps.address.val = false ∧
    (Lif.initial ⟨0, 0, false⟩).straps.address = 0 ∧
    (0x0000 : BitVec 16) ≠ frameCheck 1 1 [] ∧ (0x3F : Nat) < (0x40 : Byte).toNat ∧
    ((2 : Byte) ≠ 0 ∧ (2 : Byte).toNat ≠ State.reset.lif.straps.address.val) ∧
    (List.replicate 7 (0xFF : Byte)).length < 8 ∧
    (selectionMap [0xFD, 0xFF, 0xFF, 0xFF, 0xFF, 0xFF, 0xFF, 0xFF]).getLsbD State.reset.lif.straps.address.val = false := by
  decide +kernel

theorem witness_GoodFrameIsItsRequest :
    State.reset.lif.service = none ∧ (Instr.statusPoll .addressed []).request = some ⟨0x01, false, 0, .addressed, []⟩ ∧
      frameForm State.reset.lif.straps 1 0x01 [] = some (.addressed, []) ∧
      frameForm State.reset.lif.straps 0 0x05 [2, 0, 0, 0, 0, 0, 0, 0, 1, 0, 0, 0] = some (.group mapOfOne, [1, 0, 0, 0]) := by
  decide

theorem witness_CharactersMakeFrame :
    State.reset.lif.service = none ∧ State.reset.lif.rx = .hunt ∧ (List.replicate 96 (0 : Byte)).length ≤ 96 := by decide

/-- A receiver that has kept some of a frame, so many ticks ago. -/
def assembling (rx : Rx) (gap : Nat) : State := { State.reset with lif := { State.reset.lif with rx := rx, gapTicks := gap } }

theorem witness_ReceiverKeepsCharacters :
    (serving (oneByte false 0 false)).lif.service ≠ none ∧
    (State.reset.lif.service = none ∧ State.reset.lif.rx = .hunt) ∧
    ((assembling (.header []) 417).lif.rx ≠ .hunt ∧
      4 * 10 * 100000 < (assembling (.header []) 417).lif.gapTicks *
        Config.baud (assembling (.header []) 417).lif.straps.bitRate) ∧
    ((assembling (.header []) 416).lif.gapTicks * Config.baud (assembling (.header []) 416).lif.straps.bitRate ≤
        4 * 10 * 100000 ∧
      (assembling (.header []) 416).lif.rx = .header [] ∧ (assembling (.header [1]) 416).lif.rx = .header [1] ∧
      (assembling (.header [1, 4]) 416).lif.rx = .header [1, 4] ∧
      (assembling (.payload 1 4 1 []) 416).lif.rx = .payload 1 4 1 [] ∧
      (assembling (.check 1 4 [0] none) 416).lif.rx = .check 1 4 [0] none) := by decide

theorem witness_ReplyBeginsAndEnds :
    (serving (oneByte false 209 false)).lif.service = some (oneByte false 209 false) ∧
    2 * 10 * 100000 ≤ (oneByte false 209 false).elapsed * Config.baud State.reset.lif.straps.bitRate ∧
    (oneByte false 208 false).elapsed * Config.baud State.reset.lif.straps.bitRate < 2 * 10 * 100000 ∧
    ((oneByte true 730 false).payload.length + 6) * 10 * 100000 ≤
      (oneByte true 730 false).elapsed * Config.baud State.reset.lif.straps.bitRate := by decide

theorem witness_SilenceAndContact :
    (at' 29999 State.reset).silenceOver = false ∧
    ((silent true .incident).silenceOver = true ∧
      ¬((silent true .incident).rau.regime = .manual ∧ (silent true .incident).rau.fallback = true)) ∧
    ((silent true .manual).silenceOver = true ∧ (silent true .manual).rau.regime = .manual ∧
      (silent true .manual).rau.fallback = true) := by decide

theorem witness_ReadingRequestsAnswered : State.reset.ready ∧ 20 < (21 : Byte).toNat := by decide

theorem witness_FetchTakesOldest : State.reset.ready := by decide

theorem witness_SetTimeLoadsClock :
    State.reset.ready ∧ mapOfOne.getLsbD State.reset.lif.straps.address.val = true := by decide

theorem witness_SetNodeStores : State.reset.ready := by decide

theorem witness_NodeResetActs :
    ((silent false .incident).ready ∧ (silent false .incident).rau.regime = .incident) ∧
    (State.reset.ready ∧ State.reset.rau.regime ≠ .incident) ∧
    ((serving (oneByte true 730 true)).lif.service = some (oneByte true 730 true) ∧
      ((oneByte true 730 true).payload.length + 6) * 10 * 100000 ≤
        (oneByte true 730 true).elapsed * Config.baud (serving (oneByte true 730 true)).lif.straps.bitRate) := by decide

/-- SET CHANNEL's fields for channel 2 as configured. -/
def channelFields : List Byte := 2 :: { coConfig with tempSource := none, crossSource := none }.bytes

theorem witness_SetChannelRestarts :
    (channelFields.length = 42 ∧ u8 channelFields 0 = 2 ∧ optChannel (u8 channelFields 20) = some none ∧
      optChannel (u8 channelFields 21) = some none) ∧
    ((withHead .purging).ready ∧ (withHead .purging).cal.queued 2 = true) ∧
    (withSession.ready ∧ withSession.inSession 2 = true) ∧
    (State.reset.ready ∧ State.reset.cal.queued 2 = false ∧ State.reset.inSession 2 = false ∧
      consistentChannel State.reset 2 (takenChannel (channelFields.drop 1) none none) = true) ∧
    (withChannel coChannel).scn.state = .converting ∧ (withChannel coChannel).scn.visited = some 2 := by decide

/-- SET SCAN's fields for the list 2, 9. -/
def scanFields : List Byte := [2, 2, 9] ++ List.replicate 14 0 ++ [1, 0xE8, 0x03]

theorem witness_ScanRequestsAct :
    (scanFields.length = 20 ∧ readEntries ((scanFields.drop 1).take (min (u8 scanFields 0) 16)) = some [2, 9]) ∧
    (State.reset.ready ∧ State.reset.scn.state = .idle ∧ State.reset.cal.phase.airOn = false ∧
      State.reset.cal.span = none) ∧
    ((withChannel coChannel).ready ∧ (withChannel coChannel).scn.state ≠ .idle) ∧
    (withHead .purging).cal.phase.airOn = true ∧ withSession.cal.span ≠ none := by decide

/-- The scan in a state, its time passed, with channel 2 in the list. -/
def scanning (st : ScanState) : State :=
  let s := withChannel coChannel
  { s with scn := { s.scn with state := st } }

theorem witness_ScanVisitsBegin :
    ((scanning .idle).ready ∧ (0 : Byte).toNat ≤ 15 ∧ (scanning .idle).scn.state = .idle ∧
      (scanning .idle).scn.list[(0 : Byte).toNat]? = some 2 ∧ ((scanning .idle).ch 2).state ≠ .disabled) ∧
    ((15 : Byte).toNat ≤ 15 ∧ (scanning .idle).scn.list.length ≤ (15 : Byte).toNat) ∧
    ((scanning .settling).scn.state = .settling ∧ (scanning .settling).scn.due ≤ (scanning .settling).scn.ticks) ∧
    ((scanning .pausing).scn.state = .pausing ∧ (scanning .pausing).scn.due ≤ (scanning .pausing).scn.ticks ∧
      (scanning .pausing).scn.list[(scanning .pausing).scn.start]? = some 2 ∧
      ((scanning .pausing).ch 2).state ≠ .disabled) ∧
    ((0 : Byte).toNat < (scanning .idle).scn.list.length ∧
      (scanning .pausing).scn.start < (scanning .pausing).scn.list.length ∧
      (scanning .pausing).scn.stopPending = false) := by decide

/-- Channel 2 with so many samples kept, and so many faulty windows behind it. -/
def sampled (n faulty : Nat) : Channel :=
  { coChannel with cfg := { coConfig with liveZero := true }, window := List.replicate n 1474, faulty := faulty }

/-- The scan of the manual's step-by-step pass (chapter 3), at the conversion of entry 3: entry 4 is disabled and skipped, and
entry 0 is visited next, the third visit of the pass after two. -/
theorem test_visit_skips_and_wraps :
    let on (s : State) (c : ChanNo) : State := s.modCh c fun x => { x with state := .noValue, cfg := { x.cfg with enabled := true } }
    let s := on (on (on State.reset 0) 1) 4
    after (exec (.conversionComplete 100) { s with scn := { Scan.initial with
        list := [0, 1, 0, 4, 7], mode := .continuous, pause := 100, state := .converting, start := 2, current := 3, visits := 1,
        begun := true, ticks := 5, due := 5 } }) (fun t => (t.scn.state, t.scn.current, t.scn.visits)) =
      some (.settling, 0, 3) := by decide

theorem witness_SamplesFillWindows :
    ((withChannel (sampled 2 0)).scn.state = .converting ∧
      (withChannel (sampled 2 0)).scn.due ≤ (withChannel (sampled 2 0)).scn.ticks ∧
      (withChannel (sampled 2 0)).scn.visited = some 2 ∧ ((withChannel (sampled 2 0)).ch 2).window.length < 3) ∧
    (((withChannel (sampled 3 0)).ch 2).window.length = 3 ∧
      faultyWindow (sampled 3 0).cfg ((sampled 3 0).window ++ [599]) = true ∧
      faultyWindow (sampled 3 0).cfg ((sampled 3 0).window ++ [4081]) = true ∧ (sampled 3 0).faulty = 0) ∧
    ((sampled 3 1).faulty ≠ 0 ∧ (sampled 3 1).state ≠ .sensorFault) := by decide

theorem witness_GoodWindowPublishes :
    (withChannel (sampled 3 0)).scn.state = .converting ∧
      (withChannel (sampled 3 0)).scn.due ≤ (withChannel (sampled 3 0)).scn.ticks ∧
      (withChannel (sampled 3 0)).scn.visited = some 2 ∧ ((withChannel (sampled 3 0)).ch 2).window.length = 3 ∧
      faultyWindow (sampled 3 0).cfg ((sampled 3 0).window ++ [600]) = false ∧
      faultyWindow (sampled 3 0).cfg ((sampled 3 0).window ++ [4080]) = false ∧
      (withChannel (sampled 3 0)).cal.inPhase 2 .purging = false ∧
      (withChannel (sampled 3 0)).cal.inPhase 2 .accumulating = false ∧
    ((withChannel { sampled 3 2 with state := .sensorFault }).ch 2).state = .sensorFault ∧
    (sampled 3 0).level < publishedLevel (withChannel (sampled 3 0)) 2 (windowSum ((sampled 3 0).window ++ [1474])) ∧
    publishedLevel (withChannel { sampled 3 0 with level := 3 }) 2 (windowSum ((sampled 3 0).window ++ [1474])) < 3 ∧
    ((withChannel (sampled 3 0)).inSession 2 = false ∧ withSession.cal.span = some session ∧ session.channel = 2) ∧
    ((withChannel (sampled 3 0)).rau.regime ≠ .auto ∧ (sampled 3 0).cfg.participates = true ∧
      Channel.initial.cfg.participates = false) := by decide

theorem witness_ArithmeticBounds :
    (16380 : Nat) ≤ 16380 ∧ -4096 ≤ coConfig.zero ∧ coConfig.zero ≤ 4095 ∧ 2048 ≤ coConfig.span ∧ coConfig.span ≤ 8191 ∧
      1 ≤ coConfig.fs ∧ coConfig.fs ≤ 4000 ∧ -2000 ≤ coConfig.base ∧ coConfig.base ≤ 2000 ∧ coConfig.base = 0 ∧
      -200 ≤ coConfig.tc ∧ coConfig.tc ≤ 200 ∧ -500 ≤ coConfig.xs ∧ coConfig.xs ≤ 500 ∧
      ((-2000 : Int) ≤ 6000 ∧ (6000 : Int) ≤ 6000) ∧ ((0 : Int) ≤ 4000 ∧ (4000 : Int) ≤ 4000) := by decide

theorem witness_SmoothingComesToRest :
    coChannel.filterInit = true ∧ coChannel.cfg.smoothing = 1 + 1 ∧
      ({ coChannel with cfg := { coConfig with smoothing := 0 } } : Channel).cfg.smoothing = 0 := by decide

theorem witness_AlarmLevelJudged : coConfig.l1 < coConfig.l2 ∧ coConfig.l2 < coConfig.l3 ∧ 3 ≤ 3 := by decide

/-- Channel 2 enabled and in the scan list, the scan at rest. -/
def ready2 : State := scanning .idle

/-- The same with a kind that is not calibratable. -/
def notCalibratable : State := ready2.setCh 2 { coChannel with cfg := { coConfig with kind := .temperature } }

/-- AUTO with a table of one step. -/
def autoTable (s : State) (threshold : Nat) : State :=
  { s with rau := { s.rau with regime := .auto, steps := [⟨threshold, 4⟩] } }

theorem witness_ZeroQueuesEntry :
    (State.reset.ready ∧ zeroBarred State.reset 2 = true) ∧
    (notCalibratable.ready ∧ zeroBarred notCalibratable 2 = false ∧
      (notCalibratable.ch 2).cfg.kind.calibratable = false) ∧
    (ready2.ready ∧ zeroBarred ready2 2 = false ∧ (ready2.ch 2).cfg.kind.calibratable = true ∧
      ready2.cal.queue = [] ∧ ready2.cal.phase = .none ∧ ready2.fansMoving = false ∧ ready2.rau.regime = .manual) ∧
    ((ready2.setFan 0 (fanIn .coasting 0)).fansMoving = true ∧
      zeroBarred (ready2.setFan 0 (fanIn .coasting 0)) 2 = false) ∧
    ((autoTable ready2 99).rau.regime = .auto ∧ (∀ st ∈ (autoTable ready2 99).rau.steps,
      st.threshold < (autoTable ready2 99).rau.urgentIndex) ∧ zeroBarred (autoTable ready2 99) 2 = false) ∧
    (mapOfOne.getLsbD ready2.lif.straps.address.val = true ∧ allChans.filter (zeroEligible ready2) = [2] ∧
      allChans.filter (zeroEligible State.reset) = []) ∧
    ((ready2.setCh 7 coChannel).cal.queue = [] ∧
      zeroBarred { ready2 with cal := { ready2.cal with queue := [⟨7, .short, true⟩] } } 2 = false) := by decide

/-- Two entries in the queue. -/
def twoQueued : State :=
  let s := withHead .waitingQuiet
  { s with cal := { s.cal with queue := s.cal.queue ++ [⟨7, .short, true⟩] } }

theorem witness_ZeroCancelRemoves :
    (State.reset.ready ∧ State.reset.queueOk ∧ State.reset.cal.queued 9 = false) ∧
    (twoQueued.ready ∧ twoQueued.queueOk ∧ twoQueued.cal.queue = ⟨2, .long, false⟩ :: [⟨7, .short, true⟩] ∧
      twoQueued.cal.queued 7 = true) ∧
    ((withHead .purging).ready ∧ (withHead .purging).queueOk ∧
      (withHead .purging).cal.queue = ⟨2, .long, false⟩ :: []) := by decide

/-- AUTO with channel 2 ACCUMULATING, a fall from 4 that waits, fan 0 waiting with its start due, and an urgent index. -/
def deferring (urgentIndex : Nat) : State :=
  let s := headed .accumulating false (at' 120000 (withFan { fanIn .waitingBudget 1 with startDue := true }))
  { s with rau := { s.rau with
      regime := .auto, steps := [⟨100, 4⟩], step := 1, demand := 4, sought := 2, fallWaiting := true,
      lastChange := some ⟨0, false⟩, urgentIndex := urgentIndex } }

theorem witness_HeadTimersAct :
    ((withHead .purging).cal.phase = .purging ∧
      (withHead .purging).passed (withHead .purging).cal.purgeStart (1000 * (withHead .purging).cal.purgeTime) = true) ∧
    State.reset.cal.phase ≠ .purging ∧
    ((at' 120000 (withHead .accumulating)).queueOk ∧
      (at' 120000 (withHead .accumulating)).cal.queue = ⟨2, .long, false⟩ :: [] ∧
      (at' 120000 (withHead .accumulating)).cal.phase = .accumulating ∧
      (at' 120000 (withHead .accumulating)).passed (at' 120000 (withHead .accumulating)).cal.lastSum 120000 = true) ∧
    ((deferring 250).queueOk ∧ (deferring 250).cal.phase = .accumulating ∧ (deferring 250).rau.regime = .auto ∧
      (deferring 250).passed (deferring 250).cal.lastSum 120000 = true ∧
      (∀ x ∈ (deferring 250).cal.queue, ((deferring 250).ch x.channel).cfg.participates = false) ∧
      ((deferring 250).fan 0).state = some .waitingBudget ∧ ((deferring 250).fan 0).startDue = true ∧
      0 < (deferring 250).rau.effective ((deferring 250).allocatedStage 4 0)) := by decide

/-- The head, with three samples kept and so many sums received. -/
def summing (p : CalPhase) (ty : CalType) (received : Nat) (st : ChanState) : State :=
  let s := (withHead p).modCh 2 fun x => { x with window := [1, 1, 1], state := st }
  { s with cal := { s.cal with queue := [⟨2, ty, false⟩], received := received } }

theorem witness_CalibrationResultsSettled :
    (4095 : Nat) ≤ 4095 ∧ (4095 : Nat) < 4096 ∧
    (((3302 : Nat) : Int) - (ready2.ch 2).cfg.zero).natAbs ≤ (ready2.ch 2).cfg.trimLimit ∧
    (ready2.ch 2).cfg.trimLimit < (((3303 : Nat) : Int) - (ready2.ch 2).cfg.zero).natAbs ∧
    ((summing .purging .long 0 .sensorFault).scn.state = .converting ∧
      (summing .purging .long 0 .sensorFault).scn.due ≤ (summing .purging .long 0 .sensorFault).scn.ticks ∧
      (summing .purging .long 0 .sensorFault).scn.visited = some 2 ∧
      ((summing .purging .long 0 .sensorFault).ch 2).window.length = 3 ∧
      faultyWindow ((summing .purging .long 0 .sensorFault).ch 2).cfg [1, 1, 1, 1] = false ∧
      (summing .purging .long 0 .sensorFault).cal.queue = ⟨2, .long, false⟩ :: []) ∧
    ((summing .purging .long 0 .valid).cal.phase = .purging ∧
      ((summing .purging .long 0 .valid).ch 2).state ≠ .sensorFault) ∧
    ((summing .accumulating .long 14 .valid).cal.phase = .accumulating ∧
      (summing .accumulating .long 14 .valid).cal.received + 1 < 16) ∧
    ((summing .accumulating .long 15 .valid).cal.received + 1 = 16 ∧
      (summing .accumulating .short 3 .valid).cal.received + 1 = 4 ∧ (summing .accumulating .short 3 .valid).queueOk) := by
  decide

theorem witness_SpanEnterOpens :
    (State.reset.ready ∧ spanBarred State.reset 2 = true) ∧
    (notCalibratable.ready ∧ spanBarred notCalibratable 2 = false ∧
      (notCalibratable.ch 2).cfg.kind.calibratable = false) ∧
    (ready2.ready ∧ spanBarred ready2 2 = false ∧ (ready2.ch 2).cfg.kind.calibratable = true) := by decide

theorem witness_SpanStepAndSetWrite :
    (State.reset.ready ∧ State.reset.inSession 2 = false) ∧
    (withSession.ready ∧ withSession.cal.span = some session ∧ session.channel = 2 ∧
      16 = clampNat 1 16 (255 : Byte).toNat ∧
      (6174 : Int) = (session.currentG : Int) + 16 * session.step.size ∧
      ((6174 : Nat) : Int) = clampInt 2048 8191 6174 ∧
      8191 = clampNat 2048 8191 ((0xFF : Byte).toNat + 256 * (0xFF : Byte).toNat)) := by decide

theorem witness_SpanSessionEnds :
    (withSession.cal.span = some session ∧ withSession.ready) ∧
    (at' 1800000 withSession).passed session.lastRequest 1800000 = true ∧
    (at' 1799999 withSession).passed session.lastRequest 1800000 = false := by decide

/-- SET FAN's fields for fan 0, present or not. -/
def fanFields (present : Bool) : List Byte := 0 :: { FanConfig.initial with present := present }.bytes

/-- Fan 0 absent, with the stage it holds in reverse, its reading, its stamps, the regime and the inhibit as given. -/
def joining (stage : Nat) (r : Option Reading) (stamps : List Ms) (g : Regime) (inhibited : Bool) : State :=
  let s := withFan { Fan.initial with
    reqStage := stage, effStage := stage, reqDir := .reverse, reading := r, history := stamps.map fun w => ⟨w, false⟩ }
  { s with rau := { s.rau with regime := g }, inhibit := { s.inhibit with level := inhibited } }

theorem witness_SetFanStores :
    ((fanFields true).length = 22 ∧ u8 (fanFields true) 0 = 0) ∧
    ((withFan (fanIn .running 1)).ready ∧
      fanSetBarred ((withFan (fanIn .running 1)).fan 0).state (decide (u8 (fanFields true) 1 ≠ 0)) = true) ∧
    (State.reset.ready ∧ fanSetBarred (State.reset.fan 0).state (decide (u8 (fanFields true) 1 ≠ 0)) = false ∧
      consistentFan (takenFan ((fanFields true).drop 1)) = true) ∧
    (u8 (fanFields false) 1 = 0 ∧ (State.reset.fan 0).state = none ∧ ((withFan idleFan).fan 0).state ≠ none ∧
      fanSetBarred ((withFan idleFan).fan 0).state (decide (u8 (fanFields false) 1 ≠ 0)) = false) ∧
    3 < u8 (4 :: (fanFields true).drop 1) 0 ∧
    ¬(({ FanConfig.initial with stage2 := 500 } : FanConfig).stage1 <
      ({ FanConfig.initial with stage2 := 500 } : FanConfig).stage2) ∧
    fanSetBarred (some .tripped) true = false ∧ fanSetBarred (some .stopped) true = false ∧
    (idleFan.activeSources = [] ∧ ({ idleFan with overcurrent := true } : Fan).activeSources ≠ []) ∧
    ((joining 1 none [] .manual true).inhibit.level = true ∧ (joining 1 none [] .manual false).inhibit.level = false ∧
      (joining 1 none [] .manual false).rau.short = false) ∧
    (0 < ((joining 1 (some (.period 20269)) [] .manual false).fan 0).effStage ∧
      ((joining 1 (some (.period 20269)) [] .manual false).fan 0).reqDir ≠
        ((joining 1 (some (.period 20269)) [] .manual false).fan 0).dirOut ∧
      aboveCoast idleFan.cfg (some (.period 20269)) = true ∧ aboveCoast idleFan.cfg (some (.period 20270)) = false) ∧
    (((joining 1 none (List.replicate 3 0) .manual false).windowStamps 0).length < idleFan.cfg.budget ∧
      idleFan.cfg.budget ≤ ((joining 1 none (List.replicate 4 0) .manual false).windowStamps 0).length) ∧
    (joining 0 none [] .incident false).rau.regime = .incident := by decide

/-- A fan with a tach count. -/
def counting (x : Fan) (n : Option Nat) : State := withFan { x with tachCount := n }

theorem witness_TachMeasures :
    ((counting idleFan none).fan 0).tachCount = none ∧
    (((counting (fanIn .running 1) (some 65534)).fan 0).tachCount = some 65534 ∧ 65534 < 65535 ∧
      ((counting (fanIn .running 1) (some 65534)).fan 0).state = some .running) ∧
    (((counting (fanIn .running 1) (some 65535)).fan 0).tachCount = some 65535 ∧
      ((counting (fanIn .running 1) (some 65535)).fan 0).state ≠ some .coasting) ∧
    (withinBand idleFan.cfg 1 4378 = true ∧ withinBand idleFan.cfg 1 4379 = false ∧
      ((counting (fanIn .starting 1) (some 4378)).fan 0).state = some .starting ∧
      ((counting (fanIn .changing 1) (some 4379)).fan 0).state = some .changing ∧
      (counting (fanIn .starting 1) (some 4378)).rau.regime ≠ .auto) ∧
    (((counting (fanIn .coasting 0) (some 20270)).fan 0).state = some .coasting ∧ idleFan.cfg.coastPeriod ≤ max 1 20270 ∧
      20269 < idleFan.cfg.coastPeriod ∧ ((counting (fanIn .coasting 0) (some 20270)).fan 0).effStage = 0 ∧
      0 < ((counting (fanIn .coasting 1) (some 20270)).fan 0).effStage ∧
      (counting (fanIn .coasting 1) (some 20270)).rau.regime = .manual ∧
      ((counting (fanIn .coasting 1) (some 20270)).windowStamps 0).length < idleFan.cfg.budget) := by decide

/-- A fan in a state for so many ms, with a reading of that state. -/
def since0 (st : FanState) (stage : Nat) (r : Option Reading) (ms : Nat) : State :=
  at' ms (withFan { fanIn st stage with stateReading := r })

theorem witness_StartAndChangeTimeouts :
    ((since0 .starting 1 (some (.period 5067)) 20000).passed 0
        (1000 * ((since0 .starting 1 (some (.period 5067)) 20000).fan 0).cfg.startTimeout) = true ∧
      ((since0 .starting 1 (some (.period 5067)) 20000).fan 0).state = some .starting ∧
      atLeast80 (fanIn .starting 1).cfg 1 (some (.period 5067)) = true) ∧
    (((since0 .starting 1 (some (.period 5068)) 20000).fan 0).latch = none ∧
      atLeast80 (fanIn .starting 1).cfg 1 (some (.period 5068)) = false ∧
      ((since0 .starting 1 (some (.period 5068)) 20000).fan 0).enabled .stall = true) ∧
    (((since0 .changing 1 none 20000).fan 0).state = some .changing ∧
      (since0 .changing 1 none 20000).passed 0 (1000 * ((since0 .changing 1 none 20000).fan 0).cfg.startTimeout) = true ∧
      (since0 .changing 1 none 20000).rau.regime ≠ .auto) := by decide

/-- A running fan whose stall watch has run out. -/
def stalled (mask : BitVec 4) : State :=
  at' 1000 (withFan { fanIn .running 1 with cfg := { idleFan.cfg with mask := mask }, stallSince := some 0 })

/-- A coasting fan whose budget is spent: four starts within the window. -/
def spent : State :=
  at' 90000 (withFan { fanIn .coasting 1 with history := List.replicate 4 { time := 0, expired := false } })

theorem witness_CoastAndStallEnd :
    (((since0 .coasting 0 none 90000).fan 0).state = some .coasting ∧
      (since0 .coasting 0 none 90000).passed 0 (1000 * ((since0 .coasting 0 none 90000).fan 0).cfg.coastTimeout) = true ∧
      ((since0 .coasting 0 none 90000).fan 0).effStage = 0) ∧
    (0 < ((since0 .coasting 1 none 90000).fan 0).effStage ∧ (since0 .coasting 1 none 90000).rau.regime = .manual ∧
      ((since0 .coasting 1 none 90000).fan 0).holds ((since0 .coasting 1 none 90000).held 0) = true ∧
      ((since0 .coasting 1 none 90000).windowStamps 0).length < ((since0 .coasting 1 none 90000).fan 0).cfg.budget) ∧
    ((spent.fan 0).state = some .coasting ∧ (spent.fan 0).holds (spent.held 0) = true ∧
      (spent.fan 0).cfg.budget ≤ (spent.windowStamps 0).length) ∧
    (((stalled 7).fan 0).state = some .running ∧ ((stalled 7).fan 0).stallSince = some 0 ∧
      (stalled 7).passed 0 1000 = true ∧ ((stalled 7).fan 0).enabled .stall = false) ∧
    (((stalled 8).fan 0).enabled .stall = true ∧ ((stalled 8).fan 0).latch = none) := by decide

/-- A fan waiting on its budget, one stamp aged out and n still in the window. -/
def waiting (n : Nat) : State :=
  at' 3600000 (withFan { fanIn .waitingBudget 1 with
    history := { time := 0, expired := false } :: List.replicate n { time := 1, expired := false } })

/-- The same in a regime, with the head of the calibration queue purging. -/
def waitingIn (r : Regime) : State :=
  { waiting 3 with
    rau := { (waiting 3).rau with regime := r }, cal := { Cal.initial with phase := .purging, queue := [⟨2, .long, false⟩] } }

theorem witness_BudgetRechecked :
    (((waiting 3).fan 0).state = some .waitingBudget ∧ ((waiting 3).fan 0).startDue = false ∧
      ((waiting 3).windowStamps 0).length < ((waiting 3).fan 0).history.length ∧
      ((waiting 3).windowStamps 0).length < ((waiting 3).fan 0).cfg.budget ∧ (waiting 3).rau.regime = .manual) ∧
    (((waitingIn .auto).windowStamps 0).length < ((waitingIn .auto).fan 0).cfg.budget ∧
      (waitingIn .auto).rau.regime = .auto ∧ (waitingIn .auto).heldBack = true) ∧
    (waitingIn .incident).rau.regime = .incident ∧
    (((waiting 4).windowStamps 0).length < ((waiting 4).fan 0).history.length ∧
      ((waiting 4).fan 0).cfg.budget ≤ ((waiting 4).windowStamps 0).length) := by decide

/-- A fan with an input that has stood 50 ms at the other level. -/
def inputChanging (x : Fan) (level : Bool) : State :=
  at' 50 (withFan { x with vibration := ⟨level, !level, some 0⟩, driveFault := ⟨level, !level, some 0⟩ })

theorem witness_TripSourcesAct :
    (((withFan idleFan).fan 0).state.isSome = true ∧ ((withFan idleFan).fan 0).latch = none ∧
      ((withFan idleFan).fan 0).overcurrent = false ∧ ((withFan idleFan).fan 0).enabled .overcurrent = true ∧
      (withFan idleFan).rau.regime ≠ .auto ∧ (withFan idleFan).cal.phase = .none ∧
      availableState ((withFan idleFan).fan 0).state = true) ∧
    (State.reset.fan 0).state = none ∧
    ((inputChanging idleFan true).debounced ((inputChanging idleFan true).fan 0).vibration = true ∧
      ((inputChanging idleFan true).fan 0).vibration = ((inputChanging idleFan true).fan 0).tripInput .vibration ∧
      ((inputChanging idleFan true).fan 0).driveFault = ((inputChanging idleFan true).fan 0).tripInput .driveFault ∧
      ((inputChanging idleFan true).fan 0).vibration.input = true ∧
      ((inputChanging idleFan true).fan 0).state.isSome = true ∧ ((inputChanging idleFan true).fan 0).latch = none ∧
      ((inputChanging idleFan true).fan 0).enabled .vibration = true ∧
      ((inputChanging idleFan true).fan 0).enabled .driveFault = true) ∧
    ((inputChanging idleFan false).debounced ((inputChanging idleFan false).fan 0).driveFault = true ∧
      ((inputChanging idleFan false).fan 0).driveFault.input = false) ∧
    ((headed .purging true (withFan idleFan)).cal.phase.airOn = true ∧
      (headed .purging true (withFan idleFan)).cal.queue = ⟨2, .long, true⟩ :: [] ∧
      ((headed .purging true (withFan idleFan)).fan 0).state ≠ some .tripped ∧
      (headed .purging true (withFan idleFan)).rau.regime ≠ .auto) := by decide

/-- R52, R90: overcurrent of a running fan aborts the purge, the head re-queued with retried yes and purging anew. -/
theorem test_trip_aborts_purge :
    after (exec (.overcurrentChange 0 true) (headed .purging false (withFan (fanIn .running 1))))
      (fun t => (t.cal.queue, t.evq.entries.drop 1)) =
      some ([⟨2, .long, true⟩],
        [⟨0, .fan 0, .fanTrip, some 1, none, false⟩, ⟨0, .cal 2, .calAborted, some 2, some 1, false⟩]) := by decide

/-- A tripped fan, with its overcurrent input as given and a retry due after 10 s. -/
def trippedFan (overcurrent : Bool) : Fan :=
  { fanIn .tripped 0 with latch := some .stall, overcurrent := overcurrent, retryDue := some ⟨0, 10⟩ }

/-- The same with its sources inactive, asked for stage 1 in a direction while it runs down FORWARD. -/
def trippedAsked (dir : Dir) : Fan :=
  { trippedFan false with effStage := 1, reqDir := dir, reading := some (.period 20269) }

theorem witness_TripLatchCleared :
    ((withFan idleFan).ready ∧ ((withFan idleFan).fan 0).latch = none) ∧
    ((withFan (trippedFan true)).ready ∧ ((withFan (trippedFan true)).fan 0).latch ≠ none ∧
      ((withFan (trippedFan true)).fan 0).activeSources ≠ []) ∧
    (((withFan (trippedFan false)).fan 0).latch ≠ none ∧ ((withFan (trippedFan false)).fan 0).activeSources = []) ∧
    ({ withFan (trippedFan false) with inhibit := ⟨true, true, none⟩ } : State).inhibit.level = true ∧
    (((at' 10000 (withFan (trippedFan false))).fan 0).retryDue = some ⟨0, 10⟩ ∧
      (at' 10000 (withFan (trippedFan false))).passed 0 (1000 * 10) = true) ∧
    -- the release: outside AUTO at stage 0, coasting first, starting, and with the budget spent
    ((withFan (trippedFan false)).inhibit.level = false ∧ (withFan (trippedFan false)).rau.regime = .manual ∧
      (withFan (trippedFan false)).rau.short = false ∧ ((withFan (trippedFan false)).fan 0).effStage = 0) ∧
    (0 < (trippedAsked .reverse).effStage ∧ (trippedAsked .reverse).reqDir ≠ (trippedAsked .reverse).dirOut ∧
      (trippedAsked .reverse).reading = some (.period 20269) ∧ 20269 < (trippedAsked .reverse).cfg.coastPeriod) ∧
    ((trippedAsked .forward).reqDir = (trippedAsked .forward).dirOut ∧
      ((withFan (trippedAsked .forward)).windowStamps 0).length < (trippedAsked .forward).cfg.budget) ∧
    ((withFan { trippedAsked .forward with history := List.replicate 4 ⟨0, false⟩ }).windowStamps 0).length =
      (trippedAsked .forward).cfg.budget := by decide

/-- TRIP RESET of a fan asked for the other direction, still turning above its coast threshold: it coasts first (R117, R133). -/
theorem test_trip_reset_coasts_first :
    after (exec (.tripReset .addressed [0]) (withFan (trippedAsked .reverse))) (fun t => (t.fan 0).state) =
      some (some .coasting) := by decide

theorem witness_InputsAndCountsKept :
    true ≠ (State.reset.fan 0).vibration.input ∧ true ≠ (State.reset.fan 0).driveFault.input ∧
    true ≠ ((State.reset.door 0).contacts.get .latch).input ∧
    (((at' 600000 (withFan { fanIn .running 1 with runSince := some 0 })).fan 0).state = some .running ∧
      ((at' 600000 (withFan { fanIn .running 1 with runSince := some 0 })).fan 0).runSince = some 0 ∧
      (at' 600000 (withFan { fanIn .running 1 with runSince := some 0 })).passed 0 600000 = true) := by decide

/-- The OUTPUT INHIBIT input at the other level for 50 ms. -/
def inhibitChanging (x : Fan) (level : Bool) : State := { at' 50 (withFan x) with inhibit := ⟨level, !level, some 0⟩ }

theorem witness_InhibitActsOnFans :
    ((inhibitChanging (fanIn .running 1) true).inhibitHeld ∧
      (inhibitChanging (fanIn .running 1) true).debounced (inhibitChanging (fanIn .running 1) true).inhibit = true ∧
      (inhibitChanging (fanIn .running 1) true).inhibit.input = true ∧
      availableState ((inhibitChanging (fanIn .running 1) true).fan 0).state = true) ∧
    ((inhibitChanging (fanIn .inhibited 1) false).inhibitHeld ∧
      (inhibitChanging (fanIn .inhibited 1) false).debounced (inhibitChanging (fanIn .inhibited 1) false).inhibit = true ∧
      (inhibitChanging (fanIn .inhibited 1) false).inhibit.input = false) ∧
    ((withFan (trippedFan false)).fan 0).state = some .tripped ∧ (State.reset.fan 3).state = none ∧
    ((headed .purging false (inhibitChanging (fanIn .running 1) true)).cal.phase.airOn = true ∧
      (headed .purging false (inhibitChanging (fanIn .running 1) true)).inhibitHeld) := by decide

theorem witness_RegimeEntered :
    (withFan idleFan).ready ∧ (0 : Byte).toNat = 0 ∧ (1 : Byte).toNat = 1 ∧ 2 ≤ (2 : Byte).toNat ∧
      (withHead .purging).queueOk ∧ ((withFan idleFan).fan 0).state.isSome = true ∧
      ((withFan idleFan).fan 1).state = none ∧ (withFan idleFan).cal.phase = .none ∧
      withSession.cal.span = some session ∧ (withHead .purging).cal.phase.airOn = true ∧
      (withHead .purging).cal.queue = ⟨2, .long, false⟩ :: [] ∧
      ((withFan (fanIn .waitingBudget 1)).fan 0).state = some .waitingBudget := by decide

/-- R92, R104, R140: the entry into INCIDENT aborts the head and then starts a fan that waited on its budget. -/
theorem test_incident_aborts_and_starts :
    after (exec (.regime .addressed [2, 0, 0, 1, 1, 2, 0]) (headed .purging false (withFan (fanIn .waitingBudget 1))))
      (fun t => ((t.fan 0).state, t.evq.entries.drop 1)) =
      some (some .starting,
        [⟨0, .node, .regimeChanged, some 2, some 1, false⟩, ⟨0, .cal 2, .calAborted, some 4, some 0, false⟩]) := by decide

theorem witness_FanCommandHandsStage :
    ((silent false .auto).ready ∧ (silent false .auto).rau.regime ≠ .manual) ∧
    ((withFan (fanIn .running 1)).ready ∧ (withFan (fanIn .running 1)).rau.regime = .manual ∧
      ((withFan (fanIn .running 1)).fan 0).state = some .running ∧ ((withFan (fanIn .running 1)).fan 0).effStage ≠ 0 ∧
      ((withFan (fanIn .running 1)).fan 0).holds ((withFan (fanIn .running 1)).held 0) = true ∧
      poweredState ((withFan (fanIn .running 1)).fan 0).state = true) ∧
    ((State.reset.fan 0).state = none ∧ (withFan (fanIn .running 1)).rau.short = false) ∧
    -- the stages and directions that a command can bring, against what the fan holds
    ((⟨1, 1, .forward⟩ : RauFan) = (withFan (fanIn .running 1)).held 0 ∧
      (⟨0, 0, .forward⟩ : RauFan) ≠ (withFan (fanIn .waitingBudget 1)).held 0 ∧
      (⟨2, 1, .forward⟩ : RauFan) ≠ (withFan (fanIn .running 1)).held 0 ∧
      (⟨1, 1, .reverse⟩ : RauFan) ≠ (withFan (fanIn .starting 1)).held 0 ∧
      (⟨2, 2, .forward⟩ : RauFan) ≠ (withFan (fanIn .changing 1)).held 0) ∧
    (((withFan { idleFan with reading := some (.period 20269) }).fan 0).state = some .stopped ∧
      ((withFan { idleFan with reading := some (.period 20269) }).fan 0).dirOut ≠ .reverse ∧
      20269 < idleFan.cfg.coastPeriod ∧ ((withFan idleFan).windowStamps 0).length < idleFan.cfg.budget ∧
      (spent.fan 0).cfg.budget ≤ (spent.windowStamps 0).length) ∧
    -- a move that loads the countdowns, one that does not, and one that aborts a purge
    (movingState ((withFan (fanIn .starting 1)).fan 0).state = true ∧
      after (exec (.fanCommand .addressed [0, 0, 0]) (withFan (fanIn .starting 1))) (fun t => (t.fan 0).state) =
        some (some .stopped) ∧
      movingState ((withFan idleFan).fan 0).state = false ∧
      (headed .purging false (withFan idleFan)).cal.phase.airOn = true ∧
      after (exec (.fanCommand .addressed [0, 1, 0]) (headed .purging false (withFan idleFan))) (fun t => (t.fan 0).state) =
        some (some .starting)) := by decide

/-- SET DEMAND's fields: two steps, with these thresholds. -/
def demandFields (t1 t2 : Byte) : List Byte := [2, t1, 2, t2, 4] ++ List.replicate 8 0 ++ [10]

/-- A fall waiting whose hold has passed. -/
def fallWaits : State :=
  let s := silent false .auto
  { at' 120000 s with rau := { s.rau with fallWaiting := true, demand := 4, sought := 0, lastChange := some ⟨0, false⟩ } }

/-- The same with fan 0 COASTING for a stage that the fall takes back, and a head in WAITING QUIET behind it. -/
def fallBehindCoast : State :=
  let s := fallWaits.setFan 0 (fanIn .coasting 1)
  { s.setHeld 0 ⟨1, 1, .forward⟩ with cal := { Cal.initial with phase := .waitingQuiet, queue := [⟨2, .long, false⟩] } }

theorem witness_DemandSetAndHoldExpires :
    (State.reset.ready ∧ (demandFields 40 70).length = 14 ∧
      ([⟨40, 2⟩, ⟨70, 4⟩] : List DemandStep) = (List.range (min (u8 (demandFields 40 70) 0) 6)).map (fun i =>
        ⟨clampNat 1 250 (u8 (demandFields 40 70) (1 + 2 * i)), clampNat 1 12 (u8 (demandFields 40 70) (2 + 2 * i))⟩) ∧
      (40 < 70 ∧ 2 ≤ 4)) ∧
    ¬(70 < 40) ∧
    (State.reset.rau.regime ≠ .auto ∧ (autoTable State.reset 40).rau.regime = .auto ∧
      (autoTable State.reset 40).cal.phase = .none) ∧
    ((autoTable State.reset 40).rau.demand ≤ 4 ∧ fallWaits.holdPassed = true ∧ (at' 119999 fallWaits).holdPassed = false) ∧
    (fallWaits.rau.regime = .auto ∧ fallWaits.rau.fallWaiting = true ∧ fallWaits.rau.lastChange = some ⟨0, false⟩ ∧
      fallWaits.passed 0 (1000 * fallWaits.rau.autoHold) = true ∧ fallWaits.rau.sought < fallWaits.rau.demand ∧
      fallWaits.calUnmoved fallWaits.rau.sought) ∧
    (fallBehindCoast.rau.fallWaiting = true ∧ fallBehindCoast.rau.sought < fallBehindCoast.rau.demand ∧
      fallBehindCoast.cal.phase = .waitingQuiet ∧ fallBehindCoast.calUnmoved fallBehindCoast.rau.sought ∧
      fallBehindCoast.allocationChanges fallBehindCoast.rau.sought = true) ∧
    -- the deferral: a fall held back, and tables that select no step or an urgent one
    ((deferring 250).ready ∧ (deferring 250).rau.regime = .auto ∧ (deferring 250).cal.phase.airOn = true ∧
      (deferring 250).rau.fallWaiting = true ∧ (deferring 250).rau.sought < (deferring 250).rau.demand ∧
      (deferring 250).passed 0 (1000 * (deferring 250).rau.autoHold) = true ∧ (deferring 250).heldBack = true ∧
      (deferring 250).allocationChanges (deferring 250).rau.sought = true) ∧
    (selectedStep { (deferring 250).rau with steps := [⟨40, 2⟩, ⟨70, 4⟩], dh := 10 } 0 0 = 0 ∧
      selectedStep { (deferring 50).rau with steps := [⟨40, 2⟩, ⟨70, 12⟩], dh := 10 } 80 0 = 2 ∧
      (deferring 50).rau.urgentIndex ≤ 70 ∧ 3 * (allFans.filter (deferring 50).available).length ≤ 12) ∧
    State.reset.rau.regime ≠ .auto := by decide

/-- SET DOOR's fields for door 0, present or not. -/
def doorFields (present : Bool) : List Byte := 0 :: { DoorConfig.initial with present := present }.bytes

/-- Door 0 out of supervision. -/
def absentDoor : Door := { Door.initial with cfg := { DoorConfig.initial with present := false }, state := none }

/-- The same with every contact settled: closed, latched, the feedback released. -/
def leftDoor : Door := { absentDoor with contacts := (doorIn .free true true false false).contacts }

theorem witness_DoorRequestsAct :
    ((doorFields true).length = 9 ∧ u8 (doorFields true) 0 = 0 ∧ optChannel (u8 (doorFields true) 6) = some none) ∧
    ((withDoor absentDoor).ready ∧ u8 (doorFields true) 1 ≠ 0 ∧ ((withDoor absentDoor).door 0).state = none ∧
      ((withDoor absentDoor).door 0).contacts.complete = false) ∧
    ((withDoor (doorIn .secured true true false true)).ready ∧
      ((withDoor (doorIn .secured true true false true)).door 0).state ≠ none ∧
      ((withDoor (doorIn .secured true true false true)).door 0).contacts.complete = true) ∧
    u8 (doorFields false) 1 = 0 ∧
    (1 < u8 (2 :: (doorFields true).drop 1) 0 ∧ (State.reset.ch 5).cfg.kind ≠ .diffPressure) ∧
    (((withDoor leftDoor).door 0).state = none ∧ ((withDoor leftDoor).door 0).contacts.complete = true ∧
      ((withDoor leftDoor).door 0).lock = false ∧ ((withDoor leftDoor).door 0).lockMode = .locked ∧
      (withDoor leftDoor).rau.regime ≠ .incident ∧ ((withDoor leftDoor).door 0).derived = .free) ∧
    ((State.reset.door 0).lockMode = .locked ∧ 2 ≤ (2 : Byte).toNat ∧ (1 : Byte) ≠ 0 ∧
      (withDoor (doorIn .forced false false false true)).buzzerCondition = true) := by decide

/-- A due debounced change of a contact of door 0: the premises of the statement about it. -/
def contactFalls (x : Door) (c : Contact) (level : Bool) : Bool :=
  (changing x c level).contactDue ((changing x c level).door 0) c &&
    (((changing x c level).door 0).contacts.get c).input == level

theorem witness_DoorContactMovesDoor :
    (contactFalls { doorIn .secured true true true true with state := none } .latch false = true ∧
      contactFalls (doorIn .secured true true true true) .latch false = true ∧
      contactFalls (doorIn .free true true true false) .closed false = true ∧
      contactFalls (doorIn .unlatched true false true true) .closed false = true ∧
      contactFalls (doorIn .obstructed true false true true) .closed false = true ∧
      contactFalls (doorIn .unlatched true false true true) .latch true = true ∧
      contactFalls (doorIn .unlatched true false true true) .escapeBar false = true ∧
      contactFalls (doorIn .unlatched true false true true) .reverseHandle true = true ∧
      contactFalls (doorIn .secured true true false true) .lockFeedback false = true ∧
      contactFalls (doorIn .free true true false false) .lockFeedback true = true ∧
      contactFalls (doorIn .opened false true false true) .closed true = true ∧
      openDoor (doorIn .opened false true false true).state = true) ∧
    (contactFalls Door.initial .latch true = true ∧ Door.initial.contacts.complete = false) ∧
    (contactFalls (doorIn .initial true false true true) .latch true = true ∧
      ((doorIn .initial true false true true).contacts.set .latch ⟨true, some true, none⟩).complete = true) ∧
    (contactFalls (doorIn .fault true false false true) .lockFeedback false = true ∧
      ({ doorIn .fault true false false true with
        contacts := (doorIn .fault true false false true).contacts.set .lockFeedback ⟨false, some false, none⟩
        } : Door).disagrees = true) ∧
    (contactFalls (doorIn .fault false true false false) .latch false = true ∧
      (doorIn .fault false false false false).disagrees = false ∧
      (doorIn .fault false false false false).latchWhileOpen = false) ∧
    (at' 2147483647 State.reset).age 0 < 2147483648 := by decide

/-- A door in a state whose timers all began at 0. -/
def timedDoor (st : DoorState) (ms : Nat) : State :=
  at' ms (withDoor { doorIn st true true true true with
    openSince := some 0, barSince := some 0, disagreeSince := some 0, latchOpenSince := none })

theorem witness_DoorTimersMoveDoor :
    (((timedDoor .opened 60000).door 0).state = some .opened ∧ ((timedDoor .opened 60000).door 0).openSince = some 0 ∧
      (timedDoor .opened 60000).passed 0 (1000 * ((timedDoor .opened 60000).door 0).cfg.holdLimit) = true) ∧
    (((timedDoor .unlatched 8000).door 0).state = some .unlatched ∧
      ((timedDoor .unlatched 8000).door 0).barSince = some 0 ∧
      (timedDoor .unlatched 8000).passed 0 (1000 * ((timedDoor .unlatched 8000).door 0).cfg.openWait) = true) ∧
    (((timedDoor .free 2000).door 0).state = some .free ∧ ((timedDoor .free 2000).door 0).disagreeSince = some 0 ∧
      (timedDoor .free 2000).passed 0 2000 = true) ∧
    (timedDoor .opened 59999).holdOver ((timedDoor .opened 59999).door 0) = false ∧
    (timedDoor .unlatched 7999).waitOver ((timedDoor .unlatched 7999).door 0) = false ∧
    (timedDoor .free 1999).faultOver ((timedDoor .free 1999).door 0) = false := by decide

theorem witness_CommandsChangeOnlyTheirParts :
    after (exec (.fanCommand .addressed [0, 1, 0]) (withFan idleFan)) (fun t => (t.fan 0).state) = some (some .starting) := by
  decide

/-! The invariants hold of states in which the part is at work, and a step of each answers a next state. -/

/-- The next command a FAN COMMAND. -/
def commanded0 (s : State) : State := { s with pending := [.fanCommand .addressed [0, 0, 0]] }

/-- A step answers a next state. -/
def goesOn (s : State) : Bool := (after (step s) fun _ => ()).isSome

theorem witness_LineAndQueueKept :
    (commanded0 (assembling (.payload 1 4 96 (List.replicate 95 0)) 5)).lineOk ∧
      (commanded0 (assembling (.payload 1 4 96 (List.replicate 95 0)) 5)).evq.ok ∧
      goesOn (commanded0 (assembling (.payload 1 4 96 (List.replicate 95 0)) 5)) = true := by decide +kernel

theorem witness_FanOutputsKept :
    (commanded0 (withFan (fanIn .running 1))).fansOk ∧ goesOn (commanded0 (withFan (fanIn .running 1))) = true := by decide

theorem witness_CalibrationKept : (commanded0 twoQueued).calOk ∧ goesOn (commanded0 twoQueued) = true := by decide

theorem witness_PurgedAirStaysQuiet :
    (commanded0 (withHead .purging)).queueOk ∧ (commanded0 (withHead .purging)).airQuiet ∧
      (withHead .purging).cal.phase.airOn = true ∧ goesOn (commanded0 (withHead .purging)) = true := by decide

/-- Door 0 FORCED: the buzzer sounds, and the RAU holds the door open condition. -/
def forcedDoor : State :=
  let s := withDoor (doorIn .forced false false false true)
  { s with vestibule := { s.vestibule with buzzer := true }, rau := { s.rau with doorOpen := true } }

theorem witness_DoorOutputsKept : (commanded0 forcedDoor).doorsOk ∧ goesOn (commanded0 forcedDoor) = true := by decide

theorem witness_ChannelBoundsKept : (commanded0 withSession).channelsOk ∧ goesOn (commanded0 withSession) = true := by decide

/-- AUTO with a demand of 4 from the first step of the table. -/
def demandFour : State :=
  { State.reset with rau := { State.reset.rau with
      regime := .auto, steps := [⟨40, 4⟩], step := 1, sought := 4, demand := 4 } }

theorem witness_DemandStepSelected :
    ∃ holds : Nat → Prop, holds 1 ∧ ¬holds 2 ∧
      ∀ n, holds n ↔ ∃ st, 1 ≤ n ∧ demandFour.rau.steps[n - 1]? = some st ∧
        (st.threshold ≤ 40 ∨ (n ≤ 0 ∧ (st.threshold : Int) - demandFour.rau.dh ≤ 40)) :=
  ⟨fun n => ∃ st, 1 ≤ n ∧ demandFour.rau.steps[n - 1]? = some st ∧
      (st.threshold ≤ 40 ∨ (n ≤ 0 ∧ (st.threshold : Int) - demandFour.rau.dh ≤ 40)),
    by simp [demandFour], by simp [demandFour], fun _ => Iff.rfl⟩

theorem witness_AllocationSplitsDemand :
    (3 : Nat) = min 7 (3 * (withFan idleFan).ranking.length) ∧ (1 : Nat) = (3 + 2) / 3 ∧
      (withFan idleFan).available 1 = false := by decide

theorem witness_DemandBoundsStages : (commanded0 demandFour).demandOk ∧ goesOn (commanded0 demandFour) = true := by decide

theorem witness_FansFollowTheirStages :
    (commanded0 (withFan (fanIn .running 1))).fansFollow ∧ goesOn (commanded0 (withFan (fanIn .running 1))) = true := by decide

end Sys2Proof.Tests
end

/-! PROOFS. The requests of the whole node (chapters 1 and 2): a 32-bit word and its four field bytes, what loading the tunnel
clock does, and the statement about SET TIME. -/

section

namespace Sys2Proof.Machine

/-! ### Four field bytes and the word they stand for -/

/-- The bytes of a word, put side by side, weigh 256 times more at each place. -/
theorem toNat_append_bytes (b0 b1 b2 b3 : Byte) :
    (b3 ++ b2 ++ b1 ++ b0 : BitVec 32).toNat =
      b0.toNat + 256 * b1.toNat + 65536 * (b2.toNat + 256 * b3.toNat) := by
  have append_byte : ∀ {n : Nat} (x : BitVec n) (b : Byte), (x ++ b).toNat = x.toNat * 256 + b.toNat := fun x b => by
    rw [BitVec.toNat_append, ← Nat.shiftLeft_add_eq_or_of_lt b.isLt, Nat.shiftLeft_eq]
  rw [append_byte, append_byte, append_byte]
  omega

/-- Four field bytes are read lowest first. -/
theorem u32_bytes (b0 b1 b2 b3 : Byte) : u32 [b0, b1, b2, b3] 0 = b3 ++ b2 ++ b1 ++ b0 := by
  apply BitVec.eq_of_toNat_eq
  have hlt := (b3 ++ b2 ++ b1 ++ b0 : BitVec 32).isLt
  rw [toNat_append_bytes] at hlt ⊢
  simpa [u32, u16, u8] using hlt

/-- Writing a word as four field bytes gives back the bytes it was read from. -/
theorem le32_append_bytes (b0 b1 b2 b3 : Byte) : le32 (b3 ++ b2 ++ b1 ++ b0) = [b0, b1, b2, b3] := by
  have byte_eq : ∀ {n : Nat} {b : Byte}, n % 256 = b.toNat → byte n = b := fun h => BitVec.eq_of_toNat_eq h
  have h0 := b0.isLt
  have h1 := b1.isLt
  have h2 := b2.isLt
  have h3 := b3.isLt
  simp only [le32, toNat_append_bytes, List.cons.injEq, and_true]
  refine ⟨byte_eq ?_, byte_eq ?_, byte_eq ?_, byte_eq ?_⟩ <;> omega

/-! ### SET TIME (R23) -/

/-- What SET TIME leaves of a state: the entry is stamped with the clock just loaded, and its step is taken from the old. -/
theorem setClock_eq (t : Ms) (s : State) :
    setClock t s = { s with
      tb := { s.tb with clock := t, clockPre := 0, clockUnset := false }
      evq := s.evq.push ⟨t, .node, .clockSet, none, some (t - s.tb.clock).toInt, false⟩ } := rfl

/-- The contact of the taking leaves the old clock for SET TIME to load over. -/
theorem setClock_contact (t : Ms) (s : State) :
    setClock t (contact s) = { contact s with
      tb := { s.tb with clock := t, clockPre := 0, clockUnset := false }
      evq := (contact s).evq.push ⟨t, .node, .clockSet, none, some (t - s.tb.clock).toInt, false⟩ } := by
  rw [setClock_eq, contact_tb]

/-- SET TIME of four bytes loads their word, and its reply carries the same bytes back. -/
theorem serveSetTime_bytes (b0 b1 b2 b3 : Byte) (s : State) :
    serveSetTime [b0, b1, b2, b3] s = answer false [b0, b1, b2, b3] (setClock (b3 ++ b2 ++ b1 ++ b0) s) := by
  rw [serveSetTime, u32_bytes, le32_append_bytes]

/-- SET TIME is a request of four bytes with the G mark (R9). -/
theorem exec_setTime (form : Form) (fields : List Byte) (s : State) :
    exec (.setTime form fields) s = .next (takeRequest 0x05 true 4 serveSetTime form fields s) := rfl

/-- Settles O14: both forms serve the request on the state that the contact leaves, and that state holds the old clock. -/
theorem setTimeLoadsClock : Obligations.SetTimeLoadsClock := by
  intro b0 b1 b2 b3 s hready
  have hlength : [b0, b1, b2, b3].length = 4 := rfl
  constructor
  · rw [exec_setTime, takeRequest_served hready hlength (by decide), serveSetTime_bytes, beginService_answer,
      setClock_contact]
    rfl
  · intro map hselected
    have hfits : [b0, b1, b2, b3].length + 8 ≤ 96 := by simp [hlength]
    rw [exec_setTime, takeRequest_group hready hselected hfits, if_pos (by simp), serveSetTime_bytes, ← setClock_contact]
    rfl

end Sys2Proof.Machine

end

/-! PROOFS. The alarm level of a channel (chapter 4): rise and keep are each the greatest level of 0 to 3 at which a condition
stands, and so is the greater of the two. -/

section

namespace Sys2Proof.Machine

/-! ### The greatest level at which a condition stands -/

/-- The alarm levels at which a condition stands; level 0 has no threshold, and needs none. -/
def standingLevels (p : Nat → Prop) : Set Nat := {i | i ≤ 3 ∧ (i ≠ 0 → p i)}

/-- Searching the thresholds from 3 downwards finds the greatest standing level. -/
theorem findGreatest_isGreatest (p : Nat → Prop) [DecidablePred p] :
    IsGreatest (standingLevels p) (Nat.findGreatest p 3) := by
  refine ⟨⟨Nat.findGreatest_le 3, Nat.findGreatest_of_ne_zero rfl⟩, fun i ⟨hle, hstands⟩ => ?_⟩
  by_cases hzero : i = 0
  · omega
  · exact Nat.le_findGreatest hle (hstands hzero)

theorem standingLevels_union (p q : Nat → Prop) :
    standingLevels p ∪ standingLevels q = standingLevels fun i => p i ∨ q i := by
  ext i
  simp only [standingLevels, Set.mem_union, Set.mem_ofPred_eq]
  tauto

/-! ### Rise, keep and the new level (R68) -/

section Thresholds

variable {cfg : ChanConfig} {th : Nat → Int} (h1 : th 1 = cfg.l1) (h2 : th 2 = cfg.l2) (h3 : th 3 = cfg.l3)

include h1 h2 h3

/-- "rise" searches the thresholds for one that the judged amount reaches. -/
theorem riseLevel_eq_findGreatest (a : Int) : riseLevel cfg a = Nat.findGreatest (fun i => th i ≤ a) 3 := by
  simp [riseLevel, Nat.findGreatest_succ, h1, h2, h3]

/-- "keep" searches the levels up to the current one for one that the hysteresis keeps. -/
theorem keepLevel_eq_findGreatest (a : Int) (level : Nat) :
    keepLevel cfg a level = Nat.findGreatest (fun i => i ≤ level ∧ th i - cfg.hyst ≤ a) 3 := by
  simp [keepLevel, Nat.findGreatest_succ, h1, h2, h3]

/-- The new level is the greatest that the judged amount reaches or keeps. -/
theorem judgedLevel_isGreatest (f : Int) (level : Nat) :
    IsGreatest
      (standingLevels fun i => th i ≤ judgedAmount cfg f ∨ (i ≤ level ∧ th i - cfg.hyst ≤ judgedAmount cfg f))
      (judgedLevel cfg f level) := by
  rw [judgedLevel, riseLevel_eq_findGreatest h1 h2 h3, keepLevel_eq_findGreatest h1 h2 h3, ← standingLevels_union]
  exact (findGreatest_isGreatest _).union (findGreatest_isGreatest _)

end Thresholds

/-- Settles O25: the bounds are those of the greatest level. The thresholds' order is not needed, since both searches
go from level 3 downwards. -/
theorem alarmLevelJudged : Obligations.AlarmLevelJudged := by
  intro cfg f level _ _ _ a ha th h1 h2 h3
  obtain rfl : a = judgedAmount cfg f := ha
  obtain ⟨⟨hle, hstands⟩, hgreatest⟩ := judgedLevel_isGreatest h1 h2 h3 f level
  exact ⟨hle, hstands, fun i _ hle hi => hgreatest ⟨hle, fun _ => hi⟩⟩

end Sys2Proof.Machine

end

/-! PROOFS. Zero calibration (chapter 5): what a hand-over can do to the calibration queue and its head, what a good window of
the head leads to, and the statement about the results of LONG and SHORT calibrations. -/

section

namespace Sys2Proof.Machine

/-! ### The end of a visit (R42) -/

theorem beginVisits_eq (n : Nat) (s : State) : beginVisits n s = { s with scn := (beginVisits n s).scn } := by
  induction n generalizing s with
  | zero => rfl
  | succ n ih =>
    rw [beginVisits]
    split
    · rfl
    · split
      · rfl
      · split
        · exact ih { s with scn := s.scn.afterVisit.1 }
        · rfl

/-- The end of a visit moves the scan alone. -/
theorem endVisit_eq (s : State) : endVisit s = { s with scn := (endVisit s).scn } := by
  unfold endVisit
  split
  · exact beginVisits_eq _ { s with scn := s.scn.afterVisit.1 }
  · rfl

/-! ### Hand-overs that leave the calibration unit and the channels alone -/

/-- From s to t neither the calibration unit nor a channel has changed. -/
abbrev CalKept (s t : State) : Prop := t.cal = s.cal ∧ t.channels = s.channels

theorem CalKept.refl (s : State) : CalKept s s := ⟨rfl, rfl⟩

theorem budgetAttempt_calKept (f : FanNo) (s : State) : CalKept s (budgetAttempt f s).1 := by
  simp only [budgetAttempt]
  split <;> exact ⟨rfl, rfl⟩

theorem startAttempt_calKept (f : FanNo) (s : State) : CalKept s (startAttempt f s).1 := by
  simp only [startAttempt]
  split
  · split
    · exact ⟨rfl, rfl⟩
    · exact budgetAttempt_calKept f s
  · exact ⟨rfl, rfl⟩

theorem changeStage_calKept (f : FanNo) (s : State) : CalKept s (changeStage f s).1 := by
  unfold changeStage
  split <;> exact ⟨rfl, rfl⟩

theorem followHandover_calKept (f : FanNo) (eff : Nat) (s : State) : CalKept s (followHandover f eff s).1 := by
  cases h : (s.fan f).state with
  | none => simpa only [followHandover, h] using CalKept.refl s
  | some st =>
    cases st with
    | stopped => simpa only [followHandover, h] using startAttempt_calKept f s
    | waitingBudget =>
      simp only [followHandover, h]
      split_ifs
      · exact ⟨rfl, rfl⟩
      · exact budgetAttempt_calKept f s
      · exact ⟨rfl, rfl⟩
    | starting | changing | running =>
      simp only [followHandover, h]
      split_ifs
      · exact ⟨rfl, rfl⟩
      · exact ⟨rfl, rfl⟩
      · exact changeStage_calKept f s
      · exact ⟨rfl, rfl⟩
    | coasting | tripped | inhibited => simpa only [followHandover, h] using CalKept.refl s

theorem receiveHandover_calKept (f : FanNo) (s : State) : CalKept s (receiveHandover f s).1 :=
  followHandover_calKept f _ (s.modFan f (·.store (s.held f)))

theorem grantStart_calKept (f : FanNo) (s : State) : CalKept s (grantStart f s).1 := by
  unfold grantStart
  split <;> exact ⟨rfl, rfl⟩

theorem reevaluate_calKept (s : State) : CalKept s (reevaluate s).1 := by
  simp only [reevaluate]
  split_ifs <;> exact ⟨rfl, rfl⟩

theorem receiveCalEnd_calKept (c : ChanNo) (s : State) : CalKept s (receiveCalEnd c s).1 := by
  unfold receiveCalEnd
  split <;> exact ⟨rfl, rfl⟩

theorem evaluateShort_calKept (s : State) : CalKept s (evaluateShort s) := by
  unfold evaluateShort
  split_ifs <;> exact ⟨rfl, rfl⟩

theorem giveRole_calKept (f : FanNo) (s : State) : CalKept s (giveRole f s).1 := by
  unfold giveRole
  split <;> exact ⟨rfl, rfl⟩

/-! ### What a hand-over can do to the calibration queue (R82, R83, R90) -/

/-- The moves that a hand-over can make of the calibration queue: none, which leaves every channel's flags and filter mark too;
the next head begins to wait; it begins to purge; or it is lost, and stands at the tail where it had not been retried. -/
inductive CalMove (s t : State) : Prop where
  | kept (hcal : t.cal = s.cal)
      (hmarks : ∀ c : ChanNo, (t.ch c).flags = (s.ch c).flags ∧ (t.ch c).filterInit = (s.ch c).filterInit)
  | waits (hne : s.cal.queue ≠ []) (hqueue : t.cal.queue = s.cal.queue) (hphase : t.cal.phase = .waitingQuiet)
  | purges (hne : s.cal.queue ≠ []) (hqueue : t.cal.queue = s.cal.queue) (hphase : t.cal.phase = .purging)
  | lost (e : CalEntry) (rest : List CalEntry) (hcons : s.cal.queue = e :: rest)
      (hqueue : t.cal.queue = rest ++ if e.retried then [] else [{ e with retried := true }]) (hphase : t.cal.phase = .none)

theorem CalKept.calMove {s t : State} (h : CalKept s t) : CalMove s t :=
  .kept h.1 fun c => by simp [State.ch, h.2]

theorem CalMove.refl (s : State) : CalMove s s := (CalKept.refl s).calMove

theorem quietTest_calMove (s : State) : CalMove s (quietTest s).1 := by
  unfold quietTest
  split
  · exact .refl s
  · next e hhead =>
    split
    · exact .purges (fun hnil => by simp [Cal.head, hnil] at hhead) rfl rfl
    · exact .refl s

theorem nextHead_calMove (s : State) : CalMove s (nextHead s).1 := by
  unfold nextHead
  split
  · exact .refl s
  · next e hhead =>
    split
    · exact .waits (fun hnil => by simp [Cal.head, hnil] at hhead) rfl rfl
    · exact .refl s

theorem quietLost_calMove (s : State) : CalMove s (quietLost s).1 := by
  cases hqueue : s.cal.queue with
  | nil => simpa [quietLost, Cal.head, hqueue] using CalMove.refl s
  | cons e rest =>
    simp only [quietLost, Cal.head, hqueue, List.head?_cons]
    split
    · refine .lost e rest hqueue ?_ rfl
      simp [endCalibration, dropHead, closeCalibration, abortEntry, hqueue]
    · exact .refl s

/-- The load of the countdowns (R52) leaves the marks of every channel. -/
theorem loadCountdowns_marks (c : ChanNo) (s : State) :
    ((loadCountdowns s).ch c).flags = (s.ch c).flags ∧ ((loadCountdowns s).ch c).filterInit = (s.ch c).filterInit := by
  have hload : (loadCountdowns s).ch c = (s.ch c).loadCountdown := by simp [State.ch, loadCountdowns]
  rw [hload, Channel.loadCountdown]
  split <;> exact ⟨rfl, rfl⟩

/-- A move that follows the load of the countdowns is a move from the state before it. -/
theorem CalMove.of_loadCountdowns {s t : State} (h : CalMove (loadCountdowns s) t) : CalMove s t := by
  cases h with
  | kept hcal hmarks =>
    refine .kept hcal fun c => ?_
    obtain ⟨hflags, hfilter⟩ := loadCountdowns_marks c s
    rw [← hflags, ← hfilter]
    exact hmarks c
  | waits hne hqueue hphase => exact .waits hne hqueue hphase
  | purges hne hqueue hphase => exact .purges hne hqueue hphase
  | lost e rest hcons hqueue hphase => exact .lost e rest hcons hqueue hphase

theorem calHears_calMove (before after : Option FanState) (s : State) : CalMove s (calHears before after s).1 := by
  unfold calHears
  split
  · exact quietLost_calMove s
  · exact .refl s

theorem fanMoved_calMove (before after : Option FanState) (s : State) : CalMove s (fanMoved before after s).1 := by
  simp only [fanMoved]
  split
  · exact (calHears_calMove before after _).of_loadCountdowns
  · exact calHears_calMove before after s

/-- Every hand-over makes one of these moves. -/
theorem perform_calMove (w : Work) (s : State) : CalMove s (perform w s).1 := by
  cases w with
  | fanMoved f before after => exact fanMoved_calMove before after s
  | startAttempt f => exact (startAttempt_calKept f s).calMove
  | handFan f =>
    simp only [perform]
    split
    · exact .refl s
    · exact (receiveHandover_calKept f s).calMove
  | handRegime f => exact (receiveHandover_calKept f s).calMove
  | calEnded c => exact (receiveCalEnd_calKept c s).calMove
  | nextHead => exact nextHead_calMove s
  | quietTest => exact quietTest_calMove s
  | reevaluate => exact (reevaluate_calKept s).calMove
  | giveRole f => exact (giveRole_calKept f s).calMove
  | demandShort => exact (evaluateShort_calKept s).calMove
  | grant f => exact (grantStart_calKept f s).calMove
  | contribution c | reform | availability | grantDue => exact CalKept.calMove ⟨rfl, rfl⟩

/-! ### What the hand-overs of a command keep of the calibration queue -/

theorem CalMove.phase_ne_accumulating {s t : State} (h : CalMove s t) (hs : s.cal.phase ≠ .accumulating) :
    t.cal.phase ≠ .accumulating := by
  cases h with
  | kept hcal => rwa [hcal]
  | waits _ _ hphase | purges _ _ hphase | lost _ _ _ _ hphase => simp [hphase]

/-- No hand-over ends a purge: only its timer does (R84). -/
theorem run_phase_ne_accumulating (ws : List Work) {s : State} (hs : s.cal.phase ≠ .accumulating) :
    (run ws s).cal.phase ≠ .accumulating :=
  run_keeps (fun t => t.cal.phase ≠ .accumulating) (fun w t => (perform_calMove w t).phase_ne_accumulating) ws s hs

theorem CalMove.queued_eq_false {s t : State} {c : ChanNo} (h : CalMove s t) (hs : s.cal.queued c = false) :
    t.cal.queued c = false := by
  cases h with
  | kept hcal => rwa [hcal]
  | waits _ hqueue | purges _ hqueue => rwa [Cal.queued, hqueue]
  | lost e rest hcons hqueue =>
    simp only [Cal.queued, hcons, hqueue, List.any_cons, List.any_append, Bool.or_eq_false_iff] at hs ⊢
    obtain ⟨he, hrest⟩ := hs
    refine ⟨hrest, ?_⟩
    split
    · rfl
    · simpa using he

/-- No hand-over queues a channel. -/
theorem run_queued_eq_false (ws : List Work) {s : State} {c : ChanNo} (hs : s.cal.queued c = false) :
    (run ws s).cal.queued c = false :=
  run_keeps (fun t => t.cal.queued c = false) (fun w t => (perform_calMove w t).queued_eq_false) ws s hs

/-- The CAL is IDLE, and the channel is left as an ending leaves it (R89). -/
def State.calIdle (s : State) (c : ChanNo) : Prop :=
  s.cal.queue = [] ∧ s.cal.phase = .none ∧ s.cal.valve = false ∧ (s.ch c).flags.calibrating = false ∧
    (s.ch c).filterInit = false

theorem CalMove.calIdle {s t : State} {c : ChanNo} (h : CalMove s t) (hs : s.calIdle c) : t.calIdle c := by
  cases h with
  | kept hcal hmarks =>
    obtain ⟨hflags, hfilter⟩ := hmarks c
    simpa only [State.calIdle, hcal, hflags, hfilter] using hs
  | waits hne | purges hne => exact absurd hs.1 hne
  | lost e rest hcons => simp [hs.1] at hcons

/-- No hand-over gives an IDLE CAL work. -/
theorem run_calIdle (ws : List Work) {s : State} {c : ChanNo} (hs : s.calIdle c) : (run ws s).calIdle c :=
  run_keeps (fun t => t.calIdle c) (fun w t => (perform_calMove w t).calIdle) ws s hs

/-! ### Results and the ending (R85–R89) -/

@[simp] theorem longResult_queue (c : ChanNo) (zt : Nat) (s : State) : (longResult c zt s).cal.queue = s.cal.queue := by
  unfold longResult
  split <;> rfl

@[simp] theorem shortResult_queue (c : ChanNo) (zt : Nat) (s : State) : (shortResult c zt s).cal.queue = s.cal.queue := by
  simp only [shortResult]
  split_ifs <;> rfl

theorem longResult_done {zt : Nat} (h : zt ≤ 4095) (c : ChanNo) (s : State) :
    longResult c zt s = calEntry c .calDone zt
      { setZero c zt s with cal := { s.cal with longDone := s.cal.longDone.set c true } } := if_pos h

theorem longResult_failed {zt : Nat} (h : 4095 < zt) (c : ChanNo) (s : State) :
    longResult c zt s = calEntry c .calFailed zt s := if_neg (by omega)

theorem shortResult_failed {zt : Nat} (h : 4095 < zt) (c : ChanNo) (s : State) :
    shortResult c zt s = calEntry c .calFailed zt s := if_pos h

section Trim

variable {c : ChanNo} {zt : Nat} {s : State} {d : Int} (hd : d = (zt : Int) - (s.ch c).cfg.zero) (h : zt ≤ 4095)

include hd h

theorem shortResult_within (hlim : d.natAbs ≤ (s.ch c).cfg.trimLimit) :
    shortResult c zt s = calEntry c .calDone zt (setZero c zt s) := by
  subst hd
  rw [shortResult, if_neg (by omega), if_pos (by omega)]

theorem shortResult_drift (hlim : (s.ch c).cfg.trimLimit < d.natAbs) {z : Int}
    (hz : z = if 0 < d then (s.ch c).cfg.zero + (s.ch c).cfg.trimLimit
      else (s.ch c).cfg.zero - (s.ch c).cfg.trimLimit) :
    shortResult c zt s = calEntry c .calDone z (calEntry c .calDrift d (setZero c z s)) := by
  subst hd hz
  rw [shortResult, if_neg (by omega), if_neg (by omega)]

end Trim

theorem CalType.sums_eq (t : CalType) : t.sums = if t = .long then 16 else 4 := by cases t <;> rfl

/-- The result that the type of the head gives. -/
theorem finishCalibration_eq (e : CalEntry) (total : Nat) (s : State) :
    finishCalibration e total s = endCalibration e.channel []
      (if e.type = .long then longResult e.channel (targetZero total e.type) s
        else shortResult e.channel (targetZero total e.type) s) := by
  unfold finishCalibration
  cases e.type <;> rfl

theorem endCalibration_queue (c : ChanNo) (s : State) : (endCalibration c [] s).1.cal.queue = s.cal.queue.drop 1 := by
  simp [endCalibration, dropHead, closeCalibration]

theorem endCalibration_calIdle (c : ChanNo) {s : State} (hqueue : s.cal.queue.drop 1 = []) :
    (endCalibration c [] s).1.calIdle c := by
  refine ⟨(endCalibration_queue c s).trans hqueue, rfl, rfl, ?_, ?_⟩ <;>
    simp [endCalibration, dropHead, closeCalibration, Channel.setCalibrating, State.ch, State.modCh, State.setCh]

/-! ### States that agree but for some components -/

theorem sameBut.mono {ps qs : List Part} {s t : State} (h : sameBut ps s t) (hsub : ps ⊆ qs) : sameBut qs s t :=
  fun p hp => h p fun hmem => hp (hsub hmem)

theorem Part.same.trans {p : Part} {s t u : State} (h : p.same s t) (k : p.same t u) : p.same s u := by
  cases p <;> exact Eq.trans k h

theorem sameBut.trans {ps : List Part} {s t u : State} (h : sameBut ps s t) (k : sameBut ps t u) : sameBut ps s u :=
  fun p hp => (h p hp).trans (k p hp)

theorem endVisit_sameBut (s : State) : sameBut [.scn] s (endVisit s) := by
  intro p hp
  rw [endVisit_eq]
  cases p with
  | scn => exact absurd (by decide) hp
  | _ => rfl

theorem setCh_sameBut (c : ChanNo) (x : Channel) (s : State) : sameBut [.channels] s (s.setCh c x) := by
  intro p hp
  cases p with
  | channels => exact absurd (by decide) hp
  | _ => rfl

theorem setCal_sameBut (k : Cal) (s : State) : sameBut [.cal] s { s with cal := k } := by
  intro p hp
  cases p with
  | cal => exact absurd (by decide) hp
  | _ => rfl

theorem recoverChannel_sameBut (c : ChanNo) (s : State) : sameBut [.evq, .channels] s (recoverChannel c s) := by
  intro p hp
  cases p with
  | evq | channels => exact absurd (by decide) hp
  | _ => rfl

/-! ### A good window of the head (R45, R47, R84, R85) -/

@[simp] theorem State.setCh_setCh (s : State) (c : ChanNo) (x y : Channel) : (s.setCh c x).setCh c y = s.setCh c y := by
  simp [State.setCh]

theorem Cal.inPhase_head {k : Cal} {e : CalEntry} {rest : List CalEntry} (hqueue : k.queue = e :: rest) (p : CalPhase) :
    k.inPhase e.channel p = (k.phase == p) := by
  simp [Cal.inPhase, Cal.head, hqueue]

/-- Outside ACCUMULATING a window of the head is discarded (R84). -/
theorem routeHead_discards {s : State} (h : s.cal.phase ≠ .accumulating) (c : ChanNo) (w : Nat) :
    routeHead c w s = (s, []) := by
  unfold routeHead
  split
  · rfl
  · next e hhead => simp [Cal.inPhase, hhead, h]

/-- In ACCUMULATING its sum goes to the CAL (R85). -/
theorem routeHead_accumulating {e : CalEntry} {rest : List CalEntry} {s : State} (hqueue : s.cal.queue = e :: rest)
    (h : s.cal.phase = .accumulating) (w : Nat) : routeHead e.channel w s = receiveSum e w s := by
  simp [routeHead, Cal.inPhase, Cal.head, hqueue, h]

/-- The calibration unit with a further window sum taken (R85). -/
def Cal.summed (k : Cal) (w : Nat) (now : Ms) : Cal :=
  { k with received := k.received + 1, total := k.total + w, lastSum := now }

theorem receiveSum_goesOn {e : CalEntry} {w : Nat} {s : State} {k : Cal} (hk : k = s.cal.summed w s.tb.uptime)
    (hmore : k.received < e.type.sums) : receiveSum e w s = ({ s with cal := k }, []) := by
  subst hk
  exact if_neg hmore.not_ge

theorem receiveSum_finishes {e : CalEntry} {w : Nat} {s : State} {k : Cal} (hk : k = s.cal.summed w s.tb.uptime)
    (hlast : k.received = e.type.sums) : receiveSum e w s = finishCalibration e k.total { s with cal := k } := by
  subst hk
  exact if_pos hlast.ge

theorem exec_conversionComplete (code : Code) (s : State) :
    exec (.conversionComplete code) s = .next (converted code s) := rfl

section HeadWindow

variable {code : Code} {e : CalEntry} {rest : List CalEntry} {s : State}
  (hconverting : s.scn.state = .converting) (hdue : s.scn.due ≤ s.scn.ticks)
  (hvisited : s.scn.visited = some e.channel) (hlength : (s.ch e.channel).window.length = 3)
  (hgood : faultyWindow (s.ch e.channel).cfg ((s.ch e.channel).window ++ [code]) = false)
  (hqueue : s.cal.queue = e :: rest)

include hconverting hdue hvisited hlength hgood

/-- A conversion that completes a good window: the window is routed, and the visit ends. -/
theorem exec_conversionComplete_good :
    exec (.conversionComplete code) s = .next (endVisit (goodWindowDone e.channel
      (windowSum ((s.ch e.channel).window ++ [code])) (s.setCh e.channel { s.ch e.channel with window := [] }))) := by
  have hover : s.conversionOver = true := by simp [State.conversionOver, hconverting, hdue]
  simp [exec_conversionComplete, converted, hover, sampleTaken, hvisited, takeSample, hlength, windowDone, hgood]

include hqueue

/-- In PURGING a head in SENSOR FAULT recovers, and its recovery is handed on. No hand-over begins ACCUMULATING, so the window
goes to no one, whatever becomes of the head (assumption 24). -/
theorem exec_conversionComplete_recovers (hphase : s.cal.phase = .purging)
    (hfault : (s.ch e.channel).state = .sensorFault) :
    exec (.conversionComplete code) s = .next (endVisit (handRecovery true e.channel
      (recoverChannel e.channel (s.setCh e.channel { s.ch e.channel with window := [] })))) := by
  rw [exec_conversionComplete_good hconverting hdue hvisited hlength hgood]
  generalize hemptied : s.setCh e.channel { s.ch e.channel with window := [] } = r
  have hstill : (handRecovery true e.channel (recoverChannel e.channel r)).cal.phase ≠ .accumulating :=
    run_phase_ne_accumulating _ (by simp [← hemptied, recoverChannel, hphase])
  have hunder : r.underCalibration e.channel = true := by
    simp [← hemptied, State.underCalibration, Cal.inPhase_head hqueue, hphase]
  have hfault' : (r.ch e.channel).state = .sensorFault := by simp [← hemptied, hfault]
  simp [goodWindowDone, hunder, goodWindowFirst, hfault', routeHead_discards hstill]

/-- A head that is not in SENSOR FAULT has its faulty-window count cleared, and its sum is routed. -/
theorem exec_conversionComplete_routes (hphase : s.cal.phase = .purging ∨ s.cal.phase = .accumulating)
    (hfault : (s.ch e.channel).state ≠ .sensorFault) :
    exec (.conversionComplete code) s = .next (endVisit (runEffect (routeHead e.channel
      (windowSum ((s.ch e.channel).window ++ [code]))
      (s.setCh e.channel { s.ch e.channel with window := [], faulty := 0 })))) := by
  rw [exec_conversionComplete_good hconverting hdue hvisited hlength hgood]
  have hunder : (s.setCh e.channel { s.ch e.channel with window := [] }).underCalibration e.channel = true := by
    simpa [State.underCalibration, Cal.inPhase_head hqueue] using hphase
  simp [goodWindowDone, hunder, goodWindowFirst, hfault, handRecovery]

/-- In PURGING the sum of a head that is not in SENSOR FAULT is discarded (R84). -/
theorem exec_conversionComplete_discards (hphase : s.cal.phase = .purging)
    (hfault : (s.ch e.channel).state ≠ .sensorFault) :
    exec (.conversionComplete code) s =
      .next (endVisit (s.setCh e.channel { s.ch e.channel with window := [], faulty := 0 })) := by
  rw [exec_conversionComplete_routes hconverting hdue hvisited hlength hgood hqueue (.inl hphase) hfault,
    routeHead_discards (by simp [hphase]), runEffect_nil]

variable {k : Cal} (hk : k = s.cal.summed (windowSum ((s.ch e.channel).window ++ [code])) s.tb.uptime)

include hk

/-- In ACCUMULATING it is added to the total (R85). -/
theorem exec_conversionComplete_sums (hphase : s.cal.phase = .accumulating)
    (hfault : (s.ch e.channel).state ≠ .sensorFault) (hmore : k.received < e.type.sums) :
    exec (.conversionComplete code) s = .next (endVisit
      { s.setCh e.channel { s.ch e.channel with window := [], faulty := 0 } with cal := k }) := by
  rw [exec_conversionComplete_routes hconverting hdue hvisited hlength hgood hqueue (.inr hphase) hfault,
    routeHead_accumulating (by exact hqueue) (by exact hphase), receiveSum_goesOn (by exact hk) hmore, runEffect_nil]

/-- The last sum of an entry finishes its calibration (R86). -/
theorem exec_conversionComplete_finishes (hphase : s.cal.phase = .accumulating)
    (hfault : (s.ch e.channel).state ≠ .sensorFault) (hlast : k.received = e.type.sums) :
    exec (.conversionComplete code) s = .next (endVisit (runEffect (finishCalibration e k.total
      { s.setCh e.channel { s.ch e.channel with window := [], faulty := 0 } with cal := k }))) := by
  rw [exec_conversionComplete_routes hconverting hdue hvisited hlength hgood hqueue (.inr hphase) hfault,
    routeHead_accumulating (by exact hqueue) (by exact hphase), receiveSum_finishes (by exact hk) hlast]

end HeadWindow

/-! ### What the end of the visit leaves to be read -/

@[simp] theorem ch_endVisit (s : State) (c : ChanNo) : (endVisit s).ch c = s.ch c := by rw [endVisit_eq]; rfl

@[simp] theorem endVisit_cal (s : State) : (endVisit s).cal = s.cal := by rw [endVisit_eq]

@[simp] theorem endVisit_evq (s : State) : (endVisit s).evq = s.evq := by rw [endVisit_eq]

theorem HandedOn.setScn {s t : State} (h : HandedOn s t) (k : Scan) :
    HandedOn { s with scn := k } { t with scn := k } :=
  ⟨congrArg (fun u : State => { u with scn := k }) h.1, h.2⟩

/-- What an act hands on before the visit ends, it hands on beside the scan. -/
theorem handedOn_endVisit {s t : State} (h : HandedOn s t) :
    HandedOn { s with scn := (endVisit t).scn } (endVisit t) := by
  conv_rhs => rw [endVisit_eq]
  exact h.setScn _

/-- With its last sum taken, the head's result is given, and its ending handed on (R85, R86, R89). -/
theorem finishCalibration_ends (e : CalEntry) (total : Nat) {s : State} {rest : List CalEntry}
    (hqueue : s.cal.queue = e :: rest) (hnodup : (s.cal.queue.map (·.channel)).Nodup) :
    HandedOn (if e.type = .long then longResult e.channel (targetZero total e.type) s
        else shortResult e.channel (targetZero total e.type) s) (runEffect (finishCalibration e total s)) ∧
      (runEffect (finishCalibration e total s)).cal.queued e.channel = false ∧
      (rest = [] → (runEffect (finishCalibration e total s)).calIdle e.channel) := by
  rw [finishCalibration_eq]
  generalize hresult : (if e.type = .long then longResult e.channel (targetZero total e.type) s
    else shortResult e.channel (targetZero total e.type) s) = r
  have hrest : r.cal.queue.drop 1 = rest := by
    rw [← hresult]
    split <;> simp [hqueue]
  have hgone : (endCalibration e.channel [] r).1.cal.queued e.channel = false := by
    simp only [hqueue, List.map_cons, List.nodup_cons, List.mem_map, not_exists, not_and] at hnodup
    simpa [Cal.queued, endCalibration_queue, hrest] using hnodup.1
  exact ⟨(endCalibration_handedOn e.channel [] r).trans (runEffect_handedOn _), run_queued_eq_false _ hgone,
    fun hnil => run_calIdle _ (endCalibration_calIdle e.channel (hrest.trans hnil))⟩

/-- Settles O29: a hand-over never begins ACCUMULATING, never queues a channel, and leaves an IDLE CAL idle. -/
theorem calibrationResultsSettled : Obligations.CalibrationResultsSettled := by
  refine ⟨fun c zt s => ⟨fun h => longResult_done h c s, fun h => ⟨longResult_failed h c s, shortResult_failed h c s⟩,
    fun d hd hzt => ⟨shortResult_within hd hzt, fun hlim z hz => shortResult_drift hd hzt hlim hz⟩⟩, ?_⟩
  rintro code e rest _ s hconverting hdue hvisited hlength hgood hqueue rfl
  refine ⟨fun hphase hfault => ?_, fun hfault k n hn hk => ?_⟩
  · have hhanded := handRecovery_handedOn true e.channel
      (recoverChannel e.channel (s.setCh e.channel { s.ch e.channel with window := [] }))
    refine ⟨_, exec_conversionComplete_recovers hconverting hdue hvisited hlength hgood hqueue hphase hfault, ?_, ?_, ?_⟩
    · rw [ch_endVisit, hhanded.ch]
      simp [recoverChannel]
    · exact ((setCh_sameBut _ _ s).mono (by decide)).trans <|
        ((recoverChannel_sameBut _ _).mono (by decide)).trans <|
        (hhanded.sameBut.mono (by decide)).trans ((endVisit_sameBut _).mono (by decide))
    · rw [endVisit_evq]
      exact hhanded.2
  · obtain rfl : n = e.type.sums := hn.trans e.type.sums_eq.symm
    refine ⟨fun hphase => ?_, fun hphase hmore => ?_, fun hphase hlast hok zt u hzt hu => ?_⟩
    · refine ⟨_, exec_conversionComplete_discards hconverting hdue hvisited hlength hgood hqueue hphase hfault, by simp,
        fun j hj => by rw [ch_endVisit, State.ch_setCh_other _ _ _ _ hj], ?_⟩
      exact ((setCh_sameBut _ _ s).mono (by decide)).trans ((endVisit_sameBut _).mono (by decide))
    · refine ⟨_, exec_conversionComplete_sums hconverting hdue hvisited hlength hgood hqueue hk hphase hfault hmore,
        endVisit_cal _, by rw [ch_endVisit]; exact State.ch_setCh_same .., fun j hj => by
          rw [ch_endVisit]; exact State.ch_setCh_other _ _ _ _ hj, ?_⟩
      exact ((setCh_sameBut _ _ s).mono (by decide)).trans <|
        ((setCal_sameBut k _).mono (by decide)).trans ((endVisit_sameBut _).mono (by decide))
    · subst hzt hu
      obtain ⟨hnodup, -⟩ := hok
      have hkqueue : k.queue = s.cal.queue := by rw [hk]
      obtain ⟨hhanded, hgone, hidle⟩ := finishCalibration_ends e k.total
        (s := { s.setCh e.channel { s.ch e.channel with window := [], faulty := 0 } with cal := k })
        (hkqueue.trans hqueue) (by rw [hkqueue]; exact hnodup)
      refine ⟨_, exec_conversionComplete_finishes hconverting hdue hvisited hlength hgood hqueue hk hphase hfault hlast,
        handedOn_endVisit hhanded, by rw [endVisit_cal]; exact hgone, fun hnil => ?_⟩
      obtain ⟨-, hnone, hvalve, hflag, hfilter⟩ := hidle hnil
      rw [endVisit_cal, ch_endVisit]
      exact ⟨hnone, hvalve, hflag, hfilter⟩

end Sys2Proof.Machine

end

/-! PROOFS. The ranking of the fans and the split of a demand over it (chapter 9): the ranking is an insertion sort by one
lexicographic key, and the stages of its first places add up to a closed form. -/

section

namespace Sys2Proof.Machine

/-! ### The ranking (R159) -/

/-- What a fan is ranked by: its class, in classes 2 and 3 its in-window stamps, and its number. -/
def State.rankKey (s : State) (f : FanNo) : Nat ×ₗ Nat ×ₗ FanNo :=
  toLex (s.rankClass f, toLex (if s.rankClass f = 1 then 0 else (s.windowStamps f).length, f))

theorem State.rankKey_injective (s : State) : Function.Injective s.rankKey := fun _ _ h =>
  congrArg (fun k => (ofLex (ofLex k).2).2) h

theorem State.rankedBefore_iff (s : State) (f g : FanNo) : s.rankedBefore f g = true ↔ s.rankKey f ≤ s.rankKey g := by
  simp only [State.rankedBefore, State.rankKey, Prod.Lex.toLex_le_toLex]
  by_cases hclass : s.rankClass f = s.rankClass g
  · by_cases hone : s.rankClass g = 1
    · simp [hclass, hone]
    · by_cases hstamps : (s.windowStamps f).length = (s.windowStamps g).length <;> simp [hclass, hone, hstamps]
  · simp [hclass]

theorem insertRanked_eq_orderedInsert (s : State) (f : FanNo) (l : List FanNo) :
    insertRanked s f l = l.orderedInsert (fun f g => s.rankKey f ≤ s.rankKey g) f := by
  induction l with
  | nil => rfl
  | cons g rest ih => simp only [insertRanked, List.orderedInsert_cons, s.rankedBefore_iff, ih]

theorem State.ranking_eq_insertionSort (s : State) :
    s.ranking = (allFans.filter s.available).insertionSort fun f g => s.rankKey f ≤ s.rankKey g := by
  rw [State.ranking, List.insertionSort]
  congr
  funext f l
  exact insertRanked_eq_orderedInsert s f l

theorem State.ranking_perm (s : State) : s.ranking.Perm (allFans.filter s.available) := by
  rw [s.ranking_eq_insertionSort]
  exact List.perm_insertionSort _ _

theorem State.ranking_nodup (s : State) : s.ranking.Nodup :=
  s.ranking_perm.nodup_iff.mpr ((by decide : allFans.Nodup).filter _)

theorem State.mem_ranking {s : State} {f : FanNo} : f ∈ s.ranking ↔ s.available f = true := by
  rw [s.ranking_perm.mem_iff, List.mem_filter, and_iff_right (by decide +revert)]

theorem State.ranking_pairwise (s : State) : s.ranking.Pairwise fun f g => s.rankKey f < s.rankKey g := by
  have hle : s.ranking.Pairwise fun f g => s.rankKey f ≤ s.rankKey g := by
    have : Std.Total fun f g => s.rankKey f ≤ s.rankKey g := ⟨fun f g => le_total _ _⟩
    have : IsTrans FanNo fun f g => s.rankKey f ≤ s.rankKey g := ⟨fun _ _ _ => le_trans⟩
    rw [s.ranking_eq_insertionSort]
    exact List.pairwise_insertionSort _ _
  exact hle.imp₂ (fun _ _ hle hne => lt_of_le_of_ne hle (s.rankKey_injective.ne hne)) s.ranking_nodup

theorem State.rankKey_lt_iff {s : State} {f g : FanNo} : s.rankKey f < s.rankKey g ↔
    s.rankClass f < s.rankClass g ∨ (s.rankClass f = s.rankClass g ∧
      ((s.rankClass f = 1 ∧ f < g) ∨ (s.rankClass f ≠ 1 ∧
        ((s.windowStamps f).length < (s.windowStamps g).length ∨
          ((s.windowStamps f).length = (s.windowStamps g).length ∧ f < g))))) := by
  simp only [State.rankKey, Prod.Lex.toLex_lt_toLex]
  refine or_congr_right (and_congr_right fun hclass => ?_)
  by_cases hone : s.rankClass g = 1 <;> simp [hclass, hone]

theorem poweredState_iff {x : Option FanState} :
    poweredState x = true ↔ x = some .starting ∨ x = some .changing ∨ x = some .running := by
  rcases x with _ | x
  · simp [poweredState]
  · cases x <;> simp [poweredState]

theorem State.rankClass_eq (s : State) (f : FanNo) : s.rankClass f =
    if ((s.fan f).state = some .starting ∨ (s.fan f).state = some .changing ∨ (s.fan f).state = some .running) ∧
        (s.fan f).dirOut = s.rau.autoDir then 1
    else if (s.windowStamps f).length < (s.fan f).cfg.budget then 2 else 3 := by
  simp only [State.rankClass, Bool.and_eq_true, poweredState_iff, beq_iff_eq]

/-! ### The split of a demand (R160) -/

section Split

variable {demand available dm n : Nat} (hdm : dm = min demand (3 * available)) (hn : n = (dm + 2) / 3)

include hn

/-- No more stages are left over than there are fans to take them (none is needed for no demand). -/
theorem mod_le_fans : dm % n ≤ n := by
  rcases Nat.eq_zero_or_pos n with hzero | hpos
  · have : dm = 0 := by omega
    simp [this]
  · exact (Nat.mod_lt dm hpos).le

include hdm

theorem splitStage_eq (place : Nat) :
    splitStage demand available place = if place < n then dm / n + (if place < dm % n then 1 else 0) else 0 := by
  subst hdm hn
  rfl

/-- A demand of Dm ≤ 3N is split without a stage above 3: where the quotient is 3, nothing is left over. -/
theorem splitStage_le_three (place : Nat) : splitStage demand available place ≤ 3 := by
  rw [splitStage_eq hdm hn]
  have hquotient : dm / n ≤ 3 := Nat.div_le_of_le_mul (by omega)
  have hleftover : dm / n = 3 → dm % n = 0 := fun h => by
    have hdiv := Nat.div_add_mod dm n
    rw [h] at hdiv
    omega
  split_ifs <;> omega

/-- The first places of the ranking hold so many times the quotient, and so many of the stages left over. -/
theorem sum_splitStage_prefix (k : Nat) :
    ((List.range k).map (splitStage demand available)).sum = min k n * (dm / n) + min k (dm % n) := by
  induction k with
  | zero => simp
  | succ k ih =>
    rw [List.range_succ, List.map_append, List.sum_append, ih, List.map_singleton, List.sum_singleton,
      splitStage_eq hdm hn]
    have hrest := mod_le_fans hn
    by_cases hk : k < n
    · have hmin : min k n = k := by omega
      have hminSucc : min (k + 1) n = k + 1 := by omega
      rw [if_pos hk, hmin, hminSucc, Nat.succ_mul]
      split <;> omega
    · have hmin : min k n = n := by omega
      have hminSucc : min (k + 1) n = n := by omega
      rw [if_neg hk, hmin, hminSucc]
      omega

theorem sum_splitStage : ((List.range available).map (splitStage demand available)).sum = dm := by
  rw [sum_splitStage_prefix hdm hn]
  have hmin : min available n = n := by omega
  have hrest : min available (dm % n) = dm % n := by
    have := mod_le_fans hn
    omega
  rw [hmin, hrest, Nat.div_add_mod]

end Split

/-! ### The stage of a fan (R160) -/

theorem State.allocatedStage_ranked {s : State} {i : Nat} {f : FanNo} (h : s.ranking[i]? = some f) (demand : Nat) :
    s.allocatedStage demand f = splitStage demand s.ranking.length i := by
  obtain ⟨hi, rfl⟩ := List.getElem?_eq_some_iff.mp h
  have hfirst : s.ranking.idxOf? s.ranking[i] = some i :=
    List.idxOf?_eq_some_iff.mpr ⟨hi, rfl, fun j hj heq => hj.ne (s.ranking_nodup.getElem_inj_iff.mp heq)⟩
  simp [State.allocatedStage, hfirst]

theorem State.allocatedStage_unavailable {s : State} {f : FanNo} (h : s.available f = false) (demand : Nat) :
    s.allocatedStage demand f = 0 := by
  have : f ∉ s.ranking := by simp [State.mem_ranking, h]
  simp [State.allocatedStage, List.idxOf?_eq_none_iff.mpr this]

theorem State.allocatedStage_le_three (s : State) (demand : Nat) (f : FanNo) : s.allocatedStage demand f ≤ 3 := by
  rw [State.allocatedStage]
  split
  next => omega
  next => exact splitStage_le_three rfl rfl _

theorem State.map_allocatedStage_ranking (s : State) (demand : Nat) :
    s.ranking.map (s.allocatedStage demand) = (List.range s.ranking.length).map (splitStage demand s.ranking.length) := by
  apply List.ext_getElem
  · simp
  · intro i hi _
    rw [List.length_map] at hi
    rw [List.getElem_map, List.getElem_map, List.getElem_range, State.allocatedStage_ranked (List.getElem?_eq_getElem hi)]

theorem State.sum_allocatedStage (s : State) (demand : Nat) :
    (allFans.map (s.allocatedStage demand)).sum = min demand (3 * s.ranking.length) := by
  have hunavailable : ((allFans.filter fun f => !s.available f).map (s.allocatedStage demand)).sum = 0 := by
    refine List.sum_eq_zero fun x hx => ?_
    obtain ⟨f, hf, rfl⟩ := List.mem_map.mp hx
    exact State.allocatedStage_unavailable (by simpa using (List.mem_filter.mp hf).2) demand
  calc (allFans.map (s.allocatedStage demand)).sum
    _ = ((allFans.filter s.available).map (s.allocatedStage demand)).sum := by
      rw [← ((List.filter_append_perm s.available allFans).map _).sum_eq, List.map_append, List.sum_append,
        hunavailable, Nat.add_zero]
    _ = (s.ranking.map (s.allocatedStage demand)).sum := ((s.ranking_perm.map _).sum_eq).symm
    _ = min demand (3 * s.ranking.length) := by
      rw [s.map_allocatedStage_ranking, sum_splitStage rfl rfl]

/-! ### The allocation in force (R161) -/

theorem setRequests_held (g : FanNo → RauFan → RauFan) (s : State) (f : FanNo) :
    (setRequests g s).held f = { g f (s.held f) with eff := s.rau.effective (g f (s.held f)).req } := by
  simp [setRequests, formEffective, State.held, Rau.effective, Rau.capped]

theorem applyAllocation_req (demand : Nat) (s : State) (f : FanNo) :
    ((applyAllocation demand s).held f).req = s.allocatedStage demand f := by
  rw [applyAllocation, setRequests_held]

theorem applyAllocation_dir (demand : Nat) (s : State) (f : FanNo) :
    ((applyAllocation demand s).held f).dir = s.rau.autoDir := by
  rw [applyAllocation, setRequests_held]

/-- Settles O46: the ranking is ascending by a key that is a fan's own, and the available fans' stages are, in the order of
the ranking, those of the places 0, 1, 2 and so on. -/
theorem allocationSplitsDemand : Obligations.AllocationSplitsDemand := by
  intro s demand dm n hdm hn
  simp only [applyAllocation_req, applyAllocation_dir]
  refine ⟨s.ranking_perm, fun cls stamps hstamps hcls => ?_, fun i f hplace => ?_,
    fun f hunavailable => State.allocatedStage_unavailable hunavailable demand,
    fun f => ⟨trivial, s.allocatedStage_le_three demand f⟩, hdm ▸ s.sum_allocatedStage demand⟩
  · obtain rfl : stamps = fun f => (s.windowStamps f).length := funext hstamps
    obtain rfl : cls = s.rankClass := funext fun f => (hcls f).trans (s.rankClass_eq f).symm
    exact s.ranking_pairwise.imp State.rankKey_lt_iff.mp
  · rw [State.allocatedStage_ranked hplace, splitStage_eq hdm hn]

end Sys2Proof.Machine

end

/-! PROOFS. Requests as frames (chapter 1): every request command is one `takeRequest` with its owner's answer, which is a refusal
or is carried out; the statements about kinds, lengths, groups, refusals and frames that are not taken. -/

section

namespace Sys2Proof.Machine

/-! ### A request command is the taking of its frame -/

/-- What the owning block answers to a request: STATUS POLL shows LINE LOST as the frame found it, and ZERO reads its form. The
commands that are no request have no owner. -/
def serveOf (i : Instr) (s : State) : List Byte → State → Answer :=
  match i with
  | .statusPoll _ _ => serveStatusPoll s.lif.lineLost
  | .readValues _ _ => serveReadValues
  | .fetchEvents _ _ => serveFetchEvents
  | .readPage _ _ => serveReadPage
  | .setTime _ _ => serveSetTime
  | .nodeReset _ _ => serveNodeReset
  | .setNode _ _ => serveSetNode
  | .setChannel _ _ => serveSetChannel
  | .setScan _ _ => serveSetScan
  | .setFan _ _ => serveSetFan
  | .setDoor _ _ => serveSetDoor
  | .setDemand _ _ => serveSetDemand
  | .scanStart _ _ => serveScanStart
  | .scanStop _ _ => serveScanStop
  | .zero form _ => serveZero form
  | .zeroCancel _ _ => serveZeroCancel
  | .spanEnter _ _ => serveSpanEnter
  | .spanStep _ _ => serveSpanStep
  | .spanSet _ _ => serveSpanSet
  | .spanExit _ _ => serveSpanExit
  | .regime _ _ => serveRegime
  | .fanCommand _ _ => serveFanCommand
  | .tripReset _ _ => serveTripReset
  | .doorCommand _ _ => serveDoorCommand
  | _ => fun _ => refuse .notKnown

/-- A request command is the taking of its frame with its owner's answer. -/
theorem exec_request {i : Instr} {r : Request} (h : i.request = some r) (s : State) :
    exec i s = .next (takeRequest r.code r.group r.length (serveOf i s) r.form r.fields s) := by
  cases i
  all_goals simp only [Instr.request, reduceCtorEq, Option.some.injEq] at h
  all_goals
    subst h
    rfl

/-- A frame whose KIND is that of a request is handed to its owner. -/
theorem takeFrame_request {i : Instr} {r : Request} (h : i.request = some r) (s : State) :
    takeFrame r.code r.form r.fields s = takeRequest r.code r.group r.length (serveOf i s) r.form r.fields s := by
  cases i
  all_goals simp only [Instr.request, reduceCtorEq, Option.some.injEq] at h
  all_goals
    subst h
    rfl

/-- No request has more than 42 field bytes. -/
theorem request_length_le {i : Instr} {r : Request} (h : i.request = some r) : r.length ≤ 42 := by
  cases i
  all_goals simp only [Instr.request, reduceCtorEq, Option.some.injEq] at h
  all_goals
    subst h
    dsimp only
    omega

/-- An addressed request of the right length is answered by its owner. -/
theorem exec_served {s : State} (hready : s.ready) {i : Instr} {r : Request} (hrequest : i.request = some r)
    (hform : r.form = .addressed) (hlength : r.fields.length = r.length) :
    exec i s = .next (beginService r.code (serveOf i s r.fields (contact s))) := by
  have hlong := request_length_le hrequest
  rw [exec_request hrequest, hform, takeRequest_served hready hlength (by omega)]

/-! ### An owner refuses or carries out (R10) -/

/-- The answer says DONE or CLAMPED. -/
def Answer.carriedOut (a : Answer) : Prop := a.outcome = .done ∨ a.outcome = .clamped

/-- The answer leaves the state alone and names a reason, or the request has been carried out. -/
def Answer.settled (a : Answer) (s : State) : Prop := (∃ o, a = refuse o s) ∨ a.carriedOut

theorem refuse_settled (o : ReqOutcome) (s : State) : (refuse o s).settled s := .inl ⟨o, rfl⟩

theorem answer_carriedOut (clamped : Bool) (reply : List Byte) (t : State) : (answer clamped reply t).carriedOut := by
  cases clamped
  · exact .inl rfl
  · exact .inr rfl

theorem answer_settled (clamped : Bool) (reply : List Byte) (s t : State) : (answer clamped reply t).settled s :=
  .inr (answer_carriedOut clamped reply t)

theorem ite_settled {c : Prop} [Decidable c] {a b : Answer} {s : State} (ha : a.settled s) (hb : b.settled s) :
    (if c then a else b).settled s := by
  split
  · exact ha
  · exact hb

theorem withSession_settled (fields : List Byte) (s : State) {g : SpanSession → Answer} (hg : ∀ sp, (g sp).settled s) :
    (withSession fields s g).settled s := by
  unfold withSession
  split
  · exact refuse_settled _ s
  · split
    · exact refuse_settled _ s
    · exact hg _

theorem serveZero_settled (form : Form) (fields : List Byte) (s : State) : (serveZero form fields s).settled s := by
  unfold serveZero
  split
  · exact ite_settled (refuse_settled _ s) (answer_settled _ _ _ _)
  · split
    · exact refuse_settled _ s
    · exact ite_settled (refuse_settled _ s) (ite_settled (answer_settled _ _ _ _) (refuse_settled _ s))

theorem serveSpanEnter_settled (fields : List Byte) (s : State) : (serveSpanEnter fields s).settled s := by
  unfold serveSpanEnter
  split
  · exact refuse_settled _ s
  · exact ite_settled (refuse_settled _ s) (ite_settled (answer_settled _ _ _ _) (refuse_settled _ s))

theorem serveSetDoor_settled (fields : List Byte) (s : State) : (serveSetDoor fields s).settled s := by
  unfold serveSetDoor
  split
  · exact ite_settled (refuse_settled _ s) (ite_settled (answer_settled _ _ _ _) (refuse_settled _ s))
  · exact refuse_settled _ s

theorem serveSetFan_settled (fields : List Byte) (s : State) : (serveSetFan fields s).settled s := by
  unfold serveSetFan
  split
  · exact refuse_settled _ s
  · exact ite_settled (refuse_settled _ s) (ite_settled (answer_settled _ _ _ _) (refuse_settled _ s))

theorem serveTripReset_settled (fields : List Byte) (s : State) : (serveTripReset fields s).settled s := by
  unfold serveTripReset
  split
  · exact refuse_settled _ s
  · exact ite_settled (ite_settled (answer_settled _ _ _ _) (refuse_settled _ s)) (answer_settled _ _ _ _)

theorem serveSetChannel_settled (fields : List Byte) (s : State) : (serveSetChannel fields s).settled s := by
  unfold serveSetChannel
  split
  · exact ite_settled (refuse_settled _ s) (ite_settled (answer_settled _ _ _ _) (refuse_settled _ s))
  · exact refuse_settled _ s

theorem serveSetScan_settled (fields : List Byte) (s : State) : (serveSetScan fields s).settled s := by
  unfold serveSetScan
  split
  · exact refuse_settled _ s
  · exact ite_settled (refuse_settled _ s) (answer_settled _ _ _ _)

theorem serveScanStart_settled (fields : List Byte) (s : State) : (serveScanStart fields s).settled s :=
  ite_settled (refuse_settled _ s) <| ite_settled (refuse_settled _ s) <|
    ite_settled (refuse_settled _ s) (answer_settled _ _ _ _)

theorem serveReadPage_settled (fields : List Byte) (s : State) : (serveReadPage fields s).settled s := by
  unfold serveReadPage
  split
  · exact refuse_settled _ s
  · exact answer_settled _ _ _ _

theorem serveZeroCancel_settled (fields : List Byte) (s : State) : (serveZeroCancel fields s).settled s := by
  unfold serveZeroCancel
  split
  · exact refuse_settled _ s
  · exact answer_settled _ _ _ _

theorem serveFanCommand_settled (fields : List Byte) (s : State) : (serveFanCommand fields s).settled s := by
  unfold serveFanCommand
  split
  · exact refuse_settled _ s
  · exact ite_settled (answer_settled _ _ _ _) (refuse_settled _ s)

/-- Every owner refuses with the state unchanged, or carries out. -/
theorem serveOf_settled (i : Instr) (s : State) (fields : List Byte) (u : State) : (serveOf i s fields u).settled u := by
  cases i with
  | zero form _ => exact serveZero_settled form fields u
  | spanEnter => exact serveSpanEnter_settled fields u
  | setDoor => exact serveSetDoor_settled fields u
  | setFan => exact serveSetFan_settled fields u
  | tripReset => exact serveTripReset_settled fields u
  | setChannel => exact serveSetChannel_settled fields u
  | setScan => exact serveSetScan_settled fields u
  | scanStart => exact serveScanStart_settled fields u
  | readPage => exact serveReadPage_settled fields u
  | zeroCancel => exact serveZeroCancel_settled fields u
  | fanCommand => exact serveFanCommand_settled fields u
  | spanStep | spanSet | spanExit => exact withSession_settled fields u fun _ => answer_settled _ _ _ _
  | readValues | scanStop => exact ite_settled (refuse_settled _ u) (answer_settled _ _ _ _)
  | nodeReset => exact ite_settled (refuse_settled _ u) (.inr (.inl rfl))
  | setDemand => exact ite_settled (answer_settled _ _ _ _) (refuse_settled _ u)
  | statusPoll | fetchEvents | setTime | setNode | regime | doorCommand => exact answer_settled _ _ _ _
  | _ => exact refuse_settled .notKnown u

/-! ### Kinds and lengths (R9, R10) -/

/-- A KIND that names no request kind reaches no owner. -/
theorem takeFrame_unknown {kind : Byte} (h : kind.toNat ∉ requestCodes) (form : Form) (fields : List Byte) (s : State) :
    takeFrame kind form fields s = takeUnknown kind form fields s := by
  unfold takeFrame
  split
  case h_25 => rfl
  all_goals
    next heq => exact absurd (heq ▸ by decide) h

theorem exec_unknownRequest {kind : Byte} (h1 : 1 ≤ kind.toNat) (h2 : kind.toNat ≤ 0x3F) (h : kind.toNat ∉ requestCodes)
    (form : Form) (fields : List Byte) (s : State) :
    exec (.unknownRequest form kind fields) s = .next (takeUnknown kind form fields s) := by
  have hkind : ¬(kind.toNat = 0 ∨ 0x3F < kind.toNat) := by omega
  change Host.Outcome.next (unknownFrame form kind fields s) = _
  rw [unknownFrame, if_neg hkind, takeFrame_unknown h]

/-- Settles O3: the length is judged before the owner is asked, and an unknown kind has no owner. -/
theorem kindAndLengthJudged : Obligations.KindAndLengthJudged := by
  refine ⟨fun i r s hrequest hform hready hfits hlength => ?_, fun kind fields s hready h1 h2 hunknown => ⟨fun hfits => ?_,
    fun map hfits hselected => ?_⟩⟩
  · rw [exec_request hrequest, hform, takeRequest_badLength hready hlength hfits]
  · rw [exec_unknownRequest h1 h2 hunknown]
    simp [takeUnknown, hready.takes_addressed, fitsFrame, hfits]
  · rw [exec_unknownRequest h1 h2 hunknown]
    simp [takeUnknown, hready.takes_group hselected, fitsFrame, hfits]

/-! ### Refusals (R10) -/

theorem carriedOut_code {a : Answer} (h : a.carriedOut) : a.outcome.code = 0 ∨ a.outcome.code = 1 :=
  h.imp (fun e => by rw [e]; rfl) (fun e => by rw [e]; rfl)

/-- Settles O5: an owner that does not carry out leaves the state alone. -/
theorem refusedRequestHasNoEffect : Obligations.RefusedRequestHasNoEffect := by
  intro i r s t v hrequest hform hready hfits hexec hservice hnotDone hnotClamped
  rw [exec_request hrequest, hform] at hexec
  obtain rfl := Host.Outcome.next.inj hexec
  by_cases hlength : r.fields.length = r.length
  · have hlong : r.length ≤ 96 := (request_length_le hrequest).trans (by decide)
    rw [takeRequest_served hready hlength hlong] at hservice ⊢
    obtain ⟨o, ho⟩ | hcarried := serveOf_settled i s r.fields (contact s)
    · exact ⟨o, by rw [ho, beginService_refuse]⟩
    · obtain rfl := Option.some.inj hservice
      rcases carriedOut_code hcarried with hcode | hcode
      · exact absurd (congrArg some hcode) hnotDone
      · exact absurd (congrArg some hcode) hnotClamped
  · exact ⟨.badLength, takeRequest_badLength hready hlength hfits⟩

/-! ### Group requests (R12) -/

/-- The addressed form of a request with the G mark leaves the same state, with the reply in service beside it. -/
theorem takeRequest_group_of_addressed {s : State} (hready : s.ready) {code : Byte} {length : Nat}
    {serve : List Byte → State → Answer} {fields : List Byte} {map : BitVec 64}
    (hselected : map.getLsbD s.lif.straps.address.val = true) (hlength : fields.length = length) (hlong : length ≤ 42)
    (hservice : (serve fields (contact s)).state.lif.service = none) :
    takeRequest code true length serve (.group map) fields s =
      { takeRequest code true length serve .addressed fields s with
        lif := { (takeRequest code true length serve .addressed fields s).lif with service := none } } := by
  rw [takeRequest_group hready hselected (by omega), takeRequest_served hready hlength (by omega), if_pos (by simpa using hlength),
    ← hservice]
  rfl

/-! ### Frames that are not taken (R2, R5–R8) -/

theorem takeUnknown_notTaken {s : State} {form : Form} (h : s.takes form = false) (code : Byte) (fields : List Byte) :
    takeUnknown code form fields s = dropFrame s := by
  simp [takeUnknown, h]

/-- A whole frame that the node does not take is dropped, whatever its kind. -/
theorem takeFrame_notTaken {s : State} {form : Form} (h : s.takes form = false) (code : Byte) (fields : List Byte) :
    takeFrame code form fields s = dropFrame s := by
  unfold takeFrame
  split
  case h_25 => exact takeUnknown_notTaken h code fields
  all_goals exact takeRequest_notTaken h _ _ _ _ _

theorem dropFrame_inService {s : State} (h : s.lif.service ≠ none) : dropFrame s = s := by
  simp [dropFrame, Option.isSome_iff_ne_none.mpr h]

theorem dropFrame_idle {s : State} (h : s.lif.service = none) : dropFrame s = toHunt s := by
  simp [dropFrame, h]

theorem takes_inService {s : State} (h : s.lif.service ≠ none) (form : Form) : s.takes form = false := by
  simp [State.takes, Option.isNone_iff_eq_none, h]

theorem takes_addressZero {s : State} (h : s.lif.straps.address = 0) (form : Form) : s.takes form = false := by
  simp [State.takes, h]

theorem takes_notSelected {s : State} {map : BitVec 64} (h : map.getLsbD s.lif.straps.address.val = false) :
    s.takes (.group map) = false := by
  simp only [State.takes, h, Bool.and_false]

theorem exec_foreignFrame {dest kind : Byte} {payload : List Byte} {check : BitVec 16} {s : State}
    (hservice : s.lif.service = none) (hfits : payload.length ≤ 96) :
    exec (.foreignFrame dest kind payload check) s = .next (judgeFrame dest kind payload check (toHunt s)) := by
  change Host.Outcome.next (hearFrame dest kind payload check s) = _
  simp [hearFrame, hservice, hfits]

/-- A frame for this node or a group, by its DEST; the others have no form. -/
theorem frameForm_foreign {straps : Straps} {dest kind : Byte} {payload : List Byte} (hgroup : dest ≠ 0)
    (hnode : dest.toNat ≠ straps.address.val) : frameForm straps dest kind payload = none := by
  simp only [frameForm, if_neg hgroup, if_neg hnode, ite_self]

theorem frameForm_badKind {straps : Straps} {dest kind : Byte} {payload : List Byte}
    (h : kind.toNat = 0 ∨ 0x3F < kind.toNat) : frameForm straps dest kind payload = none := if_pos h

theorem frameForm_shortMap {straps : Straps} {kind : Byte} {payload : List Byte} (h : payload.length < 8) :
    frameForm straps 0 kind payload = none := by
  simp only [frameForm, if_true, if_pos h, ite_self]

theorem frameForm_group {straps : Straps} {kind : Byte} {payload : List Byte} {form : Form} {fields : List Byte}
    (h : frameForm straps 0 kind payload = some (form, fields)) : form = .group (selectionMap payload) := by
  simp only [frameForm] at h
  split_ifs at h
  exact (Prod.mk.inj (Option.some.inj h)).1.symm

/-- A frame whose form, where it has one, the node does not take leaves the receiver in HUNT. -/
theorem judgeFrame_dropped {dest kind : Byte} {payload : List Byte} {check : BitVec 16} {s : State}
    (hservice : s.lif.service = none)
    (h : ∀ form fields, frameForm s.lif.straps dest kind payload = some (form, fields) → s.takes form = false) :
    judgeFrame dest kind payload check (toHunt s) = toHunt s := by
  unfold judgeFrame
  split
  · split
    · rfl
    · next form fields heq =>
      have htakes : (toHunt s).takes form = false := h form fields heq
      change takeFrame kind form fields (toHunt s) = toHunt s
      rw [takeFrame_notTaken htakes]
      exact dropFrame_idle (s := toHunt s) hservice
  · rfl

/-- Settles O6: what is not taken is dropped, and a frame is judged by its check, its KIND and its DEST before it is taken. -/
theorem framesDropped : Obligations.FramesDropped := by
  refine ⟨fun i r s hrequest => ⟨fun hservice => ?_, fun hservice hnot => ?_⟩,
    fun dest kind payload check s hservice hfits hbad => ?_⟩
  · rw [exec_request hrequest, takeRequest_notTaken (takes_inService hservice r.form), dropFrame_inService hservice]
  · have htakes : s.takes r.form = false := by
      obtain haddress | ⟨map, hform, hmap⟩ := hnot
      · exact takes_addressZero haddress r.form
      · rw [hform]
        exact takes_notSelected hmap
    rw [exec_request hrequest, takeRequest_notTaken htakes, dropFrame_idle hservice]
  · rw [exec_foreignFrame hservice hfits]
    congr 1
    obtain hcheck | hkind | hkind | ⟨hgroup, hnode⟩ | ⟨rfl, hmap⟩ := hbad
    · exact if_neg hcheck
    · exact judgeFrame_dropped hservice fun form fields h => by
        rw [frameForm_badKind (.inl (congrArg BitVec.toNat hkind))] at h; contradiction
    · exact judgeFrame_dropped hservice fun form fields h => by
        rw [frameForm_badKind (.inr hkind)] at h; contradiction
    · exact judgeFrame_dropped hservice fun form fields h => by
        rw [frameForm_foreign hgroup hnode] at h; contradiction
    · refine judgeFrame_dropped hservice fun form fields h => ?_
      obtain hshort | hmap := hmap
      · rw [frameForm_shortMap hshort] at h; contradiction
      · rw [frameForm_group h]
        exact takes_notSelected hmap

/-! ### A good frame is its request (R6, R7, R9) -/

/-- The taking brings the receiver to HUNT itself. -/
theorem takeRequest_toHunt {s : State} (hservice : s.lif.service = none) (code : Byte) (group : Bool) (length : Nat)
    (serve : List Byte → State → Answer) (form : Form) (fields : List Byte) :
    takeRequest code group length serve form fields (toHunt s) = takeRequest code group length serve form fields s := by
  by_cases htakes : s.takes form = true
  · have htoHunt : (toHunt s).takes form = s.takes form := rfl
    simp only [takeRequest, htoHunt, htakes]
    split
    · rfl
    · rw [dropFrame_idle hservice, dropFrame_idle (s := toHunt s) hservice]
      rfl
  · rw [Bool.not_eq_true] at htakes
    rw [takeRequest_notTaken htakes, takeRequest_notTaken (s := toHunt s) htakes, dropFrame_idle hservice]
    exact dropFrame_idle (s := toHunt s) hservice

/-- Settles O7: the check is good, the form is given, and the kind names the request's owner. -/
theorem goodFrameIsItsRequest : Obligations.GoodFrameIsItsRequest := by
  rintro dest _ payload i r s hservice hfits hrequest rfl hform
  have hserve : serveOf i (toHunt s) = serveOf i s := by cases i <;> rfl
  rw [exec_foreignFrame hservice hfits, exec_request hrequest, judgeFrame, if_pos rfl]
  simp only [show (toHunt s).lif.straps = s.lif.straps from rfl, hform]
  rw [takeFrame_request hrequest, hserve, takeRequest_toHunt hservice]

end Sys2Proof.Machine

end

/-! PROOFS. The line (chapter 1): the frame receiver character by character, the reply's beginning and end, and the requests that
only read the part (chapters 1 to 3). -/

section

namespace Sys2Proof.Machine

/-! ### The frame receiver (R3, R4) -/

theorem exec_characterReceived (c : Byte) (s : State) : exec (.characterReceived c) s = .next (hearChar c s) := rfl

theorem gapOver_iff (s : State) :
    s.gapOver = true ↔ s.lif.rx ≠ .hunt ∧ 3 * 10 * 100000 < s.lif.gapTicks * Config.baud s.lif.straps.bitRate := by
  simp [State.gapOver, Config.ticksPerSecond]

theorem gapBefore_iff (s : State) :
    s.gapBefore = true ↔ s.lif.rx ≠ .hunt ∧ 4 * 10 * 100000 < s.lif.gapTicks * Config.baud s.lif.straps.bitRate := by
  simp [State.gapBefore, Config.ticksPerSecond]

theorem hearChar_inService {s : State} (h : s.lif.service ≠ none) (c : Byte) : hearChar c s = s := by
  simp [hearChar, Option.isSome_iff_ne_none.mpr h]

/-- Without too long a gap a character is judged by the receiver's state. -/
theorem hearChar_noGap {s : State} (hservice : s.lif.service = none) (h : s.gapBefore = false) (c : Byte) :
    hearChar c s = receive c s := by
  simp [hearChar, hservice, h]

theorem gapBefore_hunt {s : State} (h : s.lif.rx = .hunt) : s.gapBefore = false := by
  simp [State.gapBefore, h]

/-- After too long a gap it is judged in HUNT. -/
theorem hearChar_afterGap {s : State} (hservice : s.lif.service = none) (h : s.gapBefore = true) (c : Byte) :
    hearChar c s = receive c (toHunt s) := by
  simp [hearChar, hservice, h]

/-- What the receiver becomes by a character of a frame that does not complete it. -/
theorem receive_next {s : State} {c : Byte} {next : Rx}
    (h : s.lif.rx = .header [] ∧ next = .header [c] ∨
      (∃ dest, s.lif.rx = .header [dest] ∧ next = .header [dest, c]) ∨
      (∃ dest kind, s.lif.rx = .header [dest, kind] ∧
        next = if 96 < c.toNat then .hunt else if c = 0 then .check dest kind [] none else .payload dest kind c.toNat []) ∨
      (∃ dest kind len kept, s.lif.rx = .payload dest kind len kept ∧
        next = if kept.length + 1 < len then .payload dest kind len (kept ++ [c]) else .check dest kind (kept ++ [c]) none) ∨
      ∃ dest kind kept, s.lif.rx = .check dest kind kept none ∧ next = .check dest kind kept (some c)) :
    receive c s = setRx next s := by
  obtain ⟨hrx, rfl⟩ | ⟨dest, hrx, rfl⟩ | ⟨dest, kind, hrx, rfl⟩ | ⟨dest, kind, len, kept, hrx, rfl⟩ |
    ⟨dest, kind, kept, hrx, rfl⟩ := h
  · simp [receive, hrx]
  · simp [receive, hrx]
  · have hzero : c = 0 ↔ c.toNat = 0 := ⟨fun e => by simp [e], fun e => BitVec.eq_of_toNat_eq e⟩
    simp only [receive, hrx, afterLength, hzero]
  · simp only [receive, hrx]
    split <;> rfl
  · simp [receive, hrx]

/-- Settles O9: by the receiver's states; the gap is measured only while a frame is being assembled. -/
theorem receiverKeepsCharacters : Obligations.ReceiverKeepsCharacters := by
  refine fun s => ⟨rfl, ?_, fun c => ⟨fun hservice => ?_, fun hservice hrx => ?_, fun hservice hrx hgap => ?_,
    fun hservice hgap next hnext => ?_⟩⟩
  · change Host.Outcome.next (gapExpiry s) = _
    simp only [gapExpiry, gapOver_iff]
    rfl
  · rw [exec_characterReceived, hearChar_inService hservice]
  · rw [exec_characterReceived, hearChar_noGap hservice (gapBefore_hunt hrx), receive]
    simp only [hrx]
    rfl
  · have hhunt : (toHunt s).gapBefore = false := gapBefore_hunt rfl
    rw [exec_characterReceived, exec_characterReceived, hearChar_afterGap hservice ((gapBefore_iff s).mpr ⟨hrx, hgap⟩)]
    exact congrArg Host.Outcome.next (hearChar_noGap (s := toHunt s) hservice hhunt c).symm
  · have hsmall : s.gapBefore = false := by
      rw [← Bool.not_eq_true, gapBefore_iff]
      omega
    rw [exec_characterReceived, hearChar_noGap hservice hsmall, receive_next hnext]
    rfl

/-! ### The characters of a frame, one after another (R3) -/

/-- The state with the receiver at a place, its gap just measured, and these commands waiting. -/
def receiving (s : State) (rx : Rx) (pending : List Instr) : State :=
  { s with lif := { s.lif with rx := rx, gapTicks := 0 }, pending := pending }

/-- A waiting character is a step of the receiver. -/
theorem run_character {s : State} {c : Byte} {rest : List Instr} (h : s.pending = .characterReceived c :: rest) (n : Nat) :
    Host.Core.run Sys2Proof.core (n + 1) s = Host.Core.run Sys2Proof.core n (hearChar c { s with pending := rest }) := by
  have hstep : Sys2Proof.core.step s = .next (hearChar c { s with pending := rest }) := by
    change step s = _
    rw [step, h]
    rfl
  simp only [Host.Core.run, hstep]

/-- A character that does not complete a frame moves the receiver on. -/
theorem run_receiving {s : State} (hservice : s.lif.service = none) {rx next : Rx} {c : Byte} {rest : List Instr}
    (h : receive c (receiving s rx rest) = setRx next (receiving s rx rest)) (n : Nat) :
    Host.Core.run Sys2Proof.core (n + 1) (receiving s rx (.characterReceived c :: rest)) =
      Host.Core.run Sys2Proof.core n (receiving s next rest) := by
  have hgap : (receiving s rx rest).gapBefore = false := by simp [State.gapBefore, receiving]
  rw [run_character rfl]
  congr 1
  exact (hearChar_noGap (s := receiving s rx rest) hservice hgap c).trans h

/-- The rest of a payload is kept, character by character. -/
theorem run_payload {s : State} (hservice : s.lif.service = none) (dest kind : Byte) (rest : List Instr) (n : Nat)
    (more kept : List Byte) (hmore : more ≠ []) :
    Host.Core.run Sys2Proof.core (more.length + n)
        (receiving s (.payload dest kind (kept.length + more.length) kept) (more.map Instr.characterReceived ++ rest)) =
      Host.Core.run Sys2Proof.core n (receiving s (.check dest kind (kept ++ more) none) rest) := by
  induction more generalizing kept with
  | nil => exact absurd rfl hmore
  | cons b more ih =>
    have hfuel : (b :: more).length + n = (more.length + n) + 1 := by rw [List.length_cons]; omega
    rw [hfuel]
    cases more with
    | nil =>
      exact (run_receiving hservice (receive_next (.inr (.inr (.inr (.inl
        ⟨dest, kind, _, kept, rfl, rfl⟩))))) _).trans (by simp)
    | cons b' more =>
      refine (run_receiving hservice (receive_next (.inr (.inr (.inr (.inl
        ⟨dest, kind, _, kept, rfl, rfl⟩))))) _).trans ?_
      rw [if_pos (by simp)]
      have hlen : kept.length + (b :: b' :: more).length = (kept ++ [b]).length + (b' :: more).length := by simp; omega
      rw [hlen]
      simpa using ih (kept ++ [b]) (by simp)

/-- The LEN character and the payload bring the receiver to CHECK. -/
theorem run_lengthPayload {s : State} (hservice : s.lif.service = none) (dest kind : Byte) (payload : List Byte)
    (hfits : payload.length ≤ 96) (rest : List Instr) (n : Nat) :
    Host.Core.run Sys2Proof.core (payload.length + n + 1)
        (receiving s (.header [dest, kind])
          (.characterReceived (byte payload.length) :: (payload.map Instr.characterReceived ++ rest))) =
      Host.Core.run Sys2Proof.core n (receiving s (.check dest kind payload none) rest) := by
  have hbyte : (byte payload.length).toNat = payload.length := by simp [byte]; omega
  refine (run_receiving hservice (next := afterLength dest kind payload.length) ?_ _).trans ?_
  · rw [receive, show (receiving s (.header [dest, kind]) _).lif.rx = .header [dest, kind] from rfl]
    simp only [hbyte]
  · cases payload with
    | nil => simp [afterLength]
    | cons b more =>
      have hlong : ¬96 < (b :: more).length := by omega
      have hsome : ¬(b :: more).length = 0 := by simp
      rw [afterLength, if_neg hlong, if_neg hsome]
      simpa using run_payload hservice dest kind rest n (b :: more) [] (by simp)

/-- The commands of a frame's characters after SYNC, and what waits behind them. -/
def afterSync (dest kind high low : Byte) (payload : List Byte) (rest : List Instr) : List Instr :=
  .characterReceived dest :: .characterReceived kind :: .characterReceived (byte payload.length) ::
    (payload.map Instr.characterReceived ++ (.characterReceived high :: .characterReceived low :: rest))

/-- Settles O8: by the receiver's places, the payload by induction. -/
theorem charactersMakeFrame : Obligations.CharactersMakeFrame := by
  intro dest kind high low payload rest s hservice hrx hfits
  have hfirst : hearChar 0xC5 { s with pending := afterSync dest kind high low payload rest } = receiving s (.header []) (afterSync dest kind high low payload rest) :=
    (hearChar_noGap (s := { s with pending := afterSync dest kind high low payload rest }) hservice (gapBefore_hunt hrx) _).trans <| by
      simp [receive, hrx, setRx, receiving]
  have hqueue : ([0xC5, dest, kind, byte payload.length] ++ payload ++ [high, low]).map Instr.characterReceived ++ rest =
      .characterReceived 0xC5 :: afterSync dest kind high low payload rest := by simp [afterSync]
  have hlast : hearChar low (receiving s (.check dest kind payload (some high)) rest) =
      judgeFrame dest kind payload (checkOf high low) (receiving s .hunt rest) :=
    hearChar_noGap (s := receiving s (.check dest kind payload (some high)) rest) hservice
      (by simp [State.gapBefore, receiving]) low
  rw [hqueue]
  refine (run_character rfl _).trans ?_
  rw [show hearChar 0xC5 _ = _ from hfirst, afterSync,
    run_receiving hservice (receive_next (.inl ⟨rfl, rfl⟩)),
    run_receiving hservice (receive_next (.inr (.inl ⟨dest, rfl, rfl⟩))),
    show payload.length + 3 = payload.length + 2 + 1 from rfl, run_lengthPayload hservice dest kind payload hfits,
    run_receiving hservice (receive_next (.inr (.inr (.inr (.inr ⟨dest, kind, payload, rfl, rfl⟩)))))]
  refine (run_character rfl _).trans ?_
  refine (congrArg Host.Outcome.next hlast).trans ?_
  refine Eq.trans ?_ (exec_foreignFrame
    (s := { s with lif := { s.lif with gapTicks := 0 }, pending := rest }) hservice hfits).symm
  rfl

/-! ### The reply (R8) -/

theorem charsPassed_iff (straps : Straps) (chars ticks : Nat) :
    charsPassed straps chars ticks = true ↔ chars * 10 * 100000 ≤ ticks * Config.baud straps.bitRate := by
  simp [charsPassed, Config.ticksPerSecond]

/-- Settles O10: a reply that may not begin yet, or has not been sent, leaves everything. -/
theorem replyBeginsAndEnds : Obligations.ReplyBeginsAndEnds := by
  intro s v hservice
  refine ⟨fun hsending hpassed => ?_, fun hearly => ?_, fun hsending hpassed hreset => ?_⟩
  · have hallowed : s.replyAllowed = true := by simp [State.replyAllowed, hservice, hsending, charsPassed_iff, hpassed]
    change Host.Outcome.next (startReply s) = _
    rw [startReply, if_pos hallowed, hservice]
    rfl
  · have hallowed : s.replyAllowed = false := by
      have hnot : charsPassed s.lif.straps 2 v.elapsed = false := by
        rw [← Bool.not_eq_true, charsPassed_iff]
        omega
      simp [State.replyAllowed, hservice, hnot]
    change Host.Outcome.next (startReply s) = _
    simp [startReply, hallowed]
  · have hover : s.replyOver = true := by
      simp [State.replyOver, hservice, hsending, charsPassed_iff, frameChars, hpassed]
    have hfollows : s.resetFollows = false := by simp [State.resetFollows, hservice, hreset]
    change Host.Outcome.next (finishReply s) = _
    simp [finishReply, hover, hfollows, endService]

/-! ### Requests that read the part (R15, R25, R30, R49) -/

theorem toNat_byte {n : Nat} (h : n < 256) : (byte n).toNat = n := by simp [byte]; omega

theorem byte_toNat (b : Byte) : byte b.toNat = b := by simp [byte]

@[simp] theorem u8_cons_zero (b : Byte) (l : List Byte) : u8 (b :: l) 0 = b.toNat := rfl

@[simp] theorem u8_cons_succ (b : Byte) (l : List Byte) (i : Nat) : u8 (b :: l) (i + 1) = u8 l i := rfl

theorem indexOf_some {n x : Nat} (h : x < n) : indexOf n x = some ⟨x, h⟩ := dif_pos h

theorem indexOf_none {n x : Nat} (h : n ≤ x) : indexOf n x = none := dif_neg (by omega)

@[simp] theorem indexOf_val {n : Nat} (k : Fin n) : indexOf n k.val = some k := indexOf_some k.isLt

theorem toNat_byte_fin {n : Nat} (hn : n ≤ 256) (k : Fin n) : (byte k.val).toNat = k.val :=
  toNat_byte (k.isLt.trans_le hn)

/-- The field bytes of a two-byte number write it back. -/
theorem le16_bytes (a b : Byte) : le16 (a.toNat + 256 * b.toNat) = [a, b] := by
  have ha := a.isLt
  have hb := b.isLt
  have hlow : (a.toNat + 256 * b.toNat) % 256 = a.toNat := by omega
  have hhigh : (a.toNat + 256 * b.toNat) / 256 = b.toNat := by omega
  have hfirst : byte (a.toNat + 256 * b.toNat) = a := BitVec.eq_of_toNat_eq hlow
  rw [le16, hfirst, hhigh, byte_toNat]

theorem contact_valueRecord (s : State) : valueRecord (contact s) = valueRecord s := by
  funext c
  simp [valueRecord]

/-- Settles O12: the owners read what stands after the contact, which leaves all they read but LINE LOST. -/
theorem readingRequestsAnswered : Obligations.ReadingRequestsAnswered := by
  intro s hready
  refine ⟨(exec_served hready rfl rfl rfl).trans rfl, fun n => ?_, fun b hb => ?_, fun a b => ?_⟩
  · rw [exec_served hready rfl rfl rfl]
    simp [serveOf, serveReadPage, toNat_byte_fin (by decide : 21 ≤ 256) n, taken]
  · rw [exec_served hready rfl rfl rfl]
    simp [serveOf, serveReadPage, indexOf_none (show 21 ≤ b.toNat from hb)]
  · have ha := a.isLt
    rw [exec_served hready rfl rfl rfl]
    simp only [serveOf, serveReadValues, u16, u8_cons_zero, u8_cons_succ, le16_bytes, contact_valueRecord, clearRead, contact_ch]
    by_cases hb : b.toNat < 4
    · have hmask : ¬1024 ≤ a.toNat + 256 * b.toNat := by omega
      rw [if_neg hmask, if_pos hb]
      rfl
    · have hmask : 1024 ≤ a.toNat + 256 * b.toNat := by omega
      rw [if_pos hmask, if_neg hb]
      rfl

/-- Settles O13: what is taken and what is dropped make up the queue. -/
theorem fetchTakesOldest : Obligations.FetchTakesOldest := by
  intro s hready
  refine ⟨(contact s).evq.entries.take 6, (contact s).evq.entries.drop 6, _, List.take_append_drop 6 _, List.length_take_le 6 _,
    fun hleft => ?_, rfl, ?_⟩
  · have hmore : 6 < (contact s).evq.entries.length := by
      rw [Ne, List.drop_eq_nil_iff] at hleft
      omega
    rw [List.length_take]
    omega
  · exact (exec_served hready rfl rfl rfl).trans rfl

end Sys2Proof.Machine

end

/-! PROOFS. The step and the tick, the full reset, the roundings of the value pipeline (chapter 4), the demand step (chapter 9), and
the small commands: inputs and counts, SET SCAN and SCAN STOP. -/

section

namespace Sys2Proof.Machine

/-! ### The step and the tick (R20, R22) -/

/-- Settles O1: the front command is taken off the queue before it runs. -/
theorem stepRunsFrontCommand : Obligations.StepRunsFrontCommand := by
  intro c rest s hpending
  rw [step, hpending]

theorem insertFree_perm {α : Type} (n : Nat) (x : α) (l : List α) : (insertFree n x l).Perm (x :: l) :=
  List.perm_insertIdx _ _ (Nat.le_of_lt_succ (Nat.mod_lt _ (Nat.succ_pos _)))

/-- The free order only orders. -/
theorem freeOrder_perm {α : Type} (n : Nat) (l : List α) : (freeOrder n l).1.Perm l := by
  induction l with
  | nil => exact .refl _
  | cons x rest ih =>
    cases rest with
    | nil => exact .refl _
    | cons y rest => exact (insertFree_perm _ x _).trans (ih.cons x)

theorem step_tick {s : State} (h : s.pending = []) : step s = .next (tick s) := by rw [step, h]

@[simp] theorem fan_advance (s : State) (f : FanNo) : (advance s).fan f = (s.fan f).tick := by simp [State.fan, advance]

theorem advance_sameBut (s : State) : sameBut [.lif, .tb, .scn, .fans] s (advance s) := by
  intro p hp
  cases p with
  | lif | tb | scn | fans => exact absurd (by decide) hp
  | _ => rfl

/-- Settles O2: the queue after a tick is the due commands in the free order. -/
theorem emptyQueueTicks : Obligations.EmptyQueueTicks := by
  intro s hpending
  refine ⟨⟨_, _, freeOrder_perm _ _, step_tick hpending⟩, rfl, rfl, rfl, fun f => ?_, advance_sameBut s⟩
  have hcount : ∀ n : Nat, min 65535 (n + 1) = if n < 65535 then n + 1 else 65535 := fun n => by
    split <;> omega
  simp only [fan_advance, Fan.tick, hcount]

/-! ### The full reset (R19) -/

/-- Settles O17: each table of the reset state is read back. -/
theorem fullResetCarriedOut : Obligations.FullResetCarriedOut := by
  intro straps s
  refine ⟨fullReset straps s, rfl, rfl, rfl, rfl, rfl, rfl, rfl, rfl, rfl, fun c => ?_, rfl, rfl, rfl, rfl, rfl, fun c => ?_,
    fun f => ?_, rfl, rfl, fun d => ?_, rfl, rfl⟩
  · simp [State.ch, fullReset, Channel.initial, ChanConfig.initial]
  · simp [fullReset, Cal.initial]
  · simp [State.fan, fullReset, Fan.fullReset, Fan.initial, Debounced.restart]
  · simp [State.door, fullReset, Door.fullReset, Door.initial, Contacts.restart, ContactState.restart]

/-- Settles O52: the reset state is one state. -/
theorem resetMeetsInvariants : Obligations.ResetMeetsInvariants := by
  have hsession : ∀ {p : SpanSession → Prop}, ∀ sp ∈ State.reset.cal.span, p sp := fun _ h => nomatch h
  exact ⟨by decide, by decide, by decide, ⟨by decide, ⟨by decide, hsession⟩, by decide⟩, by decide, by decide,
    ⟨by decide, by decide, hsession⟩, by decide, by decide⟩

/-! ### Rounding (00_scope.md, Arithmetic) -/

/-- A rounded quotient, multiplied back, is off by no more than half the divisor, and upwards at the half. -/
theorem roundDivNat_spec {d : Nat} (hd : 0 < d) (m : Nat) :
    2 * (d * roundDivNat m d) ≤ 2 * m + d ∧ 2 * m < 2 * (d * roundDivNat m d) + d := by
  have hdiv := Nat.div_add_mod (2 * m + d) (2 * d)
  have hmod := Nat.mod_lt (2 * m + d) (show 0 < 2 * d by omega)
  rw [Nat.mul_assoc] at hdiv
  rw [roundDivNat]
  omega

theorem roundDivNat_mono {m n : Nat} (h : m ≤ n) (d : Nat) : roundDivNat m d ≤ roundDivNat n d :=
  Nat.div_le_div_right (by omega)

theorem roundDiv_of_nonneg {n : Int} (h : 0 ≤ n) (d : Nat) : roundDiv n d = roundDivNat n.natAbs d := if_pos h

theorem roundDiv_of_neg {n : Int} (h : n < 0) (d : Nat) : roundDiv n d = -(roundDivNat n.natAbs d : Int) := if_neg (by omega)

theorem natAbs_roundDiv (n : Int) (d : Nat) : (roundDiv n d).natAbs = roundDivNat n.natAbs d := by
  rcases lt_or_ge n 0 with hneg | hpos
  · rw [roundDiv_of_neg hneg, Int.natAbs_neg, Int.natAbs_natCast]
  · rw [roundDiv_of_nonneg hpos, Int.natAbs_natCast]

/-- Rounding keeps a bound from above. -/
theorem roundDiv_le {n : Int} {b : Nat} (h : n ≤ b) (d : Nat) : roundDiv n d ≤ roundDivNat b d := by
  rcases lt_or_ge n 0 with hneg | hpos
  · rw [roundDiv_of_neg hneg]
    omega
  · rw [roundDiv_of_nonneg hpos]
    exact_mod_cast roundDivNat_mono (by omega) d

/-- Rounding keeps a bound from below. -/
theorem neg_le_roundDiv {n : Int} {b : Nat} (h : -(b : Int) ≤ n) (d : Nat) : -(roundDivNat b d : Int) ≤ roundDiv n d := by
  rcases lt_or_ge n 0 with hneg | hpos
  · rw [roundDiv_of_neg hneg, neg_le_neg_iff]
    exact_mod_cast roundDivNat_mono (by omega) d
  · rw [roundDiv_of_nonneg hpos]
    omega

theorem natAbs_roundDiv_le {n : Int} {b : Nat} (h : n.natAbs ≤ b) (d : Nat) : (roundDiv n d).natAbs ≤ roundDivNat b d := by
  rw [natAbs_roundDiv]
  exact roundDivNat_mono h d

/-- "Rounded" is to the nearest, halves away from zero. -/
theorem roundDiv_nearest {d : Nat} (hd : 0 < d) (n : Int) :
    2 * (n - d * roundDiv n d).natAbs ≤ d ∧ (2 * (n - d * roundDiv n d).natAbs = d → n.natAbs < (d * roundDiv n d).natAbs) := by
  obtain ⟨hle, hlt⟩ := roundDivNat_spec hd n.natAbs
  rcases lt_or_ge n 0 with hneg | hpos
  · rw [roundDiv_of_neg hneg, mul_neg]
    norm_cast
    generalize d * roundDivNat n.natAbs d = p at *
    omega
  · rw [roundDiv_of_nonneg hpos]
    norm_cast
    generalize d * roundDivNat n.natAbs d = p at *
    omega

/-! ### Smoothing (R63, R65) -/

theorem roundDiv_one (n : Int) : roundDiv n 1 = n := by
  rcases lt_or_ge n 0 with hneg | hpos
  · rw [roundDiv_of_neg hneg, roundDivNat]
    omega
  · rw [roundDiv_of_nonneg hpos, roundDivNat]
    omega

/-- A step of smoothing goes no further than the whole way. -/
theorem roundDivNat_le_self {d : Nat} (hd : 0 < d) (m : Nat) : roundDivNat m (2 * d) ≤ m := by
  rw [roundDivNat, ← Nat.lt_succ_iff, Nat.div_lt_iff_lt_mul (by omega), Nat.succ_eq_add_one]
  have hprod : m ≤ m * d := Nat.le_mul_of_pos_right m hd
  have hexpand : (m + 1) * (2 * (2 * d)) = 4 * (m * d) + 4 * d := by ring
  omega

theorem roundDivNat_eq_zero_iff {d : Nat} (hd : 0 < d) (m : Nat) : roundDivNat m (2 * d) = 0 ↔ m < d := by
  rw [roundDivNat, Nat.div_eq_zero_iff]
  omega

/-- Settles O24: a step is the rounded part of the distance, no more than the whole of it and of its sign. -/
theorem smoothingComesToRest : Obligations.SmoothingComesToRest := by
  intro x v hinit
  refine ⟨fun hzero => ?_, fun k hk => ?_⟩
  · rw [smoothedValue, if_pos hinit, hzero, pow_zero, roundDiv_one]
    omega
  · have hpos : 0 < 2 ^ k := Nat.two_pow_pos k
    have hself := roundDivNat_le_self hpos (v - x.value).natAbs
    have hzero := roundDivNat_eq_zero_iff hpos (v - x.value).natAbs
    rw [smoothedValue, if_pos hinit, hk, pow_succ, Nat.mul_comm]
    rcases lt_or_ge (v - x.value) 0 with hneg | hge
    · rw [roundDiv_of_neg hneg]
      omega
    · rw [roundDiv_of_nonneg hge]
      omega

/-! ### The bounds of stages 4 to 7 (R57, R58) -/

/-- A product with two bounded factors keeps a bound from above. -/
theorem mul_mul_le {x : Int} {b c p q r : Nat} (hx : x ≤ p) (hb : b ≤ q) (hc : c ≤ r) : x * b * c ≤ (p * q * r : Nat) := by
  calc x * b * c ≤ (p : Int) * b * c := by gcongr
    _ ≤ (p * q * r : Nat) := by
      push_cast
      gcongr

theorem neg_le_mul_mul {x : Int} {b c p q r : Nat} (hx : -(p : Int) ≤ x) (hb : b ≤ q) (hc : c ≤ r) :
    -((p * q * r : Nat) : Int) ≤ x * b * c := by
  have h := mul_mul_le (x := -x) (p := p) (by omega) hb hc
  rw [neg_mul, neg_mul] at h
  omega

theorem natAbs_mul_mul_le {x y z : Int} {p q r : Nat} (hx : x.natAbs ≤ p) (hy : y.natAbs ≤ q) (hz : z.natAbs ≤ r) :
    (x * y * z).natAbs ≤ p * q * r := by
  rw [Int.natAbs_mul, Int.natAbs_mul]
  gcongr

section Stages

variable {cfg : ChanConfig} {w : Nat} (hw : w ≤ 16380) (hzeroLow : -4096 ≤ cfg.zero) (hzeroHigh : cfg.zero ≤ 4095)

include hw hzeroLow hzeroHigh

theorem polarCount_unipolar (hkind : cfg.kind.bipolar = false) : -4095 ≤ polarCount cfg w ∧ polarCount cfg w ≤ 20476 := by
  rw [polarCount, hkind, if_neg (by decide)]
  omega

theorem polarCount_bipolar (hkind : cfg.kind.bipolar = true) : -12287 ≤ polarCount cfg w ∧ polarCount cfg w ≤ 12284 := by
  rw [polarCount, if_pos hkind]
  omega

theorem natAbs_polarCount : (polarCount cfg w).natAbs ≤ 20476 := by
  cases hkind : cfg.kind.bipolar with
  | false =>
    have := polarCount_unipolar hw hzeroLow hzeroHigh hkind
    omega
  | true =>
    have := polarCount_bipolar hw hzeroLow hzeroHigh hkind
    omega

variable (hspan : cfg.span ≤ 8191) (hfs : cfg.fs ≤ 4000)

include hspan hfs

theorem scaledValue_unipolar (hkind : cfg.kind.bipolar = false) :
    cfg.base - 1999 ≤ scaledValue cfg w ∧ scaledValue cfg w ≤ cfg.base + 9997 := by
  obtain ⟨hlow, hhigh⟩ := polarCount_unipolar hw hzeroLow hzeroHigh hkind
  have hle := roundDiv_le (mul_mul_le (p := 20476) hhigh hspan hfs) (4096 * 16384)
  have hge := neg_le_roundDiv (neg_le_mul_mul (p := 4095) hlow hspan hfs) (4096 * 16384)
  rw [show roundDivNat (20476 * 8191 * 4000) (4096 * 16384) = 9997 by rfl] at hle
  rw [show roundDivNat (4095 * 8191 * 4000) (4096 * 16384) = 1999 by rfl] at hge
  rw [scaledValue, hkind, if_neg (by decide)]
  omega

theorem scaledValue_bipolar (hkind : cfg.kind.bipolar = true) :
    cfg.base - 11998 ≤ scaledValue cfg w ∧ scaledValue cfg w ≤ cfg.base + 11995 := by
  obtain ⟨hlow, hhigh⟩ := polarCount_bipolar hw hzeroLow hzeroHigh hkind
  have hle := roundDiv_le (mul_mul_le (p := 12284) hhigh hspan hfs) (4096 * 8192)
  have hge := neg_le_roundDiv (neg_le_mul_mul (p := 12287) hlow hspan hfs) (4096 * 8192)
  rw [show roundDivNat (12284 * 8191 * 4000) (4096 * 8192) = 11995 by rfl] at hle
  rw [show roundDivNat (12287 * 8191 * 4000) (4096 * 8192) = 11998 by rfl] at hge
  rw [scaledValue, if_pos hkind]
  omega

end Stages

theorem ChanKind.gas_iff (k : ChanKind) : k.gas = true ↔ k = .co ∨ k = .no2 := by cases k <;> decide

theorem ChanKind.bipolar_ne {k : ChanKind} (h : k.bipolar = true) : k ≠ .temperature ∧ k ≠ .general := by
  constructor <;> (rintro rfl; exact absurd h (by decide))

/-- Stage 5 moves a value of a gas cell by no more than 115965 (R59). -/
theorem compensatedValue_natAbs {cfg : ChanConfig} {e : Int} (htc : cfg.tc.natAbs ≤ 200) {tv : Option Int}
    (htv : ∀ x, tv = some x → -2000 ≤ x ∧ x ≤ 6000) (he : e.natAbs ≤ 11998)
    (hgas : cfg.kind.gas = true → e.natAbs ≤ 9997) : (compensatedValue cfg tv e).natAbs ≤ 125962 := by
  unfold compensatedValue
  split
  · omega
  · next t =>
    split
    · next hkind =>
      obtain ⟨hlow, hhigh⟩ := htv t rfl
      have hround := natAbs_roundDiv_le (natAbs_mul_mul_le (hgas hkind) htc (show (t - 200).natAbs ≤ 5800 by omega)) 100000
      rw [show roundDivNat (9997 * 200 * 5800) 100000 = 115965 by rfl] at hround
      have := hgas hkind
      omega
    · omega

/-- Stage 6 moves a value by no more than 2000 (R61). -/
theorem crossedValue_natAbs {cfg : ChanConfig} {e : Int} (hxs : cfg.xs.natAbs ≤ 500) {xv : Option Int}
    (hxv : ∀ x, xv = some x → 0 ≤ x ∧ x ≤ 4000) : (crossedValue cfg xv e).natAbs ≤ e.natAbs + 2000 := by
  unfold crossedValue
  split
  · omega
  · next x =>
    obtain ⟨hlow, hhigh⟩ := hxv x rfl
    have hprod : (x * cfg.xs).natAbs ≤ 4000 * 500 := by
      rw [Int.natAbs_mul]
      exact Nat.mul_le_mul (by omega) hxs
    have hround := natAbs_roundDiv_le hprod 1000
    rw [show roundDivNat (4000 * 500) 1000 = 2000 by rfl] at hround
    omega

/-- Settles O23: stage by stage; only a gas cell is compensated, and its base is 0. -/
theorem arithmeticBounds : Obligations.ArithmeticBounds := by
  intro cfg w tv xv hw hzeroLow hzeroHigh _ hspan _ hfs hbaseLow hbaseHigh hbase htcLow htcHigh hxsLow hxsHigh htv hxv
  have huni := scaledValue_unipolar hw hzeroLow hzeroHigh hspan hfs
  have hbi := scaledValue_bipolar hw hzeroLow hzeroHigh hspan hfs
  have hbaseBi : cfg.kind.bipolar = true → cfg.base = 0 := fun h => hbase (ChanKind.bipolar_ne h).1 (ChanKind.bipolar_ne h).2
  have hbaseGas : cfg.kind.gas = true → cfg.base = 0 ∧ cfg.kind.bipolar = false := fun h => by
    rcases cfg.kind.gas_iff.mp h with hk | hk <;>
      exact ⟨hbase (by rw [hk]; decide) (by rw [hk]; decide), by rw [hk]; rfl⟩
  have hscaled : (scaledValue cfg w).natAbs ≤ 11998 := by
    cases hkind : cfg.kind.bipolar with
    | false =>
      have := huni hkind
      omega
    | true =>
      have := hbi hkind
      have := hbaseBi hkind
      omega
  have hgas : cfg.kind.gas = true → (scaledValue cfg w).natAbs ≤ 9997 := fun h => by
    obtain ⟨hzero, hkind⟩ := hbaseGas h
    have := huni hkind
    omega
  have hcompensated := compensatedValue_natAbs (show cfg.tc.natAbs ≤ 200 by omega) htv hscaled hgas
  refine ⟨?_, ?_, fun hkind => ?_, fun hkind => ?_, hcompensated, ?_⟩
  · rintro num den e rfl rfl rfl
    have hd : 0 < 4096 * (if cfg.kind.bipolar then 8192 else 16384) := by split <;> decide
    have hnearest := roundDiv_nearest hd (polarCount cfg w * cfg.span * cfg.fs)
    rw [scaledValue, add_sub_cancel_right]
    push_cast at hnearest ⊢
    refine ⟨hnearest.1.trans ?_, fun h => hnearest.2 (h.trans ?_)⟩ <;> split <;> simp
  · exact natAbs_mul_mul_le (y := cfg.span) (z := cfg.fs) (natAbs_polarCount hw hzeroLow hzeroHigh) hspan hfs
  · have := huni hkind
    omega
  · have := hbi hkind
    have := hbaseBi hkind
    omega
  · have := crossedValue_natAbs (e := compensatedValue cfg tv (scaledValue cfg w)) (show cfg.xs.natAbs ≤ 500 by omega) hxv
    omega

/-! ### The current step (R156) -/

/-- The search of the steps finds one whose threshold less the margin is reached, numbered from n. -/
theorem highestStep_found (margin index top : Nat) (steps : List DemandStep) (n : Nat) :
    highestStep steps margin index top n = 0 ∨ ∃ i st, steps[i]? = some st ∧ highestStep steps margin index top n = n + i ∧
      n + i ≤ top ∧ st.threshold ≤ index + margin := by
  induction steps generalizing n with
  | nil => exact .inl rfl
  | cons st rest ih =>
    rw [highestStep]
    rcases le_total (highestStep rest margin index top (n + 1)) (if n ≤ top ∧ st.threshold ≤ index + margin then n else 0)
      with hle | hle
    · rw [max_eq_left hle]
      split
      · next hfound => exact .inr ⟨0, st, rfl, rfl, hfound⟩
      · exact .inl rfl
    · rw [max_eq_right hle]
      refine (ih (n + 1)).imp_right fun ⟨i, st', hi, heq, hreached⟩ => ⟨i + 1, st', hi, ?_, ?_⟩
      · omega
      · rwa [Nat.add_right_comm, Nat.add_assoc] at hreached

/-- It finds the highest one. -/
theorem le_highestStep (margin index top : Nat) (steps : List DemandStep) (n : Nat) {i : Nat} {st : DemandStep}
    (hi : steps[i]? = some st) (htop : n + i ≤ top) (hreached : st.threshold ≤ index + margin) :
    n + i ≤ highestStep steps margin index top n := by
  induction steps generalizing n i with
  | nil => simp at hi
  | cons st' rest ih =>
    rw [highestStep]
    cases i with
    | zero =>
      obtain rfl : st' = st := by simpa using hi
      exact le_max_of_le_left (by rw [if_pos ⟨htop, hreached⟩]; omega)
    | succ i =>
      have := ih (n + 1) (by simpa using hi) (by omega)
      exact le_max_of_le_right (by omega)

/-- Settles O45: both searches find the highest step of their kind, and the greater of the two is taken. -/
theorem demandStepSelected : Obligations.DemandStepSelected := by
  intro r imax current holds hholds
  have hstep : ∀ i : Nat, 1 + i - 1 = i := fun i => by omega
  refine ⟨?_, fun n hn => ?_⟩
  · rcases le_total (highestStep r.steps r.dh imax current 1) (highestStep r.steps 0 imax r.steps.length 1) with hle | hle
    · rw [selectedStep, max_eq_left hle]
      refine (highestStep_found _ _ _ _ 1).imp_right fun ⟨i, st, hi, heq, _, hreached⟩ => ?_
      rw [heq, hholds]
      exact ⟨st, by omega, by rwa [hstep], .inl hreached⟩
    · rw [selectedStep, max_eq_right hle]
      refine (highestStep_found _ _ _ _ 1).imp_right fun ⟨i, st, hi, heq, htop, hreached⟩ => ?_
      rw [heq, hholds]
      exact ⟨st, by omega, by rwa [hstep], .inr ⟨htop, by omega⟩⟩
  · obtain ⟨st, hpos, hi, hreached⟩ := (hholds n).mp hn
    have hnumber : 1 + (n - 1) = n := by omega
    have hlt : n - 1 < r.steps.length := (List.getElem?_eq_some_iff.mp hi).1
    rcases hreached with hreached | ⟨hcurrent, hkept⟩
    · have := le_highestStep 0 imax r.steps.length r.steps 1 hi (by omega) hreached
      exact le_max_of_le_left (by omega)
    · have := le_highestStep r.dh imax current r.steps 1 hi (by omega) (by omega)
      exact le_max_of_le_right (by omega)

/-! ### Inputs, counts and stamps (R21, R125, R128, R135, R174) -/

theorem expireStamps_sameBut (s : State) : sameBut [.fans, .rau, .doors] s (expireStamps s) := by
  intro p hp
  cases p with
  | fans | rau | doors => exact absurd (by decide) hp
  | _ => rfl

/-- Settles O40: each command writes the one record that it is about. -/
theorem inputsAndCountsKept : Obligations.InputsAndCountsKept := by
  intro s
  refine ⟨fun level => ?_, fun f level hchange => ?_, fun f level hchange => ?_, fun d c level hchange => ?_,
    fun f w hrunning hsince hpassed => ?_, expireStamps s, rfl, expireStamps_sameBut s, fun x => ?_, fun f => ?_, rfl,
    fun d => ?_⟩
  · change Host.Outcome.next (changeInhibit level s) = _
    rw [changeInhibit, Debounced.change]
    split <;> rfl
  · change Host.Outcome.next (s.setFan f { s.fan f with vibration := (s.fan f).vibration.change level s.tb.uptime }) = _
    rw [Debounced.change, if_neg hchange]
  · change Host.Outcome.next (s.setFan f { s.fan f with driveFault := (s.fan f).driveFault.change level s.tb.uptime }) = _
    rw [Debounced.change, if_neg hchange]
  · change Host.Outcome.next (changeContact d c level s) = _
    rw [changeContact, State.modDoor, ContactState.change, if_neg hchange]
  · change Host.Outcome.next (clearRetryCount f s) = _
    have hover : s.runOver f = true := by simp [State.runOver, hrunning, hsince, State.passedOpt, hpassed]
    rw [clearRetryCount, if_pos hover]
    rfl
  · simp only [State.expire, State.passed, decide_eq_true_eq]
  · simp [State.fan, expireStamps]
  · simp [State.door, expireStamps]

/-! ### SET SCAN and SCAN STOP (R40, R44) -/

theorem scanLocked_iff (s : State) : s.scanLocked = true ↔ s.cal.phase.airOn = true ∨ s.cal.span ≠ none := by
  simp [State.scanLocked, Option.isSome_iff_ne_none]

/-- Settles O19: the two requests are served by the scan's state and the lock. -/
theorem scanRequestsAct : Obligations.ScanRequestsAct := by
  intro fields list s hready hlength hentries
  have hset : exec (.setScan .addressed fields) s = .next (beginService 0x12 (setScan list fields (contact s))) := by
    rw [exec_served hready rfl rfl hlength]
    simp only [serveOf, serveSetScan, hentries]
  have hstop : exec (.scanStop .addressed []) s = .next (beginService 0x19 (serveScanStop [] (contact s))) :=
    (exec_served hready rfl rfl rfl).trans rfl
  have hlock : (contact s).scanLocked = s.scanLocked := by simp [State.scanLocked]
  refine ⟨fun hidle hair hspan => ?_, fun hbarred => ?_, fun hlocked => ?_, fun hair hspan => ?_⟩
  · have hfree : ¬((contact s).scn.state ≠ .idle ∨ (contact s).scanLocked = true) := by
      rw [hlock, scanLocked_iff]
      simp [hidle, hair, hspan]
    rw [hset, setScan, if_neg hfree]
    simp only [beginService_answer, clampedScan, contact_scn, Bool.decide_or, Bool.or_assoc, Scan.bytes, Scan.replaced]
    congr 3
    split <;> rfl
  · rw [hset, setScan, if_pos (by rwa [hlock, scanLocked_iff, contact_scn]), beginService_refuse]
  · rw [hstop, serveScanStop, if_pos (by rwa [hlock, scanLocked_iff]), beginService_refuse]
  · have hfree : ¬(contact s).scanLocked = true := by
      rw [hlock, scanLocked_iff]
      simp [hair, hspan]
    rw [hstop, serveScanStop, if_neg hfree, beginService_answer, contact_scn, Scan.stopped]
    rfl

end Sys2Proof.Machine

end

/-! PROOFS. What each command leaves alone: the components that an act reaches, that it only appends to the event queue, and the frame
of every command. -/

section

namespace Sys2Proof.Machine

/-! ### Acts that alter some components and append to the event queue -/

/-- The event queue r is the queue q with entries appended, none of them with the GAP mark of its own. -/
def Grown (q r : EventQueue) : Prop := ∃ es : List Event, (∀ e ∈ es, e.gap = false) ∧ r = es.foldl EventQueue.push q

theorem Grown.appended {q r : EventQueue} (h : Grown q r) : Appended q r := by
  obtain ⟨es, -, heq⟩ := h
  exact ⟨es, heq⟩

theorem Grown.refl (q : EventQueue) : Grown q q := ⟨[], fun _ h => absurd h List.not_mem_nil, rfl⟩

theorem Grown.trans {q r u : EventQueue} (h : Grown q r) (k : Grown r u) : Grown q u := by
  obtain ⟨es, hes, rfl⟩ := h
  obtain ⟨fs, hfs, rfl⟩ := k
  exact ⟨es ++ fs, fun e he => (List.mem_append.mp he).elim (hes e) (hfs e), List.foldl_append.symm⟩

/-- The push of one entry. -/
theorem Grown.push (q : EventQueue) {e : Event} (h : e.gap = false) : Grown q (q.push e) :=
  ⟨[e], fun x hx => by rw [List.mem_singleton.mp hx, h], rfl⟩

/-- From s to t nothing but these components has changed, and the event queue has only had entries appended. -/
abbrev Alters (ps : List Part) (s t : State) : Prop := sameBut ps s t ∧ Grown s.evq t.evq

theorem Alters.refl (ps : List Part) (s : State) : Alters ps s s := ⟨fun p _ => by cases p <;> rfl, .refl _⟩

theorem Alters.trans {ps : List Part} {s t u : State} (h : Alters ps s t) (k : Alters ps t u) : Alters ps s u :=
  ⟨h.1.trans k.1, h.2.trans k.2⟩

theorem Alters.mono {ps qs : List Part} {s t : State} (h : Alters ps s t) (hsub : ps ⊆ qs) : Alters qs s t :=
  ⟨h.1.mono hsub, h.2⟩

theorem Alters.ite {ps : List Part} {s t u : State} {c : Prop} [Decidable c] (h : c → Alters ps s t) (k : ¬c → Alters ps s u) :
    Alters ps s (if c then t else u) := by
  split
  · next hc => exact h hc
  · next hc => exact k hc

/-- Acts that do not reach the scan, the doors and the node's own components. -/
theorem alters_reached {s : State} {evq : EventQueue} (h : Grown s.evq evq) (channels : Vector Channel 10) (cal : Cal)
    (fans : Vector Fan 4) (rau : Rau) :
    Alters Part.reached s { s with evq := evq, channels := channels, cal := cal, fans := fans, rau := rau } := by
  refine ⟨fun p hp => ?_, h⟩
  cases p with
  | evq | channels | cal | fans | rau => exact absurd (by decide) hp
  | _ => rfl

/-- The components that an act of the fan drive units changes before its hand-overs. -/
abbrev fanParts : List Part := [.evq, .fans]

/-- The components that an act of the calibration unit or on a channel changes before its hand-overs. -/
abbrev calParts : List Part := [.evq, .channels, .cal]

/-- The components that an act of the RAU changes before its hand-overs. -/
abbrev rauParts : List Part := [.evq, .rau]

theorem alters_fans {s : State} {evq : EventQueue} (h : Grown s.evq evq) (fans : Vector Fan 4) :
    Alters fanParts s { s with evq := evq, fans := fans } := by
  refine ⟨fun p hp => ?_, h⟩
  cases p with
  | evq | fans => exact absurd (by decide) hp
  | _ => rfl

theorem alters_cal {s : State} {evq : EventQueue} (h : Grown s.evq evq) (channels : Vector Channel 10) (cal : Cal) :
    Alters calParts s { s with evq := evq, channels := channels, cal := cal } := by
  refine ⟨fun p hp => ?_, h⟩
  cases p with
  | evq | channels | cal => exact absurd (by decide) hp
  | _ => rfl

theorem alters_rau {s : State} {evq : EventQueue} (h : Grown s.evq evq) (rau : Rau) :
    Alters rauParts s { s with evq := evq, rau := rau } := by
  refine ⟨fun p hp => ?_, h⟩
  cases p with
  | evq | rau => exact absurd (by decide) hp
  | _ => rfl

/-- Acts on the doors, with the vestibule and the RAU's door open condition. -/
theorem alters_doors {s : State} {evq : EventQueue} (h : Grown s.evq evq) (rau : Rau) (doors : Vector Door 2)
    (vestibule : Vestibule) :
    Alters [.evq, .rau, .doors, .vestibule] s { s with evq := evq, rau := rau, doors := doors, vestibule := vestibule } := by
  refine ⟨fun p hp => ?_, h⟩
  cases p with
  | evq | rau | doors | vestibule => exact absurd (by decide) hp
  | _ => rfl

theorem sameBut_lif (s : State) (lif : Lif) : sameBut [.lif] s { s with lif := lif } := by
  intro p hp
  cases p with
  | lif => exact absurd (by decide) hp
  | _ => rfl

theorem sameBut_scn (s : State) (scn : Scan) : sameBut [.scn] s { s with scn := scn } := by
  intro p hp
  cases p with
  | scn => exact absurd (by decide) hp
  | _ => rfl

theorem sameBut_fans (s : State) (fans : Vector Fan 4) : sameBut [.fans] s { s with fans := fans } := by
  intro p hp
  cases p with
  | fans => exact absurd (by decide) hp
  | _ => rfl

theorem sameBut_doors (s : State) (doors : Vector Door 2) : sameBut [.doors] s { s with doors := doors } := by
  intro p hp
  cases p with
  | doors => exact absurd (by decide) hp
  | _ => rfl

theorem sameBut_inhibit (s : State) (x : Debounced) : sameBut [.inhibit] s { s with inhibit := x } := by
  intro p hp
  cases p with
  | inhibit => exact absurd (by decide) hp
  | _ => rfl

theorem sameBut_channels (s : State) (x : Vector Channel 10) : sameBut [.channels] s { s with channels := x } := by
  intro p hp
  cases p with
  | channels => exact absurd (by decide) hp
  | _ => rfl

theorem sameBut_evq (s : State) (q : EventQueue) : sameBut [.evq] s { s with evq := q } := by
  intro p hp
  cases p with
  | evq => exact absurd (by decide) hp
  | _ => rfl

theorem sameBut_choices (s : State) (n : Nat) : sameBut [.choices] s { s with choices := n } := by
  intro p hp
  cases p with
  | choices => exact absurd (by decide) hp
  | _ => rfl

/-- An entry appended, among any components that hold the event queue. -/
theorem appendEvent_alters {ps : List Part} (src : Source) (code : EventCode) (l : Option Nat) (v : Option Int) (s : State)
    (h : .evq ∈ ps := by decide) : Alters ps s (appendEvent src code l v s) :=
  ⟨(sameBut_evq s _).mono fun _ hp => List.mem_singleton.mp hp ▸ h, .push _ rfl⟩

/-! ### The fan drive units -/

theorem modFan_alters (f : FanNo) (g : Fan → Fan) (s : State) : Alters fanParts s (s.modFan f g) :=
  alters_fans (.refl _) _

theorem moveFan_alters (f : FanNo) (g : Fan → Fan) (s : State) : Alters fanParts s (moveFan f g s).1 :=
  modFan_alters f g s

/-- An entry of a fan, and the move that it stands for. -/
theorem moveFan_fanEvent_alters (f : FanNo) (g : Fan → Fan) (code : EventCode) (l : Option Nat) (v : Option Int) (s : State) :
    Alters fanParts s (moveFan f g (fanEvent f code l v s)).1 :=
  (appendEvent_alters _ _ _ _ s).trans (moveFan_alters f g _)

theorem budgetAttempt_alters (f : FanNo) (s : State) : Alters fanParts s (budgetAttempt f s).1 := by
  simp only [budgetAttempt]
  split
  · exact (modFan_alters f _ s).trans (moveFan_alters f _ _)
  · exact (modFan_alters f _ s).trans (moveFan_fanEvent_alters _ _ _ _ _ _)

/-! ### Hand-overs -/

theorem startAttempt_alters (f : FanNo) (s : State) : Alters fanParts s (startAttempt f s).1 := by
  simp only [startAttempt]
  split
  · split
    · exact moveFan_fanEvent_alters _ _ _ _ _ _
    · exact budgetAttempt_alters f s
  · exact .refl _ s

theorem changeStage_alters (f : FanNo) (s : State) : Alters fanParts s (changeStage f s).1 := by
  unfold changeStage
  split
  · exact moveFan_alters f _ s
  · exact modFan_alters f _ s
  · exact modFan_alters f _ s
  · exact .refl _ s

theorem followHandover_alters (f : FanNo) (eff : Nat) (s : State) : Alters fanParts s (followHandover f eff s).1 := by
  have hstop : Alters fanParts s (stopFan f s).1 := moveFan_fanEvent_alters _ _ _ _ _ _
  have hreverse : Alters fanParts s (reverseFan f s).1 := moveFan_fanEvent_alters _ _ _ _ _ _
  cases h : (s.fan f).state with
  | none => simpa only [followHandover, h] using Alters.refl _ s
  | some st =>
    cases st with
    | stopped => simpa only [followHandover, h] using startAttempt_alters f s
    | waitingBudget =>
      simp only [followHandover, h]
      split_ifs
      · exact hstop
      · exact budgetAttempt_alters f s
      · exact .refl _ s
    | starting | changing | running =>
      simp only [followHandover, h]
      split_ifs
      · exact hstop
      · exact hreverse
      · exact changeStage_alters f s
      · exact .refl _ s
    | coasting | tripped | inhibited => simpa only [followHandover, h] using Alters.refl _ s

theorem receiveHandover_alters (f : FanNo) (s : State) : Alters fanParts s (receiveHandover f s).1 :=
  (modFan_alters f _ s).trans (followHandover_alters f _ _)

theorem grantStart_alters (f : FanNo) (s : State) : Alters fanParts s (grantStart f s).1 := by
  unfold grantStart
  split
  · exact moveFan_alters f _ s
  · exact .refl _ s

theorem takeContribution_alters (c : ChanNo) (s : State) : Alters rauParts s (takeContribution c s) :=
  alters_rau (.refl _) _

theorem receiveCalEnd_alters (c : ChanNo) (s : State) : Alters rauParts s (receiveCalEnd c s).1 :=
  .ite (fun _ => takeContribution_alters c s) fun _ => .refl _ s

theorem endCalibration_alters (c : ChanNo) (l : List CalEntry) (s : State) : Alters calParts s (endCalibration c l s).1 :=
  alters_cal (.refl _) _ _

theorem quietTest_alters (s : State) : Alters calParts s (quietTest s).1 := by
  unfold quietTest
  split
  · exact .refl _ s
  · split
    · exact alters_cal (.refl _) _ _
    · exact .refl _ s

theorem nextHead_alters (s : State) : Alters calParts s (nextHead s).1 := by
  unfold nextHead
  split
  · exact .refl _ s
  · split
    · exact alters_cal (.refl _) _ _
    · exact .refl _ s

theorem quietLost_alters (s : State) : Alters calParts s (quietLost s).1 := by
  unfold quietLost
  split
  · exact .refl _ s
  · split
    · exact (appendEvent_alters _ _ _ _ s).trans (endCalibration_alters _ _ _)
    · exact .refl _ s

theorem calHears_alters (before after : Option FanState) (s : State) : Alters calParts s (calHears before after s).1 := by
  unfold calHears
  split
  · exact quietLost_alters s
  · exact .refl _ s

theorem loadCountdowns_alters (s : State) : Alters calParts s (loadCountdowns s) := alters_cal (.refl _) _ _

theorem fanMoved_alters (before after : Option FanState) (s : State) : Alters calParts s (fanMoved before after s).1 := by
  simp only [fanMoved]
  split
  · exact (loadCountdowns_alters s).trans (calHears_alters _ _ _)
  · exact calHears_alters _ _ s

theorem reevaluate_alters (s : State) : Alters rauParts s (reevaluate s).1 := by
  simp only [reevaluate]
  split_ifs <;> exact alters_rau (.refl _) _

theorem evaluateShort_alters (s : State) : Alters rauParts s (evaluateShort s) := by
  have hset : ∀ b, Alters rauParts s { s with rau := { s.rau with short := b } } := fun _ =>
    alters_rau (.refl _) _
  unfold evaluateShort
  split_ifs
  · exact .refl _ s
  · exact (hset true).trans (appendEvent_alters _ _ _ _ _)
  · exact (hset false).trans (appendEvent_alters _ _ _ _ _)
  · exact .refl _ s

theorem setRequests_alters (g : FanNo → RauFan → RauFan) (s : State) : Alters rauParts s (setRequests g s) :=
  alters_rau (.refl _) _

theorem applyAllocation_alters (demand : Nat) (s : State) : Alters rauParts s (applyAllocation demand s) :=
  alters_rau (.refl _) _

theorem giveRole_alters (f : FanNo) (s : State) : Alters rauParts s (giveRole f s).1 := by
  unfold giveRole
  split
  · exact alters_rau (.refl _) _
  · exact .refl _ s

theorem perform_alters (w : Work) (s : State) : Alters Part.reached s (perform w s).1 := by
  cases w with
  | fanMoved f b a => exact (fanMoved_alters b a s).mono (by decide)
  | startAttempt f => exact (startAttempt_alters f s).mono (by decide)
  | handFan f =>
    simp only [perform]
    split
    · exact .refl _ s
    · exact (receiveHandover_alters f s).mono (by decide)
  | handRegime f => exact (receiveHandover_alters f s).mono (by decide)
  | contribution c => exact (takeContribution_alters c s).mono (by decide)
  | calEnded c => exact (receiveCalEnd_alters c s).mono (by decide)
  | nextHead => exact (nextHead_alters s).mono (by decide)
  | quietTest => exact (quietTest_alters s).mono (by decide)
  | reevaluate => exact (reevaluate_alters s).mono (by decide)
  | reform => exact alters_reached (.refl _) _ _ _ _
  | giveRole f => exact (giveRole_alters f s).mono (by decide)
  | demandShort => exact (evaluateShort_alters s).mono (by decide)
  | grant f => exact (grantStart_alters f s).mono (by decide)
  | availability | grantDue => exact .refl _ s

theorem run_alters (ws : List Work) (s : State) : Alters Part.reached s (run ws s) :=
  run_keeps (Alters Part.reached s) (fun w _ h => h.trans (perform_alters w _)) ws s (.refl _ s)

/-- An act, and the hand-overs of a command after it. -/
theorem Alters.run {ps qs : List Part} {s t : State} (h : Alters qs s t) (hsub : Part.reached ⊆ ps) (ws : List Work)
    (hqs : qs ⊆ ps := by decide) : Alters ps s (run ws t) := (h.mono hqs).trans ((run_alters ws t).mono hsub)

/-- An act, and the hand-overs that it asks for. -/
theorem Alters.runEffect {ps qs : List Part} {s : State} {e : Effect} (h : Alters qs s e.1) (hsub : Part.reached ⊆ ps)
    (hqs : qs ⊆ ps := by decide) : Alters ps s (runEffect e) := h.run hsub e.2 hqs

theorem handRecovery_alters (recovered : Bool) (c : ChanNo) (s : State) : Alters Part.reached s (handRecovery recovered c s) :=
  run_alters _ s

/-! ### Acts of the fan drive units -/

theorem endCoast_alters (f : FanNo) (s : State) : Alters fanParts s (endCoast f s).1 := by
  unfold endCoast
  split
  · exact budgetAttempt_alters f s
  · exact moveFan_fanEvent_alters _ _ _ _ _ _

theorem tripFan_alters (f : FanNo) (cause : TripCause) (s : State) : Alters fanParts s (tripFan f cause s).1 := by
  unfold tripFan
  split
  · exact moveFan_fanEvent_alters _ _ _ _ _ _
  · exact .refl _ s

theorem raiseStall_alters (f : FanNo) (s : State) : Alters fanParts s (raiseStall f s).1 := by
  unfold raiseStall
  split
  · exact tripFan_alters f _ s
  · exact .refl _ s

theorem sourceActive_alters (f : FanNo) (cause : TripCause) (s : State) :
    Alters fanParts s (sourceActive f cause s).1 := by
  unfold sourceActive
  split
  · exact tripFan_alters f _ s
  · exact .refl _ s

theorem clearTrip_alters (f : FanNo) (level count : Nat) (s : State) : Alters fanParts s (clearTrip f level count s).1 :=
  (modFan_alters f _ s).trans ((appendEvent_alters _ _ _ _ _).trans (modFan_alters f _ _))

theorem saturate_alters (f : FanNo) (s : State) : Alters fanParts s (saturate f s).1 := by
  simp only [saturate]
  split
  · exact (modFan_alters f _ s).trans (endCoast_alters f _)
  · exact modFan_alters f _ s

theorem speedOff_alters (f : FanNo) (s : State) : Alters fanParts s (speedOff f s).1 := moveFan_fanEvent_alters _ _ _ _ _ _

theorem endTests_alters (f : FanNo) (p : Nat) (s : State) : Alters fanParts s (endTests f p s).1 := by
  simp only [endTests]
  split
  · split
    · exact moveFan_fanEvent_alters _ _ _ _ _ _
    · exact .refl _ s
  · split
    · exact moveFan_fanEvent_alters _ _ _ _ _ _
    · exact .refl _ s
  · split
    · exact endCoast_alters f s
    · exact .refl _ s
  · exact .refl _ s

theorem risingEdge_alters (f : FanNo) (s : State) : Alters fanParts s (risingEdge f s).1 := by
  simp only [risingEdge]
  split
  · exact modFan_alters f _ s
  · split
    · exact (modFan_alters f _ s).trans (endTests_alters f _ _)
    · exact (saturate_alters f s).trans (modFan_alters f _ _)

theorem recheckBudget_alters (f : FanNo) (s : State) : Alters fanParts s (recheckBudget f s).1 := by
  simp only [recheckBudget]
  split
  · exact modFan_alters f _ s
  · exact (modFan_alters f _ s).trans (appendEvent_alters _ _ _ _ _)

theorem tripOrMove_alters (f : FanNo) (g : Fan → Fan) (s : State) :
    Alters (.choices :: fanParts) s (tripOrMove f g s).1 := by
  unfold tripOrMove
  split
  · exact (moveFan_alters f _ s).mono (by decide)
  · next n _ =>
    have hchoices : Alters (.choices :: fanParts) s { s with choices := n } :=
      ⟨(sameBut_choices s n).mono (by decide), .refl _⟩
    exact hchoices.trans ((moveFan_fanEvent_alters _ _ _ _ _ _).mono (by decide))

theorem placeFan_alters (f : FanNo) (cfg : FanConfig) (s : State) :
    Alters (.choices :: fanParts) s (placeFan f cfg s).1 := by
  have hcfg : Alters (.choices :: fanParts) s (s.modFan f (·.withCfg cfg)) := (modFan_alters f _ s).mono (by decide)
  simp only [placeFan]
  split
  · exact hcfg
  · exact hcfg.trans (tripOrMove_alters _ _ _)
  · exact hcfg.trans ((modFan_alters _ _ _).mono (by decide))
  · split
    · exact hcfg
    · exact hcfg.trans (tripOrMove_alters _ _ _)
  · exact hcfg.trans ((moveFan_alters _ _ _).mono (by decide))

/-! ### OUTPUT INHIBIT (R125, R126) -/

theorem inhibitFan_alters (s : State) (f : FanNo) : Alters Part.reached s (inhibitFan s f) :=
  .ite (fun _ => .runEffect (moveFan_alters f _ s) (by decide)) fun _ => .refl _ s

theorem releaseInhibited_alters (s : State) (f : FanNo) : Alters Part.reached s (releaseInhibited s f) :=
  .ite (fun _ => .runEffect (moveFan_alters f _ s) (by decide)) fun _ => .refl _ s

theorem foldl_alters {α : Type} {ps : List Part} {g : State → α → State} (h : ∀ s a, Alters ps s (g s a)) (l : List α) (s : State) :
    Alters ps s (l.foldl g s) := by
  induction l generalizing s with
  | nil => exact .refl ps s
  | cons a l ih => exact (h s a).trans (ih (g s a))

theorem inFreeOrder_alters {g : State → FanNo → State} (h : ∀ s f, Alters Part.reached s (g s f)) (fans : List FanNo) (s : State) :
    Alters (.choices :: Part.reached) s (inFreeOrder fans g s) :=
  Alters.trans ⟨(sameBut_choices s (freeOrder s.choices fans).2).mono (by decide), .refl _⟩ <|
    foldl_alters (fun s f => (h s f).mono (by decide)) _ _

theorem settleInhibit_alters (code : EventCode) (s : State) :
    Alters (.inhibit :: .choices :: Part.reached) s (settleInhibit code s) :=
  Alters.trans ⟨(sameBut_inhibit s s.inhibit.settle).mono (by decide), .refl _⟩ <|
    appendEvent_alters _ _ _ _ _

theorem inhibitActive_alters (s : State) : Alters (.inhibit :: .choices :: Part.reached) s (inhibitActive s) :=
  .ite (fun _ => (settleInhibit_alters _ s).trans ((inFreeOrder_alters inhibitFan_alters _ _).mono (by decide)))
    fun _ => .refl _ s

theorem inhibitInactive_alters (s : State) : Alters (.inhibit :: .choices :: Part.reached) s (inhibitInactive s) :=
  .ite (fun _ => (settleInhibit_alters _ s).trans ((inFreeOrder_alters releaseInhibited_alters _ _).mono (by decide)))
    fun _ => .refl _ s

/-! ### The calibration unit -/

theorem abortHead_alters (e : CalEntry) (a : AbortCause) (s : State) : Alters calParts s (abortHead e a s).1 :=
  (appendEvent_alters _ _ _ _ s).trans (endCalibration_alters _ _ _)

theorem cancelZero_alters (c : ChanNo) (s : State) : Alters calParts s (cancelZero c s).1 := by
  unfold cancelZero
  split
  · exact .refl _ s
  · split
    · split
      · exact abortHead_alters _ _ s
      · exact (appendEvent_alters _ _ _ _ s).trans (alters_cal (.refl _) _ _)
    · exact alters_cal (.refl _) _ _

theorem calEntry_alters (c : ChanNo) (code : EventCode) (v : Int) (s : State) : Alters calParts s (calEntry c code v s) :=
  appendEvent_alters _ _ _ _ s

theorem endSession_alters (sp : SpanSession) (code : EventCode) (g : Nat) (s : State) :
    Alters calParts s (endSession sp code g s).1 := alters_cal (.push _ rfl) _ _

theorem groupZeroChannel_alters (s : State) (c : ChanNo) : Alters Part.reached s (groupZeroChannel s c) :=
  .ite (fun _ => .runEffect (alters_reached (.refl _) _ _ _ _) (by decide)) fun _ => .refl _ s

theorem clearForIncident_alters (s : State) : Alters calParts s (clearForIncident s) := by
  unfold clearForIncident
  split
  · exact .refl _ s
  · exact (appendEvent_alters _ _ _ _ s).trans <|
      Alters.trans (.ite (fun _ => alters_cal (.refl _) _ _) fun _ => .refl _ _)
        (alters_cal (.refl _) _ _)

/-- The queue's part of an entry into INCIDENT (R92). -/
def clearQueue (s : State) : State :=
  match s.cal.head with
  | none => clearForIncident s
  | some e =>
    if (s.ch e.channel).cfg.participates then takeContribution e.channel (clearForIncident s) else clearForIncident s

/-- The session's part of an entry into INCIDENT (R104). -/
def clearSession (s : State) : State :=
  match s.cal.span with
  | none => s
  | some sp =>
    if (((endSession sp .spanAborted sp.entryG s).1).ch sp.channel).cfg.participates then
      takeContribution sp.channel (endSession sp .spanAborted sp.entryG s).1
    else (endSession sp .spanAborted sp.entryG s).1

/-- The CAL's part of an entry into INCIDENT is the queue's and then the session's. -/
theorem clearWork_eq (s : State) : clearWork s = clearSession (clearQueue s) := rfl

theorem clearQueue_alters (s : State) : Alters Part.reached s (clearQueue s) := by
  unfold clearQueue
  split
  · exact (clearForIncident_alters s).mono (by decide)
  · exact .ite (fun _ => ((clearForIncident_alters s).mono (by decide)).trans ((takeContribution_alters _ _).mono (by decide)))
      fun _ => (clearForIncident_alters s).mono (by decide)

theorem clearSession_alters (s : State) : Alters Part.reached s (clearSession s) := by
  unfold clearSession
  split
  · exact .refl _ s
  · exact .ite (fun _ => ((endSession_alters _ _ _ s).mono (by decide)).trans ((takeContribution_alters _ _).mono (by decide)))
      fun _ => (endSession_alters _ _ _ s).mono (by decide)

theorem clearWork_alters (s : State) : Alters Part.reached s (clearWork s) := by
  rw [clearWork_eq]
  exact (clearQueue_alters s).trans (clearSession_alters _)

/-! ### The doors -/

abbrev doorParts : List Part := [.evq, .rau, .doors, .vestibule]

theorem modDoor_alters (d : DoorNo) (g : Door → Door) (s : State) : Alters doorParts s (s.modDoor d g) :=
  alters_doors (.refl _) _ _ _

theorem updateBuzzer_alters (s : State) : Alters doorParts s (updateBuzzer s) := alters_doors (.refl _) _ _ _

theorem evaluateBreach_alters (s : State) : Alters doorParts s (evaluateBreach s) := by
  unfold evaluateBreach
  split_ifs
  · exact .refl _ s
  · exact alters_doors (.push _ rfl) _ _ _
  · exact alters_doors (.push _ rfl) _ _ _

theorem handDoor_alters (s : State) : Alters doorParts s (handDoor s) :=
  (evaluateBreach_alters s).trans ((updateBuzzer_alters _).trans (alters_doors (.refl _) _ _ _))

theorem moveDoor_alters (d : DoorNo) (m : Door × Option Int) (s : State) : Alters doorParts s (moveDoor d m s) :=
  Alters.trans (alters_doors (.push _ rfl) _ _ _) (handDoor_alters _)

theorem followUp_alters (d : DoorNo) (s : State) : Alters doorParts s (followUp d s) := by
  simp only [followUp]
  split
  · exact (modDoor_alters d _ s).trans (moveDoor_alters d _ _)
  · exact modDoor_alters d _ s

theorem contactActs_alters (d : DoorNo) (c : Contact) (level : Bool) (s : State) :
    Alters doorParts s (contactActs d c level s) := by
  simp only [contactActs]
  split
  · exact .refl _ s
  · exact .ite (fun _ => moveDoor_alters d _ s) fun _ => .refl _ s
  · split
    · exact modDoor_alters d _ s
    · exact (modDoor_alters d _ s).trans (moveDoor_alters d _ _)

theorem contactDrive_alters (d : DoorNo) (c : Contact) (s : State) : Alters doorParts s (contactDrive d c s) :=
  .ite (fun _ => (modDoor_alters d _ s).trans (followUp_alters d _)) fun _ => .refl _ s

theorem contactDebounced_alters (d : DoorNo) (c : Contact) (s : State) : Alters doorParts s (contactDebounced d c s).1 :=
  (modDoor_alters d _ s).trans <| (contactActs_alters d c _ _).trans <| (followUp_alters d _).trans (contactDrive_alters d c _)

theorem regimeDoor_alters (d : DoorNo) (s : State) : Alters doorParts s (regimeDoor d s) :=
  (modDoor_alters d _ s).trans (followUp_alters d _)

theorem regimeDoors_alters (s : State) : Alters doorParts s (regimeDoors s) :=
  (regimeDoor_alters 0 s).trans ((regimeDoor_alters 1 _).trans (updateBuzzer_alters _))

theorem holdExpiry_alters (d : DoorNo) (s : State) : Alters doorParts s (holdExpiry d s).1 := by
  unfold holdExpiry
  split
  · exact moveDoor_alters d _ s
  · exact .refl _ s

theorem waitExpiry_alters (d : DoorNo) (s : State) : Alters doorParts s (waitExpiry d s).1 := by
  unfold waitExpiry
  split
  · exact moveDoor_alters d _ s
  · exact .refl _ s

theorem faultExpiry_alters (d : DoorNo) (s : State) : Alters doorParts s (faultExpiry d s).1 := by
  unfold faultExpiry
  split
  · exact moveDoor_alters d _ s
  · exact .refl _ s

/-- The components that an act of the doors and its hand-overs reach. -/
abbrev doorReached : List Part := .doors :: .vestibule :: Part.reached

theorem placeDoor_alters (d : DoorNo) (cfg : DoorConfig) (s : State) : Alters doorReached s (placeDoor d cfg s) := by
  have hcfg : Alters doorReached s (s.modDoor d (·.withCfg cfg)) := (modDoor_alters d _ s).mono (by decide)
  simp only [placeDoor]
  split
  · exact hcfg
  · have hsettled : Alters doorParts (s.modDoor d (·.withCfg cfg)) (settleDoor d (moveDoor d
        (deriveDoor (s.modDoor d (·.withCfg cfg)) ((s.modDoor d (·.withCfg cfg)).door d)) (s.modDoor d (·.withCfg cfg)))) :=
      (moveDoor_alters d _ _).trans ((modDoor_alters d _ _).trans (followUp_alters d _))
    exact .run (hcfg.trans (hsettled.mono (by decide))) (by decide) _
  · refine .runEffect (qs := doorReached) (.trans (.runEffect (qs := doorReached) (hcfg.trans ((holdExpiry_alters d _).mono (by decide))) (by decide)) ?_) (by decide)
    exact (waitExpiry_alters d _).mono (by decide)
  · exact .run (hcfg.trans (((modDoor_alters d _ _).trans (handDoor_alters _)).mono (by decide))) (by decide) _

theorem doorAction_alters (d : DoorNo) (action : Nat) (s : State) : Alters doorReached s (doorAction d action s) := by
  simp only [doorAction]
  split
  · exact .refl _ s
  · exact .run ((modDoor_alters d _ s).trans (followUp_alters d _)) (by decide) _

theorem silence_alters (asked : Bool) (s : State) : Alters doorParts s (silence asked s) :=
  .ite (fun _ => alters_doors (.refl _) _ _ _) fun _ => .refl _ s

theorem commandDoors_alters (fields : List Byte) (s : State) : Alters doorReached s (commandDoors fields s) :=
  (doorAction_alters 0 _ s).trans ((doorAction_alters 1 _ _).trans ((silence_alters _ _).mono (by decide)))

/-! ### The channels and the scan -/

/-- The components that an act of the scan and its hand-overs reach. -/
abbrev scanReached : List Part := .scn :: Part.reached

theorem endVisit_alters (s : State) : Alters [.scn] s (endVisit s) := ⟨endVisit_sameBut s, by rw [endVisit_evq]; exact .refl _⟩

theorem beginVisit_alters (s : State) : Alters [.scn] s (beginVisit s) := by
  rw [beginVisit, beginVisits_eq]
  exact ⟨sameBut_scn s _, .refl _⟩

theorem setCh_alters (c : ChanNo) (x : Channel) (s : State) : Alters calParts s (s.setCh c x) :=
  alters_cal (.refl _) _ _

theorem restartChannel_alters (c : ChanNo) (cfg : ChanConfig) (s : State) :
    Alters (.scn :: calParts) s (restartChannel c cfg s).1 := by
  have hentry : Alters calParts s (reconfiguredEntry c (s.ch c).level (s.setCh c (restartedChannel cfg))) :=
    .ite (fun _ => (setCh_alters _ _ s).trans (appendEvent_alters _ _ _ _ _)) fun _ => setCh_alters _ _ s
  exact .ite (fun _ => (hentry.mono (by decide)).trans ((endVisit_alters _).mono (by decide)))
    fun _ => hentry.mono (by decide)

theorem faultyWindowDone_alters (c : ChanNo) (s : State) : Alters calParts s (faultyWindowDone c s).1 := by
  simp only [faultyWindowDone]
  split
  · exact (setCh_alters _ _ s).trans (appendEvent_alters _ _ _ _ _)
  · exact setCh_alters _ _ s

theorem goodWindowFirst_alters (c : ChanNo) (s : State) : Alters calParts s (goodWindowFirst c s) :=
  .ite (fun _ => (setCh_alters _ _ s).trans (appendEvent_alters _ _ _ _ _)) fun _ => setCh_alters _ _ s

theorem alarmEntry_alters (c : ChanNo) (before after : Nat) (f : Int) (s : State) :
    Alters calParts s (alarmEntry c before after f s) :=
  .ite (fun _ => appendEvent_alters _ _ _ _ s) fun _ => .ite (fun _ => appendEvent_alters _ _ _ _ s) fun _ => .refl _ s

theorem lowerUnsettled_alters (c : ChanNo) (s : State) : Alters calParts s (lowerUnsettled c s) := by
  unfold lowerUnsettled
  split
  · exact .refl _ s
  · exact .ite (fun _ => alters_cal (.refl _) _ _) fun _ => .refl _ s

theorem publish_alters (c : ChanNo) (w : Nat) (s : State) : Alters calParts s (publish c w s) :=
  (setCh_alters _ _ s).trans ((lowerUnsettled_alters _ _).trans (alarmEntry_alters _ _ _ _ _))

theorem longResult_alters (c : ChanNo) (zt : Nat) (s : State) : Alters calParts s (longResult c zt s) :=
  .ite (fun _ => alters_cal (.push _ rfl) _ _) fun _ => calEntry_alters _ _ _ s

theorem shortResult_alters (c : ChanNo) (zt : Nat) (s : State) : Alters calParts s (shortResult c zt s) :=
  .ite (fun _ => calEntry_alters _ _ _ s) fun _ => .ite (fun _ => (setCh_alters _ _ s).trans (calEntry_alters _ _ _ _)) fun _ =>
    (setCh_alters _ _ s).trans ((calEntry_alters _ _ _ _).trans (calEntry_alters _ _ _ _))

theorem finishCalibration_alters (e : CalEntry) (total : Nat) (s : State) :
    Alters calParts s (finishCalibration e total s).1 := by
  rw [finishCalibration_eq]
  exact Alters.trans (.ite (fun _ => longResult_alters _ _ s) fun _ => shortResult_alters _ _ s) (endCalibration_alters _ _ _)

theorem routeHead_alters (c : ChanNo) (w : Nat) (s : State) : Alters calParts s (routeHead c w s).1 := by
  unfold routeHead
  split
  · exact .refl _ s
  · split
    · simp only [receiveSum]
      split
      · exact Alters.trans (alters_cal (.refl _) _ _) (finishCalibration_alters _ _ _)
      · exact alters_cal (.refl _) _ _
    · exact .refl _ s

theorem goodWindowDone_alters (c : ChanNo) (w : Nat) (s : State) : Alters Part.reached s (goodWindowDone c w s) :=
  .ite (fun _ => .runEffect (qs := Part.reached) (((goodWindowFirst_alters c s).mono (by decide)).trans
      ((handRecovery_alters _ _ _).trans ((routeHead_alters _ _ _).mono (by decide)))) (by decide))
    fun _ => .runEffect ((goodWindowFirst_alters c s).trans (publish_alters _ _ _)) (by decide)

theorem windowDone_alters (c : ChanNo) (w : List Code) (s : State) : Alters Part.reached s (windowDone c w s) :=
  .ite (fun _ => .runEffect (faultyWindowDone_alters c s) (by decide)) fun _ => goodWindowDone_alters _ _ s

theorem sampleTaken_alters (code : Code) (s : State) : Alters Part.reached s (sampleTaken code s) := by
  unfold sampleTaken
  split
  · exact .refl _ s
  · exact .ite (fun _ => (setCh_alters _ _ s).mono (by decide))
      fun _ => ((setCh_alters _ _ s).mono (by decide)).trans (windowDone_alters _ _ _)

theorem converted_alters (code : Code) (s : State) : Alters scanReached s (converted code s) :=
  .ite (fun _ => ((sampleTaken_alters code s).mono (by decide)).trans ((endVisit_alters _).mono (by decide))) fun _ => .refl _ s

theorem startScan_alters (entry : Nat) (s : State) : Alters [.scn, .channels] s (startScan entry s) := by
  have hempty : Alters [.scn, .channels] s (emptyWindows s) := ⟨(sameBut_channels s _).mono (by decide), .refl _⟩
  have hstarted : Alters [.scn, .channels] (emptyWindows s) { emptyWindows s with scn := s.scn.started entry } :=
    ⟨(sameBut_scn _ _).mono (by decide), .refl _⟩
  exact hempty.trans (hstarted.trans ((beginVisit_alters _).mono (by decide)))

/-! ### The regime and the demand -/

theorem seekDemand_alters (s : State) : Alters rauParts s (seekDemand s) := alters_rau (.refl _) _

/-- The record with which the RAU enters AUTO: D is the sought demand and its allocation is requested (R148). -/
def autoRecord (s : State) : State :=
  let s2 := setDemandInForce (seekDemand s).rau.sought false (seekDemand s)
  let s3 := applyAllocation s2.rau.sought s2
  { s3 with rau := { s3.rau with lastChange := some s.stampNow } }

theorem enterAuto_eq (s : State) : enterAuto s = run (handAll ++ [.demandShort]) (autoRecord s) := rfl

theorem autoRecord_alters (s : State) : Alters rauParts s (autoRecord s) :=
  (seekDemand_alters s).trans <| Alters.trans (t := setDemandInForce (seekDemand s).rau.sought false (seekDemand s))
    (alters_rau (.refl _) _) <|
    (applyAllocation_alters _ _).trans (alters_rau (.refl _) _)

theorem setFans_alters (s : State) : Alters Part.reached s (setFans s) := by
  unfold setFans
  split
  · exact (Alters.run (setRequests_alters _ s) (by decide) _).trans
      (((seekDemand_alters _).trans (evaluateShort_alters _)).mono (by decide))
  · exact (autoRecord_alters s).run (by decide) _
  · exact (Alters.run (setRequests_alters _ s) (by decide) _).trans
      (((seekDemand_alters _).trans (evaluateShort_alters _)).mono (by decide))

theorem storeRegime_alters (r : Regime) (params : Rau → Rau) (s : State) : Alters rauParts s (storeRegime r params s) :=
  alters_rau (.push _ rfl) _

/-- The regime handed to the CAL: what INCIDENT leaves of its work. -/
theorem handRegime_cal_alters (s : State) : Alters Part.reached s
    (if s.rau.regime = .incident then clearWork { s with rau := { s.rau with fallWaiting := false } }
      else { s with rau := { s.rau with fallWaiting := false } }) :=
  .ite (fun _ => Alters.trans (alters_reached (.refl _) _ _ _ _) (clearWork_alters _)) fun _ => alters_reached (.refl _) _ _ _ _

theorem handRegime_alters (before : Regime) (s : State) : Alters doorReached s (handRegime before s) :=
  .ite (fun _ => (handRegime_cal_alters s).mono (by decide))
    fun _ => ((handRegime_cal_alters s).mono (by decide)).trans ((regimeDoors_alters _).mono (by decide))

theorem enterRegime_alters (r : Regime) (params : Rau → Rau) (s : State) : Alters doorReached s (enterRegime r params s) :=
  ((storeRegime_alters r params s).mono (by decide)).trans ((handRegime_alters _ _).trans ((setFans_alters _).mono (by decide)))

/-- From MANUAL into AUTO the regime is not handed to the doors. -/
theorem handRegime_manual_auto {s : State} (h : s.rau.regime = .auto) :
    handRegime .manual s = { s with rau := { s.rau with fallWaiting := false } } := by
  simp [handRegime, h]

theorem storeRegime_regime (r : Regime) (params : Rau → Rau) (s : State) : (storeRegime r params s).rau.regime = r := rfl

theorem enterAuto_fromManual_alters {s : State} (h : s.rau.regime = .manual) (params : Rau → Rau) :
    Alters Part.reached s (enterRegime .auto params s) := by
  rw [enterRegime, h, handRegime_manual_auto (storeRegime_regime _ _ _)]
  exact ((storeRegime_alters _ _ s).mono (by decide)).trans (Alters.trans (alters_reached (.refl _) _ _ _ _) (setFans_alters _))

theorem loseLine_alters (s : State) : Alters [.lif, .evq] s (loseLine s) := by
  refine ⟨fun p hp => ?_, .push _ rfl⟩
  cases p with
  | lif | evq => exact absurd (by decide) hp
  | _ => rfl

theorem fallBack_alters (s : State) : Alters Part.reached s (fallBack s) :=
  .ite (fun h => enterAuto_fromManual_alters h.1 _) fun _ => .refl _ s

theorem silenceExpiry_alters (s : State) : Alters (.lif :: Part.reached) s (silenceExpiry s) :=
  .ite (fun _ => ((loseLine_alters s).mono (by decide)).trans ((fallBack_alters _).mono (by decide))) fun _ => .refl _ s

theorem actDoorCap_handedOn (old new : Nat) (s : State) : HandedOn s (actDoorCap old new s) := by
  unfold actDoorCap
  split
  · exact .refl s
  · exact run_handedOn _ s

theorem actFaultIndex_handedOn (old new : Nat) (s : State) : HandedOn s (actFaultIndex old new s) := by
  unfold actFaultIndex
  split
  · exact .refl s
  · exact run_handedOn _ s

theorem actReevaluate_handedOn (holdChanged urgentChanged : Bool) (s : State) :
    HandedOn s (actReevaluate holdChanged urgentChanged s) := by
  unfold actReevaluate
  split
  · exact run_handedOn _ s
  · exact .refl s

/-- SET NODE stores the settings, and what follows is handed on. -/
theorem setNode_handedOn (n : NodeSettings) (s : State) : HandedOn (storeNode n s) (setNode n s) :=
  (actDoorCap_handedOn _ _ _).trans ((actFaultIndex_handedOn _ _ _).trans (actReevaluate_handedOn _ _ _))

theorem actDoorCap_alters (old new : Nat) (s : State) : Alters Part.reached s (actDoorCap old new s) :=
  .ite (fun _ => .refl _ s) fun _ => run_alters _ s

theorem actFaultIndex_alters (old new : Nat) (s : State) : Alters Part.reached s (actFaultIndex old new s) :=
  .ite (fun _ => .refl _ s) fun _ => run_alters _ s

theorem actReevaluate_alters (holdChanged urgentChanged : Bool) (s : State) :
    Alters Part.reached s (actReevaluate holdChanged urgentChanged s) :=
  .ite (fun _ => run_alters _ s) fun _ => .refl _ s

theorem storeNode_alters (n : NodeSettings) (s : State) : Alters [.lif, .rau] s (storeNode n s) := by
  refine ⟨fun p hp => ?_, .refl _⟩
  cases p with
  | lif | rau => exact absurd (by decide) hp
  | _ => rfl

theorem setNode_alters (n : NodeSettings) (s : State) : Alters (.lif :: Part.reached) s (setNode n s) :=
  ((storeNode_alters n s).mono (by decide)).trans <|
    ((actDoorCap_alters _ _ _).trans ((actFaultIndex_alters _ _ _).trans (actReevaluate_alters _ _ _))).mono (by decide)

theorem setClock_alters (t : Ms) (s : State) : Alters [.evq, .tb] s (setClock t s) := by
  refine ⟨fun p hp => ?_, .push _ rfl⟩
  cases p with
  | evq | tb => exact absurd (by decide) hp
  | _ => rfl

end Sys2Proof.Machine

end

/-! PROOFS. The frame of every command: what each request's owner and each event of the field may change, and the group requests. -/

section

namespace Sys2Proof.Machine

/-! ### What an owner's answer leaves -/

/-- The answer's state alters no more than these components. -/
abbrev Answer.alters (ps : List Part) (s : State) (a : Answer) : Prop := Alters ps s a.state

theorem Answer.alters_ite {ps : List Part} {s : State} {c : Prop} [Decidable c] {a b : Answer} (ha : a.alters ps s)
    (hb : b.alters ps s) : (if c then a else b).alters ps s := by
  split
  · exact ha
  · exact hb

theorem refuse_alters (ps : List Part) (o : ReqOutcome) (s : State) : (refuse o s).alters ps s := .refl ps s

theorem withSession_alters {ps : List Part} (fields : List Byte) (s : State) {g : SpanSession → Answer}
    (hg : ∀ sp, (g sp).alters ps s) : (withSession fields s g).alters ps s := by
  unfold withSession
  split
  · exact refuse_alters ps _ s
  · split
    · exact refuse_alters ps _ s
    · exact hg _

theorem serveSetNode_alters (fields : List Byte) (s : State) : (serveSetNode fields s).alters (.lif :: Part.reached) s :=
  setNode_alters _ s

theorem serveSetChannel_alters (fields : List Byte) (s : State) : (serveSetChannel fields s).alters scanReached s := by
  unfold serveSetChannel
  split
  · exact Answer.alters_ite (refuse_alters _ _ s) <| Answer.alters_ite (.runEffect (restartChannel_alters _ _ s) (by decide))
      (refuse_alters _ _ s)
  · exact refuse_alters _ _ s

theorem serveSetScan_alters (fields : List Byte) (s : State) : (serveSetScan fields s).alters [.scn] s := by
  unfold serveSetScan
  split
  · exact refuse_alters _ _ s
  · exact Answer.alters_ite (refuse_alters _ _ s) ⟨sameBut_scn s _, .refl _⟩

theorem serveSetFan_alters (fields : List Byte) (s : State) : (serveSetFan fields s).alters (.choices :: Part.reached) s := by
  unfold serveSetFan
  split
  · exact refuse_alters _ _ s
  · exact Answer.alters_ite (refuse_alters _ _ s) <| Answer.alters_ite (.runEffect (placeFan_alters _ _ s) (by decide))
      (refuse_alters _ _ s)

theorem serveSetDoor_alters (fields : List Byte) (s : State) : (serveSetDoor fields s).alters doorReached s := by
  unfold serveSetDoor
  split
  · exact Answer.alters_ite (refuse_alters _ _ s) <| Answer.alters_ite (placeDoor_alters _ _ s) (refuse_alters _ _ s)
  · exact refuse_alters _ _ s

theorem serveScanStart_alters (fields : List Byte) (s : State) : (serveScanStart fields s).alters [.scn, .channels] s :=
  Answer.alters_ite (refuse_alters _ _ s) <| Answer.alters_ite (refuse_alters _ _ s) <|
    Answer.alters_ite (refuse_alters _ _ s) (startScan_alters _ s)

theorem serveScanStop_alters (fields : List Byte) (s : State) : (serveScanStop fields s).alters [.scn] s :=
  Answer.alters_ite (refuse_alters _ _ s) ⟨sameBut_scn s _, .refl _⟩

theorem enqueue_alters (c : ChanNo) (t : CalType) (s : State) : Alters Part.reached s (enqueue c t s).1 :=
  alters_reached (.refl _) _ _ _ _

theorem openSession_alters (c : ChanNo) (step : StepSize) (s : State) : Alters Part.reached s (openSession c step s).1 :=
  alters_reached (.refl _) _ _ _ _

theorem replaceDemand_alters (steps : List DemandStep) (dh : Nat) (s : State) :
    Alters Part.reached s (replaceDemand steps dh s) := alters_reached (.refl _) _ _ _ _

theorem setHeld_alters (f : FanNo) (r : RauFan) (s : State) : Alters Part.reached s (s.setHeld f r) :=
  alters_reached (.refl _) _ _ _ _

theorem serveSetDemand_alters (fields : List Byte) (s : State) : (serveSetDemand fields s).alters Part.reached s :=
  Answer.alters_ite (.run (replaceDemand_alters _ _ s) (by decide) _) (refuse_alters _ _ s)

theorem groupZero_alters (s : State) : Alters Part.reached s (groupZero s) := foldl_alters groupZeroChannel_alters _ s

theorem zeroChannel_alters (c : ChanNo) (code : Nat) (s : State) : (zeroChannel c code s).alters Part.reached s := by
  simp only [zeroChannel]
  split_ifs
  · exact refuse_alters _ _ s
  · exact Alters.runEffect (enqueue_alters c _ s) (by decide)
  · exact refuse_alters _ _ s

theorem serveZero_alters (form : Form) (fields : List Byte) (s : State) : (serveZero form fields s).alters Part.reached s := by
  unfold serveZero
  split
  · split
    · exact refuse_alters _ _ s
    · dsimp only [Answer.alters, answer]
      exact groupZero_alters s
  · split
    · exact refuse_alters _ _ s
    · exact zeroChannel_alters _ _ s

theorem serveZeroCancel_alters (fields : List Byte) (s : State) : (serveZeroCancel fields s).alters Part.reached s := by
  unfold serveZeroCancel
  split
  · exact refuse_alters _ _ s
  · exact .runEffect (cancelZero_alters _ s) (by decide)

theorem serveSpanEnter_alters (fields : List Byte) (s : State) : (serveSpanEnter fields s).alters Part.reached s := by
  unfold serveSpanEnter
  split
  · exact refuse_alters _ _ s
  · exact Answer.alters_ite (refuse_alters _ _ s) <|
      Answer.alters_ite (.runEffect (openSession_alters _ _ s) (by decide)) (refuse_alters _ _ s)

theorem writeSpan_alters (sp : SpanSession) (g : Nat) (s : State) : Alters Part.reached s (writeSpan sp g s) :=
  alters_reached (.refl _) _ _ _ _

theorem serveFanCommand_alters (fields : List Byte) (s : State) : (serveFanCommand fields s).alters Part.reached s := by
  unfold serveFanCommand
  split
  · exact refuse_alters _ _ s
  · exact Answer.alters_ite (.run (setHeld_alters _ _ s) (by decide) _) (refuse_alters _ _ s)

theorem serveTripReset_alters (fields : List Byte) (s : State) : (serveTripReset fields s).alters Part.reached s := by
  unfold serveTripReset
  split
  · exact refuse_alters _ _ s
  · exact Answer.alters_ite
      (Answer.alters_ite (.runEffect (clearTrip_alters _ _ _ s) (by decide)) (refuse_alters _ _ s)) (.refl _ s)

theorem serveReadPage_alters (fields : List Byte) (s : State) : (serveReadPage fields s).alters [] s := by
  unfold serveReadPage
  split
  · exact refuse_alters _ _ s
  · exact .refl _ s

theorem serveReadValues_alters (fields : List Byte) (s : State) : (serveReadValues fields s).alters [.channels] s :=
  Answer.alters_ite (refuse_alters _ _ s) ⟨sameBut_channels s _, .refl _⟩

theorem serveNodeReset_alters (fields : List Byte) (s : State) : (serveNodeReset fields s).alters [] s :=
  Answer.alters_ite (refuse_alters _ _ s) (.refl _ s)

/-- The components that a request's own answer may change: of the line interface, SET NODE alone has a part. -/
def ownParts (code : Nat) : List Part := if code = 0x10 then requestParts code else (requestParts code).erase .lif

theorem ownParts_subset (code : Nat) : ownParts code ⊆ requestParts code := by
  unfold ownParts
  split
  · exact fun _ hp => hp
  · exact List.erase_subset

/-- A request changes no component but those of its owner and of the blocks its hand-overs reach, and but for FETCH EVENTS it only
appends to the event queue. -/
theorem serveOf_alters {i : Instr} {r : Request} (h : i.request = some r) (hfetch : ∀ form fields, i ≠ .fetchEvents form fields)
    (s : State) (fields : List Byte) (u : State) : (serveOf i s fields u).alters (ownParts r.code.toNat) u := by
  cases i <;> simp only [Instr.request, reduceCtorEq, Option.some.injEq] at h
  all_goals
    subst h
    dsimp only
  case fetchEvents form l => exact absurd rfl (hfetch form l)
  case statusPoll => exact Alters.refl _ u
  case readValues => exact (serveReadValues_alters fields u).mono (by decide)
  case readPage => exact (serveReadPage_alters fields u).mono (by decide)
  case setTime => exact (setClock_alters _ u).mono (by decide)
  case nodeReset => exact (serveNodeReset_alters fields u).mono (by decide)
  case setNode => exact (serveSetNode_alters fields u).mono (by decide)
  case setChannel => exact (serveSetChannel_alters fields u).mono (by decide)
  case setScan => exact (serveSetScan_alters fields u).mono (by decide)
  case setFan => exact (serveSetFan_alters fields u).mono (by decide)
  case setDoor => exact (serveSetDoor_alters fields u).mono (by decide)
  case setDemand => exact (serveSetDemand_alters fields u).mono (by decide)
  case scanStart => exact (serveScanStart_alters fields u).mono (by decide)
  case scanStop => exact (serveScanStop_alters fields u).mono (by decide)
  case zero form _ => exact (serveZero_alters form fields u).mono (by decide)
  case zeroCancel => exact (serveZeroCancel_alters fields u).mono (by decide)
  case spanEnter => exact (serveSpanEnter_alters fields u).mono (by decide)
  case spanStep => exact (withSession_alters fields u fun sp => writeSpan_alters sp _ u).mono (by decide)
  case spanSet => exact (withSession_alters fields u fun sp => writeSpan_alters sp _ u).mono (by decide)
  case spanExit =>
    exact (withSession_alters (ps := Part.reached) fields u fun sp => .runEffect (endSession_alters sp _ _ u) (by decide)).mono (by decide)
  case regime => exact (enterRegime_alters _ _ u).mono (by decide)
  case fanCommand => exact (serveFanCommand_alters fields u).mono (by decide)
  case tripReset => exact (serveTripReset_alters fields u).mono (by decide)
  case doorCommand => exact (commandDoors_alters fields u).mono (by decide)

theorem serveOf_ownParts {i : Instr} {r : Request} (h : i.request = some r) (s : State) (fields : List Byte) (u : State) :
    sameBut (ownParts r.code.toNat) u (serveOf i s fields u).state := by
  by_cases hfetch : ∃ form l, i = .fetchEvents form l
  · obtain ⟨form, l, rfl⟩ := hfetch
    obtain rfl := Option.some.inj h
    dsimp only
    exact (sameBut_evq u _).mono (by decide)
  · exact (serveOf_alters h (fun form l e => hfetch ⟨form, l, e⟩) s fields u).1

theorem serveOf_sameBut {i : Instr} {r : Request} (h : i.request = some r) (s : State) (fields : List Byte) (u : State) :
    sameBut (requestParts r.code.toNat) u (serveOf i s fields u).state :=
  (serveOf_ownParts h s fields u).mono (ownParts_subset _)

/-! ### What the taking of a frame changes -/

theorem contact_alters (s : State) : Alters [.lif, .evq] s (contact s) := by
  refine ⟨fun p hp => ?_, ?_⟩
  · cases p with
    | lif | evq => exact absurd (by decide) hp
    | _ => simp [Part.same]
  · have hentry : Grown s.evq (restoreLine (toHunt s)).evq := by
      unfold restoreLine
      split
      · exact .push _ rfl
      · exact .refl _
    exact hentry

theorem toHunt_sameBut (s : State) : sameBut [.lif] s (toHunt s) := sameBut_lif s _

theorem dropFrame_sameBut (s : State) : sameBut [.lif] s (dropFrame s) := by
  unfold dropFrame
  split
  · exact fun p _ => by cases p <;> rfl
  · exact toHunt_sameBut s

theorem beginService_sameBut (code : Byte) (a : Answer) : sameBut [.lif] a.state (beginService code a) := sameBut_lif _ _

/-- The taking of a frame changes no component but those of its request and the line interface and event queue. -/
theorem takeRequest_sameBut {ps : List Part} (hsub : [.lif, .evq] ⊆ ps) {serve : List Byte → State → Answer}
    (hserve : ∀ fields u, sameBut ps u (serve fields u).state) (code : Byte) (group : Bool) (length : Nat) (form : Form)
    (fields : List Byte) (s : State) : sameBut ps s (takeRequest code group length serve form fields s) := by
  have hlif : [Part.lif] ⊆ ps := fun p hp => hsub (by simp_all)
  have hcontact : sameBut ps s (contact s) := (contact_alters s).1.mono hsub
  unfold takeRequest
  split
  · split
    · have hanswer : sameBut ps (contact s) (answerOf length serve fields (contact s)).state := by
        unfold answerOf
        split
        · exact hserve _ _
        · exact fun p _ => by cases p <;> rfl
      exact hcontact.trans (hanswer.trans ((beginService_sameBut _ _).mono hlif))
    · split
      · exact hcontact.trans (hserve _ _)
      · exact hcontact
  · exact (dropFrame_sameBut s).mono hlif

theorem requestParts_taking {i : Instr} {r : Request} (h : i.request = some r) :
    [.lif, .evq] ⊆ requestParts r.code.toNat := by
  cases i <;> simp only [Instr.request, reduceCtorEq, Option.some.injEq] at h
  all_goals
    subst h
    dsimp only
    decide

/-! ### The events of the field and the timers -/

theorem Alters.guarded {ps : List Part} {c : Prop} [Decidable c] {s t : State} (h : Alters ps s t) :
    Alters ps s (if c then t else s) := .ite (fun _ => h) fun _ => .refl ps s

theorem noSamplesAbort_alters (s : State) : Alters Part.reached s (noSamplesAbort s) := by
  unfold noSamplesAbort
  split
  · exact .refl _ s
  · exact .guarded (.runEffect (abortHead_alters _ _ s) (by decide))

theorem sessionTimedOut_alters (s : State) : Alters Part.reached s (sessionTimedOut s) := by
  unfold sessionTimedOut
  split
  · exact .refl _ s
  · exact .guarded (.runEffect (endSession_alters _ _ _ s) (by decide))

theorem startTimedOut_alters (f : FanNo) (s : State) : Alters fanParts s (startTimedOut f s).1 := by
  unfold startTimedOut
  split
  · exact speedOff_alters f s
  · exact tripFan_alters f _ s

theorem retryTrip_alters (f : FanNo) (s : State) : Alters fanParts s (retryTrip f s).1 := by
  unfold retryTrip
  split
  · exact clearTrip_alters f _ _ s
  · exact modFan_alters f _ s

theorem changeOvercurrent_alters (f : FanNo) (level : Bool) (s : State) : Alters Part.reached s (changeOvercurrent f level s) :=
  .ite (fun _ => .runEffect ((modFan_alters f _ s).trans (sourceActive_alters _ _ _)) (by decide))
    fun _ => (modFan_alters f _ s).mono (by decide)

theorem tachEdge_alters (f : FanNo) (edge : TachEdge) (s : State) : Alters Part.reached s (tachEdge f edge s) := by
  cases edge with
  | rising => exact .runEffect ((modFan_alters f _ s).trans (risingEdge_alters f _)) (by decide)
  | falling => exact (modFan_alters f _ s).mono (by decide)

/-- The events that neither bring a frame nor end a reply: what each may change; all but the entries appended stays. -/
theorem event_alters {i : Instr} (hrequest : i.request = none) {s t : State} (h : exec i s = .next t)
    (hframe : .pending ∉ eventParts i ∧ .tb ∉ eventParts i) : Alters (eventParts i) s t := by
  obtain ⟨-, htb⟩ := hframe
  cases i
  all_goals simp only [Instr.request, reduceCtorEq] at hrequest
  all_goals
    obtain rfl := Host.Outcome.next.inj h
    dsimp only [eventParts] at htb ⊢
  case fullReset | foreignFrame | unknownRequest | replySent | characterReceived => exact absurd (by decide) htb
  case framingError => exact ⟨sameBut_lif s _, .refl _⟩
  case interCharacterGap => exact .guarded ⟨sameBut_lif s _, .refl _⟩
  case replyStart => exact .guarded ⟨sameBut_lif s _, .refl _⟩
  case settleTimeExpiry => exact .guarded ⟨sameBut_scn s _, .refl _⟩
  case conversionComplete code => exact converted_alters code s
  case passPauseExpiry => exact .guarded (Alters.trans ⟨sameBut_scn s s.scn.toNextPass, .refl _⟩ (beginVisit_alters _))
  case purgeTimeExpiry => exact .guarded ⟨setCal_sameBut _ s, .refl _⟩
  case noSamples => exact noSamplesAbort_alters s
  case spanTimeout => exact sessionTimedOut_alters s
  case tachMeasurement f edge => exact tachEdge_alters f edge s
  case tachSaturation f => exact .guarded (.runEffect (saturate_alters f s) (by decide))
  case startTimeout f => exact .guarded (.runEffect (startTimedOut_alters f s) (by decide))
  case changeTimeout f => exact .guarded (.runEffect (speedOff_alters f s) (by decide))
  case coastTimeout f =>
    exact .guarded (.runEffect ((appendEvent_alters _ _ _ _ s).trans (endCoast_alters f _)) (by decide))
  case stallWatchExpiry f => exact .guarded (.runEffect ((modFan_alters f _ s).trans (raiseStall_alters f _)) (by decide))
  case budgetRecheck f => exact .guarded (.runEffect (recheckBudget_alters f s) (by decide))
  case stampExpiry => exact ⟨expireStamps_sameBut s, .refl _⟩
  case overcurrentChange f level => exact changeOvercurrent_alters f level s
  case tripInputChange => exact ⟨sameBut_fans s _, .refl _⟩
  case tripSourceDebounced f i =>
    exact .guarded (.runEffect ((modFan_alters f _ s).trans (sourceActive_alters f _ _)) (by decide))
  case autoRetry f => exact .guarded (.runEffect (retryTrip_alters f s) (by decide))
  case retryCountClear => exact .guarded ⟨sameBut_fans s _, .refl _⟩
  case inhibitInputChange => exact ⟨sameBut_inhibit s _, .refl _⟩
  case inhibitOn => exact inhibitActive_alters s
  case inhibitOff => exact inhibitInactive_alters s
  case silenceTimeout => exact silenceExpiry_alters s
  case autoHoldExpiry => exact .guarded (.run (.refl [] s) (by decide) _)
  case doorContactInputChange => exact ⟨sameBut_doors s _, .refl _⟩
  case doorContactDebounced d c =>
    exact .guarded (.runEffect (contactDebounced_alters d c s) (by decide))
  case holdLimitExpiry d => exact .runEffect (holdExpiry_alters d s) (by decide)
  case openWaitExpiry d => exact .runEffect (waitExpiry_alters d s) (by decide)
  case doorFaultTimeout d => exact .runEffect (faultExpiry_alters d s) (by decide)

/-! ### The commands that may change all but the queue of commands -/

theorem takeUnknown_sameBut (code : Byte) (form : Form) (fields : List Byte) (s : State) :
    sameBut [.lif, .evq] s (takeUnknown code form fields s) := by
  have hcontact := (contact_alters s).1
  unfold takeUnknown
  split
  · split
    · exact hcontact.trans ((beginService_sameBut _ _).mono (by decide))
    · exact hcontact
  · exact (dropFrame_sameBut s).mono (by decide)

/-- A request whose owner leaves the queue of commands leaves it. -/
theorem takeRequest_pending {i : Instr} {r : Request} (h : i.request = some r) (s0 s : State) (form : Form) (fields : List Byte) :
    (takeRequest r.code r.group r.length (serveOf i s0) form fields s).pending = s.pending := by
  refine takeRequest_sameBut (requestParts_taking h) (fun l u => serveOf_sameBut h s0 l u) _ _ _ _ _ s .pending ?_
  cases i <;> simp only [Instr.request, reduceCtorEq, Option.some.injEq] at h
  all_goals
    subst h
    dsimp only
    decide

end Sys2Proof.Machine

end

/-! PROOFS. Frames and steps: a frame is a request of its owner or is answered without one; what every command changes; and how an
invariant of the plant is shown for every step. -/

section

namespace Sys2Proof.Machine

/-! ### A frame is a request, or names none (R9) -/

/-- A KIND of the table of R9 is that of a request, which carries the frame's form and fields. -/
theorem exists_request {code : Byte} (h : code.toNat ∈ requestCodes) (form : Form) (fields : List Byte) :
    ∃ i r, Instr.request i = some r ∧ r.code = code ∧ r.form = form ∧ r.fields = fields := by
  have hcode : ∀ n : Nat, n < 256 → code.toNat = n → byte n = code := fun n hn e =>
    BitVec.eq_of_toNat_eq (by rw [toNat_byte hn, e])
  simp only [requestCodes, List.mem_cons, List.not_mem_nil, or_false] at h
  rcases h with h | h | h | h | h | h | h | h | h | h | h | h | h | h | h | h | h | h | h | h | h | h | h | h
  · exact ⟨.statusPoll form fields, _, rfl, hcode _ (by decide) h, rfl, rfl⟩
  · exact ⟨.readValues form fields, _, rfl, hcode _ (by decide) h, rfl, rfl⟩
  · exact ⟨.fetchEvents form fields, _, rfl, hcode _ (by decide) h, rfl, rfl⟩
  · exact ⟨.readPage form fields, _, rfl, hcode _ (by decide) h, rfl, rfl⟩
  · exact ⟨.setTime form fields, _, rfl, hcode _ (by decide) h, rfl, rfl⟩
  · exact ⟨.nodeReset form fields, _, rfl, hcode _ (by decide) h, rfl, rfl⟩
  · exact ⟨.setNode form fields, _, rfl, hcode _ (by decide) h, rfl, rfl⟩
  · exact ⟨.setChannel form fields, _, rfl, hcode _ (by decide) h, rfl, rfl⟩
  · exact ⟨.setScan form fields, _, rfl, hcode _ (by decide) h, rfl, rfl⟩
  · exact ⟨.setFan form fields, _, rfl, hcode _ (by decide) h, rfl, rfl⟩
  · exact ⟨.setDoor form fields, _, rfl, hcode _ (by decide) h, rfl, rfl⟩
  · exact ⟨.setDemand form fields, _, rfl, hcode _ (by decide) h, rfl, rfl⟩
  · exact ⟨.scanStart form fields, _, rfl, hcode _ (by decide) h, rfl, rfl⟩
  · exact ⟨.scanStop form fields, _, rfl, hcode _ (by decide) h, rfl, rfl⟩
  · exact ⟨.zero form fields, _, rfl, hcode _ (by decide) h, rfl, rfl⟩
  · exact ⟨.zeroCancel form fields, _, rfl, hcode _ (by decide) h, rfl, rfl⟩
  · exact ⟨.spanEnter form fields, _, rfl, hcode _ (by decide) h, rfl, rfl⟩
  · exact ⟨.spanStep form fields, _, rfl, hcode _ (by decide) h, rfl, rfl⟩
  · exact ⟨.spanSet form fields, _, rfl, hcode _ (by decide) h, rfl, rfl⟩
  · exact ⟨.spanExit form fields, _, rfl, hcode _ (by decide) h, rfl, rfl⟩
  · exact ⟨.regime form fields, _, rfl, hcode _ (by decide) h, rfl, rfl⟩
  · exact ⟨.fanCommand form fields, _, rfl, hcode _ (by decide) h, rfl, rfl⟩
  · exact ⟨.tripReset form fields, _, rfl, hcode _ (by decide) h, rfl, rfl⟩
  · exact ⟨.doorCommand form fields, _, rfl, hcode _ (by decide) h, rfl, rfl⟩

/-- What the taking of every request and of every unknown one keeps, the taking of a frame keeps. -/
theorem takeFrame_keeps {P : State → Prop} {s : State} (code : Byte) (form : Form) (fields : List Byte)
    (hrequest : ∀ i r, Instr.request i = some r →
      P (takeRequest r.code r.group r.length (serveOf i s) r.form r.fields s))
    (hunknown : P (takeUnknown code form fields s)) : P (takeFrame code form fields s) := by
  by_cases h : code.toNat ∈ requestCodes
  · obtain ⟨i, r, hi, rfl, rfl, rfl⟩ := exists_request h form fields
    rw [takeFrame_request hi]
    exact hrequest i r hi
  · rwa [takeFrame_unknown h]

/-! ### The commands that bring a frame -/

theorem exec_replySent (s : State) : exec .replySent s = .next (finishReply s) := rfl

section Frames

variable {P : State → Prop} (hlif : ∀ s lif, P s → P { s with lif := lif })
  (hframe : ∀ code form fields s, P s → P (takeFrame code form fields s))

include hlif

theorem dropFrame_keeps {s : State} (h : P s) : P (dropFrame s) := by
  unfold dropFrame
  split
  · exact h
  · exact hlif s _ h

include hframe

omit hlif in
theorem judgeFrame_keeps (dest kind : Byte) (payload : List Byte) (check : BitVec 16) {s : State} (h : P s) :
    P (judgeFrame dest kind payload check s) := by
  unfold judgeFrame
  split
  · split
    · exact h
    · exact hframe _ _ _ s h
  · exact h

theorem hearFrame_keeps (dest kind : Byte) (payload : List Byte) (check : BitVec 16) {s : State} (h : P s) :
    P (hearFrame dest kind payload check s) := by
  unfold hearFrame
  split
  · exact h
  · split
    · exact judgeFrame_keeps hframe _ _ _ _ (hlif s _ h)
    · exact hlif s _ h

theorem unknownFrame_keeps (form : Form) (kind : Byte) (fields : List Byte) {s : State} (h : P s) :
    P (unknownFrame form kind fields s) := by
  unfold unknownFrame
  split
  · exact dropFrame_keeps hlif h
  · exact hframe _ _ _ s h

theorem receive_keeps (c : Byte) {s : State} (h : P s) : P (receive c s) := by
  unfold receive
  split
  · split
    · exact hlif s _ h
    · exact h
  · exact hlif s _ h
  · exact hlif s _ h
  · split
    · exact hlif s _ h
    · exact hlif s _ h
  · exact hlif s _ h
  · exact judgeFrame_keeps hframe _ _ _ _ (hlif s _ h)

theorem hearChar_keeps (c : Byte) {s : State} (h : P s) : P (hearChar c s) := by
  unfold hearChar
  split
  · exact h
  · split
    · exact receive_keeps hlif hframe c (hlif s _ h)
    · exact receive_keeps hlif hframe c h

end Frames

/-! ### The frame of every command -/

theorem takeFrame_pending (code : Byte) (form : Form) (fields : List Byte) (s : State) :
    (takeFrame code form fields s).pending = s.pending :=
  takeFrame_keeps (P := fun t => t.pending = s.pending) code form fields
    (fun _ r hi => takeRequest_pending hi s s r.form r.fields) (takeUnknown_sameBut code form fields s .pending (by decide))

theorem abortSession_pending (s : State) : (abortSession s).pending = s.pending := by
  unfold abortSession
  split <;> rfl

theorem nodeReset_pending (s : State) : (nodeReset s).pending = s.pending := abortSession_pending _

theorem finishReply_pending (s : State) : (finishReply s).pending = s.pending := by
  unfold finishReply
  split_ifs
  · exact nodeReset_pending _
  · rfl
  · rfl

/-- The five rows that may change everything else leave the queue of commands. -/
theorem sameBut_of_pending {s t : State} (h : t.pending = s.pending) :
    sameBut [.lif, .tb, .evq, .scn, .channels, .cal, .fans, .inhibit, .rau, .doors, .vestibule, .choices] s t := by
  intro p hp
  cases p with
  | pending => exact h
  | _ => exact absurd (by decide) hp

/-- Settles O50: a request by its owner, an event by its act, and the five broad rows by the queue of commands alone. -/
theorem commandsChangeOnlyTheirParts : Obligations.CommandsChangeOnlyTheirParts := by
  intro i s t h
  cases hi : i.request with
  | some r =>
    rw [exec_request hi] at h
    obtain rfl := Host.Outcome.next.inj h
    have hmay : mayChange i = requestParts r.code.toNat := by rw [mayChange, hi]
    rw [hmay]
    exact takeRequest_sameBut (requestParts_taking hi) (fun l u => serveOf_sameBut hi s l u) _ _ _ _ _ s
  | none =>
    have hmay : mayChange i = eventParts i := by rw [mayChange, hi]
    rw [hmay]
    have hkeeps : ∀ {u : State}, u.pending = s.pending → ∀ lif, ({ u with lif := lif } : State).pending = s.pending :=
      fun hu _ => hu
    have hframe : ∀ code form fields (u : State), u.pending = s.pending →
        (takeFrame code form fields u).pending = s.pending :=
      fun code form fields u hu => (takeFrame_pending code form fields u).trans hu
    by_cases hbroad : .pending ∉ eventParts i ∧ .tb ∉ eventParts i
    · exact (event_alters hi h hbroad).1
    · cases i with
      | fullReset straps =>
        obtain rfl := Host.Outcome.next.inj h
        exact sameBut_of_pending rfl
      | foreignFrame dest kind payload check =>
        obtain rfl := Host.Outcome.next.inj h
        exact sameBut_of_pending (hearFrame_keeps (P := fun u => u.pending = s.pending) (fun _ _ hu => hu) hframe _ _ _ _ rfl)
      | unknownRequest form kind fields =>
        obtain rfl := Host.Outcome.next.inj h
        exact sameBut_of_pending (unknownFrame_keeps (P := fun u => u.pending = s.pending) (fun _ _ hu => hu) hframe _ _ _ rfl)
      | replySent =>
        obtain rfl := Host.Outcome.next.inj h
        exact sameBut_of_pending (finishReply_pending s)
      | characterReceived c =>
        obtain rfl := Host.Outcome.next.inj h
        exact sameBut_of_pending (hearChar_keeps (P := fun u => u.pending = s.pending) (fun _ _ hu => hu) hframe c rfl)
      | _ => exact absurd (by simp [eventParts, Part.reached]) hbroad

/-! ### Invariants of the plant -/

/-- P speaks of the plant alone, and every owner, every event, the tick and both resets keep it. -/
structure PlantInvariant (P : State → Prop) : Prop where
  /-- P does not read the line interface, the time base, the event queue, the free choices or the queue of commands -/
  node : ∀ (s : State) (lif : Lif) (tb : TimeBase) (evq : EventQueue) (choices : Nat) (pending : List Instr), P s →
    P { s with lif := lif, tb := tb, evq := evq, choices := choices, pending := pending }
  serve : ∀ (i : Instr) (r : Request) (s0 s : State) (fields : List Byte), i.request = some r → P s →
    P (serveOf i s0 fields s).state
  event : ∀ (i : Instr) (s t : State), i.request = none → .tb ∉ eventParts i → P s → exec i s = .next t → P t
  advance : ∀ s : State, P s → P (advance s)
  fullReset : ∀ (straps : Straps) (s : State), P s → P (fullReset straps s)
  nodeReset : ∀ s : State, P s → P (nodeReset s)

namespace PlantInvariant

variable {P : State → Prop} (h : PlantInvariant P)

include h

theorem setLif (s : State) (lif : Lif) (hs : P s) : P { s with lif := lif } := h.node s lif s.tb s.evq s.choices s.pending hs

theorem contact {s : State} (hs : P s) : P (contact s) := by
  have hcontact : Machine.contact s = { s with lif := (Machine.contact s).lif, evq := (Machine.contact s).evq } := by
    obtain ⟨hsame, -⟩ := contact_alters s
    have heq : ∀ t : State, sameBut [.lif, .evq] s t → t = { s with lif := t.lif, evq := t.evq } := fun t ht => by
      have htb : t.tb = s.tb := ht .tb (by decide)
      have hscn : t.scn = s.scn := ht .scn (by decide)
      have hchannels : t.channels = s.channels := ht .channels (by decide)
      have hcal : t.cal = s.cal := ht .cal (by decide)
      have hfans : t.fans = s.fans := ht .fans (by decide)
      have hinhibit : t.inhibit = s.inhibit := ht .inhibit (by decide)
      have hrau : t.rau = s.rau := ht .rau (by decide)
      have hdoors : t.doors = s.doors := ht .doors (by decide)
      have hvestibule : t.vestibule = s.vestibule := ht .vestibule (by decide)
      have hchoices : t.choices = s.choices := ht .choices (by decide)
      have hpending : t.pending = s.pending := ht .pending (by decide)
      rw [← htb, ← hscn, ← hchannels, ← hcal, ← hfans, ← hinhibit, ← hrau, ← hdoors, ← hvestibule, ← hchoices, ← hpending]
    exact heq _ hsame
  rw [hcontact]
  exact h.node s _ s.tb _ s.choices s.pending hs

theorem takeRequest {i : Instr} {r : Request} (hi : i.request = some r) {s : State} (hs : P s) :
    P (takeRequest r.code r.group r.length (serveOf i s) r.form r.fields s) := by
  have hcontact := h.contact hs
  unfold Machine.takeRequest
  split
  · split
    · refine h.setLif _ _ ?_
      unfold answerOf
      split
      · exact h.serve i r s _ _ hi hcontact
      · exact hcontact
    · split
      · exact h.serve i r s _ _ hi hcontact
      · exact hcontact
  · exact dropFrame_keeps h.setLif hs

theorem takeFrame (code : Byte) (form : Form) (fields : List Byte) (s : State) (hs : P s) :
    P (takeFrame code form fields s) := by
  refine takeFrame_keeps code form fields (fun i r hi => h.takeRequest hi hs) ?_
  unfold takeUnknown
  split
  · split
    · exact h.setLif _ _ (h.contact hs)
    · exact h.contact hs
  · exact dropFrame_keeps h.setLif hs

theorem exec {i : Instr} {s t : State} (hs : P s) (hexec : exec i s = .next t) : P t := by
  cases hi : i.request with
  | some r =>
    rw [exec_request hi] at hexec
    obtain rfl := Host.Outcome.next.inj hexec
    exact h.takeRequest hi hs
  | none =>
    by_cases htb : .tb ∈ eventParts i
    · cases i with
      | fullReset straps =>
        obtain rfl := Host.Outcome.next.inj hexec
        exact h.fullReset straps s hs
      | foreignFrame dest kind payload check =>
        obtain rfl := Host.Outcome.next.inj hexec
        exact hearFrame_keeps h.setLif h.takeFrame _ _ _ _ hs
      | unknownRequest form kind fields =>
        obtain rfl := Host.Outcome.next.inj hexec
        exact unknownFrame_keeps h.setLif h.takeFrame _ _ _ hs
      | replySent =>
        obtain rfl := Host.Outcome.next.inj hexec
        unfold finishReply
        split_ifs
        · exact h.nodeReset _ (h.setLif s _ hs)
        · exact h.setLif s _ hs
        · exact hs
      | characterReceived c =>
        obtain rfl := Host.Outcome.next.inj hexec
        exact hearChar_keeps h.setLif h.takeFrame c hs
      | _ => simp [eventParts, Part.reached] at htb
    · exact h.event i s t hi htb hs hexec

/-- Every step keeps an invariant of the plant. -/
theorem step {s t : State} (hs : P s) (hstep : step s = .next t) : P t := by
  cases hpending : s.pending with
  | nil =>
    rw [step_tick hpending] at hstep
    obtain rfl := Host.Outcome.next.inj hstep
    exact h.node _ _ _ _ _ _ (h.advance s hs)
  | cons c rest =>
    rw [stepRunsFrontCommand c rest s hpending] at hstep
    exact h.exec (h.node s s.lif s.tb s.evq s.choices rest hs) hstep

end PlantInvariant

/-! ### Group requests (R12) -/

/-- The owners of the group requests leave the line interface. -/
theorem serve_group_lif {mk : Form → List Byte → Instr} (h : mk ∈ [Instr.setTime, Instr.scanStart, Instr.regime, Instr.doorCommand])
    (form : Form) (l fields : List Byte) (s0 s : State) : (serveOf (mk form l) s0 fields s).state.lif = s.lif := by
  simp only [List.mem_cons, List.not_mem_nil, or_false] at h
  rcases h with rfl | rfl | rfl | rfl
  · rfl
  · exact (serveScanStart_alters fields s).1 .lif (by decide)
  · exact (enterRegime_alters _ _ s).1 .lif (by decide)
  · exact (commandDoors_alters fields s).1 .lif (by decide)

/-- The four group requests, in both forms. -/
theorem request_group {mk : Form → List Byte → Instr} (h : mk ∈ [Instr.setTime, Instr.scanStart, Instr.regime, Instr.doorCommand]) :
    ∃ code length, length ≤ 42 ∧ (∀ form fields, (mk form fields).request = some ⟨code, true, length, form, fields⟩) ∧
      ∀ form form' l s, serveOf (mk form l) s = serveOf (mk form' l) s := by
  simp only [List.mem_cons, List.not_mem_nil, or_false] at h
  rcases h with rfl | rfl | rfl | rfl
  · exact ⟨0x05, 4, by decide, fun _ _ => rfl, fun _ _ _ _ => rfl⟩
  · exact ⟨0x18, 1, by decide, fun _ _ => rfl, fun _ _ _ _ => rfl⟩
  · exact ⟨0x28, 7, by decide, fun _ _ => rfl, fun _ _ _ _ => rfl⟩
  · exact ⟨0x2B, 3, by decide, fun _ _ => rfl, fun _ _ _ _ => rfl⟩

/-- Settles O4: an ignored request is its contact, and the four others are served alike in both forms. -/
theorem groupRequestsAct : Obligations.GroupRequestsAct := by
  refine ⟨fun i r map s hrequest hform hready hselected hfits hignored => ?_, fun mk hmk map fields s hready hselected hlen => ?_⟩
  · rw [exec_request hrequest, hform, takeRequest_group hready hselected hfits, if_neg]
    rintro hboth
    rw [Bool.and_eq_true, decide_eq_true_eq] at hboth
    rcases hignored with hg | hl
    · simp [hg] at hboth
    · exact hl hboth.2
  · obtain ⟨code, length, hlong, hrequest, hserve⟩ := request_group hmk
    obtain rfl : length = fields.length := by simpa [hrequest] using hlen
    refine ⟨_, exec_request (hrequest .addressed fields) s, ?_⟩
    rw [exec_request (hrequest (.group map) fields) s, hserve (.group map) .addressed]
    refine congrArg Host.Outcome.next (takeRequest_group_of_addressed hready hselected rfl hlong ?_)
    rw [serve_group_lif hmk, contact_service]
    exact hready.1

end Sys2Proof.Machine

end

/-! PROOFS. What the line interface, the prescalers and the event queue keep (R3, R8, R13, R22, R28, R29). -/

section

namespace Sys2Proof.Machine

/-! ### The event queue (R28, R29) -/

/-- An entry without the GAP mark keeps the queue's form: a full queue loses its oldest entry and marks the next. -/
theorem EventQueue.ok_push {q : EventQueue} {e : Event} (h : q.ok) (he : e.gap = false) : (q.push e).ok := by
  obtain ⟨hlen, hrest, hgap⟩ := h
  unfold EventQueue.push
  split
  · next hroom =>
    refine ⟨by simpa using hroom, fun x hx => ?_, ?_⟩
    · cases hq : q.entries with
      | nil => simp [hq] at hx
      | cons y ys =>
        simp only [hq, List.cons_append, List.drop_succ_cons, List.drop_zero, List.mem_append, List.mem_singleton] at hx hrest
        rcases hx with hx | rfl
        · exact hrest x hx
        · exact he
    · cases hq : q.entries with
      | nil => simp [hq, hgap, he]
      | cons y ys => simp [hq, hgap]
  · next hfull =>
    have hunmarked : ∀ x ∈ q.entries.drop 1 ++ [e], x.gap = false := fun x hx =>
      (List.mem_append.mp hx).elim (hrest x) fun hx => by rw [List.mem_singleton.mp hx, he]
    have hcount : (q.entries.drop 1 ++ [e]).length ≤ 64 := by
      have hlen64 : q.entries.length ≤ 64 := hlen
      simp only [List.length_append, List.length_drop, List.length_singleton]
      omega
    cases hq : q.entries.drop 1 ++ [e] with
    | nil => simp at hq
    | cons y ys =>
      rw [hq] at hunmarked hcount
      refine ⟨by simpa [markOldest] using hcount, fun x hx => hunmarked x (List.mem_cons_of_mem _ (by simpa [markOldest] using hx)), ?_⟩
      simp [markOldest]

theorem Grown.ok {q r : EventQueue} (h : Grown q r) (hq : q.ok) : r.ok := by
  obtain ⟨es, hes, rfl⟩ := h
  induction es generalizing q with
  | nil => exact hq
  | cons e es ih => exact ih (EventQueue.ok_push hq (hes e List.mem_cons_self)) fun x hx => hes x (List.mem_cons_of_mem _ hx)

/-- A fetch takes the marked entry, where there is one, so that no mark stays behind. -/
theorem EventQueue.ok_fetch {q : EventQueue} (h : q.ok) : q.fetch.2.ok := by
  obtain ⟨hlen, hrest, hgap⟩ := h
  have hbehind : ∀ e ∈ q.entries.drop 6, e.gap = false := fun e he => hrest e (List.mem_of_mem_drop (i := 5) (by simpa using he))
  refine ⟨by simp only [EventQueue.fetch, List.length_drop]; omega, fun e he => hbehind e (List.mem_of_mem_drop he), ?_⟩
  have hnone : ((q.entries.drop 6).take 1).any (·.gap) = false := by
    rw [List.any_eq_false]
    exact fun e he => by simp [hbehind e (List.mem_of_mem_take he)]
  have hmark : q.gapPending = true → (q.entries.take 6).any (·.gap) = true := by
    rw [hgap, List.any_eq_true, List.any_eq_true]
    rintro ⟨e, he, hm⟩
    exact ⟨e, List.take_subset_take_left _ (by decide) he, hm⟩
  simp only [EventQueue.fetch, hnone]
  cases hp : q.gapPending
  · rfl
  · simp [hmark hp]

/-! ### The line interface and the prescalers (R3, R8, R13, R22) -/

theorem lif_ok_hunt {l : Lif} (hrx : l.rx = .hunt) (hsilence : l.silenceSince = none → l.lineLost = true) : l.ok :=
  ⟨by rw [hrx]; rfl, fun _ => hrx, hsilence⟩

theorem timeBase_ok_tick {t : TimeBase} (h : t.ok) : t.tick.ok := by
  obtain ⟨hup, hclock⟩ := h
  constructor
  · simp only [TimeBase.tick]; split <;> omega
  · simp only [TimeBase.tick]; split <;> omega

theorem lif_ok_tick {l : Lif} (h : l.ok) : l.tick.ok := by
  obtain ⟨hrx, hservice, hsilence⟩ := h
  exact ⟨hrx, fun hs => hservice fun hn => hs (by simp [Lif.tick, hn]), hsilence⟩

/-- The node's own components keep their form. -/
abbrev State.nodeOk (s : State) : Prop := s.lineOk ∧ s.evq.ok

/-- An act that leaves the line interface and the time base keeps the node's form. -/
theorem Alters.nodeOk {ps : List Part} {s t : State} (h : Alters ps s t) (hs : s.nodeOk) (hlif : .lif ∉ ps) (htb : .tb ∉ ps) :
    t.nodeOk := by
  have hl : t.lif = s.lif := h.1 .lif hlif
  have ht : t.tb = s.tb := h.1 .tb htb
  exact ⟨⟨hl ▸ hs.1.1, ht ▸ hs.1.2⟩, h.2.ok hs.2⟩

theorem nodeOk_lif {s : State} (hs : s.nodeOk) {l : Lif} (hl : l.ok) : ({ s with lif := l } : State).nodeOk :=
  ⟨⟨hl, hs.1.2⟩, hs.2⟩

theorem toHunt_nodeOk {s : State} (hs : s.nodeOk) : (toHunt s).nodeOk := nodeOk_lif hs (lif_ok_hunt rfl hs.1.1.2.2)

theorem contact_nodeOk {s : State} (hs : s.nodeOk) : (contact s).nodeOk := by
  refine ⟨⟨lif_ok_hunt (by simp) (by simp), by simpa using hs.1.2⟩, (contact_alters s).2.ok hs.2⟩

/-- What a request's owner leaves of a node that has just been contacted: the receiver stays in HUNT, the silence timer runs, and
prescalers and event queue keep their form. -/
theorem serveOf_line {i : Instr} {r : Request} (h : i.request = some r) (s0 u : State) (fields : List Byte)
    (hrx : u.lif.rx = .hunt) (hsilence : u.lif.silenceSince ≠ none) :
    (serveOf i s0 fields u).state.lif.rx = .hunt ∧ (serveOf i s0 fields u).state.lif.silenceSince ≠ none := by
  by_cases hnode : ∃ form l, i = .setNode form l
  · obtain ⟨form, l, rfl⟩ := hnode
    have hlif : (serveOf (.setNode form l) s0 fields u).state.lif = (storeNode (takenNode fields) u).lif :=
      (setNode_handedOn _ u).lif
    rw [hlif]
    exact ⟨hrx, by simp [storeNode]⟩
  · have hlif : (serveOf i s0 fields u).state.lif = u.lif := by
      refine serveOf_ownParts h s0 fields u .lif ?_
      cases i <;> simp only [Instr.request, reduceCtorEq, Option.some.injEq] at h
      case setNode form l => exact absurd ⟨form, l, rfl⟩ hnode
      all_goals
        subst h
        dsimp only
        decide
    rw [hlif]
    exact ⟨hrx, hsilence⟩

theorem serveOf_timeBase {i : Instr} {r : Request} (h : i.request = some r) (s0 u : State) (fields : List Byte)
    (htb : u.tb.ok) : (serveOf i s0 fields u).state.tb.ok := by
  by_cases hclock : ∃ form l, i = .setTime form l
  · obtain ⟨form, l, rfl⟩ := hclock
    exact ⟨htb.1, show 0 < Config.ticksPerMs by decide⟩
  · have hsame : (serveOf i s0 fields u).state.tb = u.tb := by
      refine serveOf_ownParts h s0 fields u .tb ?_
      cases i <;> simp only [Instr.request, reduceCtorEq, Option.some.injEq] at h
      case setTime form l => exact absurd ⟨form, l, rfl⟩ hclock
      all_goals
        subst h
        dsimp only
        decide
    rwa [hsame]

theorem serveOf_evq {i : Instr} {r : Request} (h : i.request = some r) (s0 u : State) (fields : List Byte)
    (hq : u.evq.ok) : (serveOf i s0 fields u).state.evq.ok := by
  by_cases hfetch : ∃ form l, i = .fetchEvents form l
  · obtain ⟨form, l, rfl⟩ := hfetch
    exact EventQueue.ok_fetch hq
  · exact (serveOf_alters h (fun form l e => hfetch ⟨form, l, e⟩) s0 fields u).2.ok hq

theorem dropFrame_nodeOk {s : State} (hs : s.nodeOk) : (dropFrame s).nodeOk := by
  unfold dropFrame
  split
  · exact hs
  · exact toHunt_nodeOk hs

/-- A reply put in service while the receiver stands in HUNT. -/
theorem beginService_nodeOk {a : Answer} (code : Byte) (ha : a.state.nodeOk) (hrx : a.state.lif.rx = .hunt) :
    (beginService code a).nodeOk := nodeOk_lif ha (lif_ok_hunt hrx ha.1.1.2.2)

theorem takeRequest_nodeOk {i : Instr} {r : Request} (h : i.request = some r) (s0 : State) {s : State} (hs : s.nodeOk) :
    (takeRequest r.code r.group r.length (serveOf i s0) r.form r.fields s).nodeOk := by
  have hcontact := contact_nodeOk hs
  have hserved : ∀ fields, (serveOf i s0 fields (contact s)).state.nodeOk ∧
      (serveOf i s0 fields (contact s)).state.lif.rx = .hunt := fun fields => by
    obtain ⟨hrx, hsilence⟩ := serveOf_line h s0 (contact s) fields (by simp) (by simp)
    exact ⟨⟨⟨lif_ok_hunt hrx (absurd · hsilence), serveOf_timeBase h s0 _ fields hcontact.1.2⟩,
      serveOf_evq h s0 _ fields hcontact.2⟩, hrx⟩
  unfold takeRequest
  split
  · split
    · unfold answerOf
      split
      · exact beginService_nodeOk _ (hserved _).1 (hserved _).2
      · exact beginService_nodeOk _ hcontact (by simp [refuse])
    · split
      · exact (hserved _).1
      · exact hcontact
  · exact dropFrame_nodeOk hs

theorem takeFrame_nodeOk (code : Byte) (form : Form) (fields : List Byte) {s : State} (hs : s.nodeOk) :
    (takeFrame code form fields s).nodeOk := by
  refine takeFrame_keeps code form fields (fun i r hi => takeRequest_nodeOk hi s hs) ?_
  unfold takeUnknown
  split
  · split
    · exact beginService_nodeOk _ (contact_nodeOk hs) (by simp [refuse])
    · exact contact_nodeOk hs
  · exact dropFrame_nodeOk hs

/-! ### The receiver (R3, R4) -/

theorem judgeFrame_nodeOk (dest kind : Byte) (payload : List Byte) (check : BitVec 16) {s : State} (hs : s.nodeOk) :
    (judgeFrame dest kind payload check s).nodeOk :=
  judgeFrame_keeps (fun code form fields _ hu => takeFrame_nodeOk code form fields hu) _ _ _ _ hs

theorem hearFrame_nodeOk (dest kind : Byte) (payload : List Byte) (check : BitVec 16) {s : State} (hs : s.nodeOk) :
    (hearFrame dest kind payload check s).nodeOk := by
  unfold hearFrame
  split
  · exact hs
  · split
    · exact judgeFrame_nodeOk _ _ _ _ (toHunt_nodeOk hs)
    · exact toHunt_nodeOk hs

theorem unknownFrame_nodeOk (form : Form) (kind : Byte) (fields : List Byte) {s : State} (hs : s.nodeOk) :
    (unknownFrame form kind fields s).nodeOk := by
  unfold unknownFrame
  split
  · exact dropFrame_nodeOk hs
  · exact takeFrame_nodeOk _ _ _ hs

/-- A node out of service may keep as much of a frame as a frame holds. -/
theorem setRx_nodeOk {s : State} (hs : s.nodeOk) (hservice : s.lif.service = none) {rx : Rx} (hrx : rx.ok = true) :
    (setRx rx s).nodeOk := nodeOk_lif hs ⟨hrx, fun h => absurd hservice h, hs.1.1.2.2⟩

theorem afterLength_ok (dest kind : Byte) (len : Nat) : (afterLength dest kind len).ok = true := by
  unfold afterLength
  split_ifs with hlong hzero
  · rfl
  · rfl
  · simp only [Rx.ok, List.length_nil, Bool.and_eq_true, decide_eq_true_eq]
    omega

theorem receive_nodeOk (c : Byte) {s : State} (hs : s.nodeOk) (hservice : s.lif.service = none) : (receive c s).nodeOk := by
  have hkept : s.lif.rx.ok = true := hs.1.1.1
  unfold receive
  split
  · split
    · exact setRx_nodeOk hs hservice rfl
    · exact hs
  · exact setRx_nodeOk hs hservice (afterLength_ok _ _ _)
  · next kept htwo hrx =>
    rw [hrx] at hkept
    refine setRx_nodeOk hs hservice ?_
    have hlen : kept.length ≠ 2 := fun h2 => by
      obtain ⟨a, b, rfl⟩ := List.length_eq_two.mp h2
      exact htwo a b rfl
    simp only [Rx.ok, List.length_append, List.length_singleton, decide_eq_true_eq] at hkept ⊢
    omega
  · next hrx =>
    rw [hrx] at hkept
    simp only [Rx.ok, Bool.and_eq_true, decide_eq_true_eq] at hkept
    split
    · refine setRx_nodeOk hs hservice ?_
      simp only [Rx.ok, List.length_append, List.length_singleton, Bool.and_eq_true, decide_eq_true_eq]
      omega
    · refine setRx_nodeOk hs hservice ?_
      simp only [Rx.ok, List.length_append, List.length_singleton, decide_eq_true_eq]
      omega
  · next hrx =>
    rw [hrx] at hkept
    exact setRx_nodeOk hs hservice hkept
  · exact judgeFrame_nodeOk _ _ _ _ (setRx_nodeOk hs hservice rfl)

theorem hearChar_nodeOk (c : Byte) {s : State} (hs : s.nodeOk) : (hearChar c s).nodeOk := by
  unfold hearChar
  split
  · exact hs
  · next hservice =>
    have hnone : s.lif.service = none := by simpa using hservice
    split
    · exact receive_nodeOk c (toHunt_nodeOk hs) hnone
    · exact receive_nodeOk c hs hnone

/-! ### The reply and the resets (R8, R18) -/

theorem startReply_nodeOk {s : State} (hs : s.nodeOk) : (startReply s).nodeOk := by
  unfold startReply
  split
  · exact nodeOk_lif hs ⟨hs.1.1.1, fun h => hs.1.1.2.1 fun hn => h (by simp [hn]), hs.1.1.2.2⟩
  · exact hs

theorem endService_nodeOk {s : State} (hs : s.nodeOk) : (endService s).nodeOk := nodeOk_lif hs (lif_ok_hunt rfl hs.1.1.2.2)

theorem setSpan_alters (c : ChanNo) (g : Nat) (s : State) : Alters calParts s (setSpan c g s) := setCh_alters c _ s

theorem nodeReset_nodeOk {s : State} (hs : s.nodeOk) : (nodeReset s).nodeOk := by
  have hlif : (resetLif (appendEvent .node .nodeReset none none s)).nodeOk :=
    nodeOk_lif ((appendEvent_alters (ps := [.evq]) _ _ _ _ s).nodeOk hs (by decide) (by decide)) (lif_ok_hunt rfl nofun)
  have habort : (abortSession (resetLif (appendEvent .node .nodeReset none none s))).nodeOk := by
    unfold abortSession
    split
    · exact hlif
    · exact ((setSpan_alters _ _ _).trans (calEntry_alters _ _ _ _)).nodeOk hlif (by decide) (by decide)
  exact habort

theorem finishReply_nodeOk {s : State} (hs : s.nodeOk) : (finishReply s).nodeOk := by
  unfold finishReply
  split_ifs
  · exact nodeReset_nodeOk (endService_nodeOk hs)
  · exact endService_nodeOk hs
  · exact hs

theorem silenceExpiry_nodeOk {s : State} (hs : s.nodeOk) : (silenceExpiry s).nodeOk := by
  have hlost : (loseLine s).nodeOk := ⟨⟨⟨hs.1.1.1, hs.1.1.2.1, fun _ => rfl⟩, hs.1.2⟩, (loseLine_alters s).2.ok hs.2⟩
  unfold silenceExpiry
  split
  · exact (fallBack_alters _).nodeOk hlost (by decide) (by decide)
  · exact hs

theorem fullReset_nodeOk (straps : Straps) (s : State) : (fullReset straps s).nodeOk := by
  have htb : TimeBase.initial.ok := by decide
  have hevq : EventQueue.ok { entries := [.nodeStart], gapPending := false } := by decide
  exact ⟨⟨lif_ok_hunt rfl nofun, htb⟩, hevq⟩

theorem exec_nodeOk {i : Instr} {s t : State} (hs : s.nodeOk) (h : exec i s = .next t) : t.nodeOk := by
  cases hi : i.request with
  | some r =>
    rw [exec_request hi] at h
    obtain rfl := Host.Outcome.next.inj h
    exact takeRequest_nodeOk hi s hs
  | none =>
    by_cases hlif : .lif ∈ eventParts i
    · cases i with
      | fullReset straps =>
        obtain rfl := Host.Outcome.next.inj h
        exact fullReset_nodeOk straps s
      | framingError =>
        obtain rfl := Host.Outcome.next.inj h
        exact toHunt_nodeOk hs
      | interCharacterGap =>
        obtain rfl := Host.Outcome.next.inj h
        unfold gapExpiry
        split
        · exact toHunt_nodeOk hs
        · exact hs
      | foreignFrame dest kind payload check =>
        obtain rfl := Host.Outcome.next.inj h
        exact hearFrame_nodeOk _ _ _ _ hs
      | unknownRequest form kind fields =>
        obtain rfl := Host.Outcome.next.inj h
        exact unknownFrame_nodeOk _ _ _ hs
      | replyStart =>
        obtain rfl := Host.Outcome.next.inj h
        exact startReply_nodeOk hs
      | replySent =>
        obtain rfl := Host.Outcome.next.inj h
        exact finishReply_nodeOk hs
      | silenceTimeout =>
        obtain rfl := Host.Outcome.next.inj h
        exact silenceExpiry_nodeOk hs
      | characterReceived c =>
        obtain rfl := Host.Outcome.next.inj h
        exact hearChar_nodeOk c hs
      | _ => simp [eventParts, Part.reached] at hlif
    · have hnarrow : .pending ∉ eventParts i ∧ .tb ∉ eventParts i := by
        cases i
        all_goals
          dsimp only [eventParts] at hlif ⊢
          simp_all [Part.reached]
      exact (event_alters hi h hnarrow).nodeOk hs hlif hnarrow.2

/-- Settles O53: a tick by its prescalers, a command by the parts it leaves, and a frame by its contact and its owner. -/
theorem lineAndQueueKept : Obligations.LineAndQueueKept := by
  intro s t hline hqueue hstep
  cases hpending : s.pending with
  | nil =>
    rw [step_tick hpending] at hstep
    obtain rfl := Host.Outcome.next.inj hstep
    exact ⟨⟨lif_ok_tick hline.1, timeBase_ok_tick hline.2⟩, hqueue⟩
  | cons c rest =>
    rw [stepRunsFrontCommand c rest s hpending] at hstep
    exact exec_nodeOk (s := { s with pending := rest }) ⟨hline, hqueue⟩ hstep

end Sys2Proof.Machine

end

/-! PROOFS. Span sessions (chapter 6): their opening, the writing of the span factor, and their endings. -/

section

namespace Sys2Proof.Machine

/-! ### What the contact leaves to be read -/

@[simp] theorem inSession_contact (s : State) (c : ChanNo) : (contact s).inSession c = s.inSession c := by
  simp [State.inSession]

@[simp] theorem spanBarred_contact (s : State) (c : ChanNo) : spanBarred (contact s) c = spanBarred s c := by
  simp [spanBarred, State.inScanList]

/-! ### SPAN ENTER (R95, R96) -/

theorem exec_spanEnter {s : State} (hready : s.ready) (c : ChanNo) (st : Byte) :
    exec (.spanEnter .addressed [byte c.val, st]) s = .next (beginService 0x22 (enterSpan c st.toNat (contact s))) := by
  rw [exec_served hready rfl rfl rfl]
  simp [serveOf, serveSpanEnter, toNat_byte_fin]

theorem byte_eq_zero_iff (b : Byte) : b = 0 ↔ b.toNat = 0 :=
  ⟨fun h => by rw [h]; rfl, fun h => BitVec.eq_of_toNat_eq h⟩

theorem stepSize_ofCode (st : Byte) : StepSize.ofCode st.toNat = if st = 0 then .coarse else .fine := by
  simp only [StepSize.ofCode, byte_eq_zero_iff]

section EnterSpan

variable {c : ChanNo} {s : State} (code : Nat)

theorem enterSpan_barred (h : spanBarred s c = true) : enterSpan c code s = refuse .notNow s := if_pos h

variable (h : spanBarred s c = false)

include h

theorem enterSpan_inconsistent (hkind : (s.ch c).cfg.kind.calibratable = false) :
    enterSpan c code s = refuse .inconsistent s := by simp [enterSpan, h, hkind]

theorem enterSpan_accepted (hkind : (s.ch c).cfg.kind.calibratable = true) : enterSpan c code s =
    answer (decide (1 < code)) ([byte c.val, byte (StepSize.ofCode code).code] ++ le16 (s.ch c).cfg.span)
      (runEffect (openSession c (.ofCode code) s)) := by simp [enterSpan, h, hkind]

end EnterSpan

/-- What the opening of a session leaves before its hand-over, the contact having left the part as it was. -/
theorem openSession_contact (c : ChanNo) (step : StepSize) (s : State) : (openSession c step (contact s)).1 =
    { (contact s).setCh c { s.ch c with flags := { (s.ch c).flags with trim := true } } with
      cal := { s.cal with span := some (SpanSession.mk c step (s.ch c).cfg.span (s.ch c).cfg.span 0 s.tb.uptime) } } := by
  simp [openSession, State.modCh, Channel.startTrim, newSession]

/-- Settles O30: the session opened is the state that the hand-over to the RAU starts from. -/
theorem spanEnterOpens : Obligations.SpanEnterOpens := by
  intro c st s hready
  rw [exec_spanEnter hready]
  refine ⟨fun hbarred => ?_, fun hfree hkind => ?_, fun hfree hkind => ?_⟩
  · rw [enterSpan_barred _ (by simpa using hbarred), beginService_refuse]
  · rw [enterSpan_inconsistent _ (by simpa using hfree) (by simpa using hkind), beginService_refuse]
  · have hcode : byte (StepSize.ofCode st.toNat).code = byte (if st = 0 then 0 else 1) := by
      rw [stepSize_ofCode]
      split <;> rfl
    rw [enterSpan_accepted _ (by simpa using hfree) (by simpa using hkind), beginService_answer, hcode, contact_ch]
    refine ⟨_, ?_, rfl⟩
    rw [← stepSize_ofCode, ← openSession_contact]
    exact runEffect_handedOn _

/-! ### SPAN STEP and SPAN SET (R98, R99) -/

theorem withSession_none {s : State} {c : ChanNo} (h : s.inSession c = false) (l : List Byte) (g : SpanSession → Answer) :
    withSession (byte c.val :: l) s g = refuse .notNow s := by
  have hnone : s.sessionOf c = none := by
    unfold State.sessionOf
    unfold State.inSession at h
    cases hspan : s.cal.span with
    | none => rfl
    | some sp => simpa [hspan] using h
  simp [withSession, toNat_byte_fin, hnone]

theorem withSession_some {s : State} {sp : SpanSession} (h : s.cal.span = some sp) (l : List Byte) (g : SpanSession → Answer) :
    withSession (byte sp.channel.val :: l) s g = g sp := by
  have hopen : s.sessionOf sp.channel = some sp := by simp [State.sessionOf, h]
  simp [withSession, toNat_byte_fin, hopen]

/-- What a new span factor leaves of the state that the contact leaves. -/
theorem writeSpan_contact (sp : SpanSession) (g : Nat) (s : State) : writeSpan sp g (contact s) =
    { (contact s).setCh sp.channel { s.ch sp.channel with cfg := { (s.ch sp.channel).cfg with span := g } } with
      cal := { s.cal with span := some { sp with currentG := g, countdown := 2, lastRequest := s.tb.uptime } } } := by
  simp [writeSpan, setSpan, State.modCh]

theorem exec_spanStep {s : State} (hready : s.ready) (c : ChanNo) (a b : Byte) :
    exec (.spanStep .addressed [byte c.val, a, b]) s =
      .next (beginService 0x23 (withSession [byte c.val, a, b] (contact s) fun sp => stepSpan sp a.toNat b.toNat (contact s))) :=
  (exec_served hready rfl rfl rfl).trans rfl

theorem exec_spanSet {s : State} (hready : s.ready) (c : ChanNo) (a b : Byte) :
    exec (.spanSet .addressed [byte c.val, a, b]) s =
      .next (beginService 0x24 (withSession [byte c.val, a, b] (contact s) fun sp =>
        answer (clampNat 2048 8191 (a.toNat + 256 * b.toNat) != a.toNat + 256 * b.toNat)
          (spanReply sp.channel (clampNat 2048 8191 (a.toNat + 256 * b.toNat)))
          (writeSpan sp (clampNat 2048 8191 (a.toNat + 256 * b.toNat)) (contact s)))) :=
  (exec_served hready rfl rfl rfl).trans rfl

/-- The step by its direction, with the signs written as R98 writes them. -/
theorem steppedSpan_eq (g size n : Nat) (a : Byte) : steppedSpan g size (decide (a.toNat ≠ 0)) n =
    if a = 0 then (g : Int) + n * size else (g : Int) - n * size := by
  simp only [byte_eq_zero_iff, steppedSpan, decide_eq_true_eq, ite_not, Nat.cast_mul]

/-- Settles O31: without the session both are refused, and in it both write the limited factor. -/
theorem spanStepAndSetWrite : Obligations.SpanStepAndSetWrite := by
  intro c a b s hready
  rw [exec_spanStep hready, exec_spanSet hready]
  refine ⟨fun hnone => ?_, ?_⟩
  · have hnone' : (contact s).inSession c = false := by simpa using hnone
    rw [withSession_none hnone', withSession_none hnone']
    exact ⟨rfl, rfl⟩
  · rintro sp hspan rfl
    have hspan' : (contact s).cal.span = some sp := by simpa using hspan
    rw [withSession_some hspan', withSession_some hspan']
    refine ⟨fun n w g hn hw hg => ?_, fun g hg => ?_⟩
    · obtain rfl : g = (clampInt 2048 8191 w).toNat := by omega
      subst hn hw
      simp only [stepSpan, steppedSpan_eq, writeSpan_contact, beginService_answer, Bool.decide_or]
      rw [Bool.or_assoc]
      rfl
    · subst hg
      have hmark : (clampNat 2048 8191 (a.toNat + 256 * b.toNat) != a.toNat + 256 * b.toNat) =
          decide (clampNat 2048 8191 (a.toNat + 256 * b.toNat) ≠ a.toNat + 256 * b.toNat) := Bool.eq_iff_iff.mpr (by simp)
      rw [beginService_answer, writeSpan_contact, hmark]
      rfl

/-! ### The endings (R101–R103) -/

/-- What the ending of a session leaves before its hand-over. -/
theorem endSession_eq (sp : SpanSession) (code : EventCode) (g : Nat) (s : State) : (endSession sp code g s).1 =
    appendEvent (.cal sp.channel) code none (some g)
      { s.setCh sp.channel { s.ch sp.channel with
          cfg := { (s.ch sp.channel).cfg with span := g }
          flags := { (s.ch sp.channel).flags with trim := false, unsettled := false } } with
        cal := { s.cal with span := none } } := by
  simp [endSession, setSpan, State.modCh, Channel.setTrim, calEntry, appendEvent]

theorem exec_spanTimeout (s : State) : exec .spanTimeout s = .next (sessionTimedOut s) := rfl

theorem sessionTimedOut_eq {s : State} {sp : SpanSession} (h : s.cal.span = some sp) : sessionTimedOut s =
    if s.passed sp.lastRequest 1800000 then runEffect (endSession sp .spanTimeout sp.entryG s) else s := by
  simp [sessionTimedOut, h, State.sessionOver, State.passedOpt]

/-- Settles O32: both endings leave what `endSession` leaves, and hand on. -/
theorem spanSessionEnds : Obligations.SpanSessionEnds := by
  intro s sp hspan
  rw [exec_spanTimeout, sessionTimedOut_eq hspan]
  refine ⟨fun hready => ?_, fun hpassed => ?_, fun hearly => ?_⟩
  · have hspan' : (contact s).cal.span = some sp := by simpa using hspan
    refine ⟨runEffect (endSession sp .spanExit sp.currentG (contact s)), ?_, ?_⟩
    · have hended := endSession_eq sp .spanExit sp.currentG (contact s)
      rw [contact_cal, contact_ch] at hended
      rw [← hended]
      exact runEffect_handedOn _
    · rw [exec_served hready rfl rfl rfl]
      have hserved : serveOf (.spanExit .addressed [byte sp.channel.val]) s [byte sp.channel.val] (contact s) =
          answer false (spanReply sp.channel sp.currentG) (runEffect (endSession sp .spanExit sp.currentG (contact s))) :=
        withSession_some hspan' [] _
      rw [hserved]
      rfl
  · refine ⟨runEffect (endSession sp .spanTimeout sp.entryG s), ?_, by rw [if_pos hpassed]⟩
    rw [← endSession_eq]
    exact runEffect_handedOn _
  · rw [if_neg (by simp [hearly])]

end Sys2Proof.Machine

end

/-! PROOFS. The requests and timers of the whole node (chapter 1): the silence timeout and its fallback, SET NODE, and NODE RESET. -/

section

namespace Sys2Proof.Machine

/-! ### What hand-overs leave of the regime record -/

section
variable {s t : State} (h : HandedOn s t)
include h

theorem HandedOn.regime : t.rau.regime = s.rau.regime :=
  show t.rau.fixed.regime = s.rau.fixed.regime from congrArg _ h.rau
theorem HandedOn.autoDir : t.rau.autoDir = s.rau.autoDir :=
  show t.rau.fixed.autoDir = s.rau.fixed.autoDir from congrArg _ h.rau
theorem HandedOn.floor : t.rau.floor = s.rau.floor :=
  show t.rau.fixed.floor = s.rau.fixed.floor from congrArg _ h.rau
theorem HandedOn.role : t.rau.role = s.rau.role :=
  show t.rau.fixed.role = s.rau.fixed.role from congrArg _ h.rau
theorem HandedOn.incDir : t.rau.incDir = s.rau.incDir :=
  show t.rau.fixed.incDir = s.rau.fixed.incDir from congrArg _ h.rau
theorem HandedOn.incStage : t.rau.incStage = s.rau.incStage :=
  show t.rau.fixed.incStage = s.rau.fixed.incStage from congrArg _ h.rau
theorem HandedOn.respectCap : t.rau.respectCap = s.rau.respectCap :=
  show t.rau.fixed.respectCap = s.rau.fixed.respectCap from congrArg _ h.rau
theorem HandedOn.fallback : t.rau.fallback = s.rau.fallback :=
  show t.rau.fixed.fallback = s.rau.fixed.fallback from congrArg _ h.rau
theorem HandedOn.doorCap : t.rau.doorCap = s.rau.doorCap :=
  show t.rau.fixed.doorCap = s.rau.fixed.doorCap from congrArg _ h.rau
theorem HandedOn.autoHold : t.rau.autoHold = s.rau.autoHold :=
  show t.rau.fixed.autoHold = s.rau.fixed.autoHold from congrArg _ h.rau
theorem HandedOn.faultIndex : t.rau.faultIndex = s.rau.faultIndex :=
  show t.rau.fixed.faultIndex = s.rau.fixed.faultIndex from congrArg _ h.rau
theorem HandedOn.urgentIndex : t.rau.urgentIndex = s.rau.urgentIndex :=
  show t.rau.fixed.urgentIndex = s.rau.fixed.urgentIndex from congrArg _ h.rau
theorem HandedOn.steps : t.rau.steps = s.rau.steps :=
  show t.rau.fixed.steps = s.rau.fixed.steps from congrArg _ h.rau
theorem HandedOn.dh : t.rau.dh = s.rau.dh :=
  show t.rau.fixed.dh = s.rau.fixed.dh from congrArg _ h.rau
theorem HandedOn.doorOpen : t.rau.doorOpen = s.rau.doorOpen :=
  show t.rau.fixed.doorOpen = s.rau.fixed.doorOpen from congrArg _ h.rau

end

/-! ### The silence timeout (R13, R152) -/

theorem seekDemand_handedOn (s : State) : HandedOn s (seekDemand s) := rau_handedOn _ s rfl

theorem setDemandInForce_handedOn (demand : Nat) (waiting : Bool) (s : State) :
    HandedOn s (setDemandInForce demand waiting s) := rau_handedOn _ s rfl

theorem autoRecord_handedOn (s : State) : HandedOn s (autoRecord s) :=
  (seekDemand_handedOn s).trans <| (setDemandInForce_handedOn _ _ _).trans <|
    (applyAllocation_handedOn _ _).trans (rau_handedOn _ _ rfl)

/-- The entry into AUTO hands on from the state that the taking of the regime leaves. -/
theorem enterAuto_handedOn (s : State) : HandedOn s (enterAuto s) := by
  rw [enterAuto_eq]
  exact (autoRecord_handedOn s).trans (run_handedOn _ _)

theorem enterAuto_fromManual_handedOn {s : State} (h : s.rau.regime = .manual) (params : Rau → Rau) :
    HandedOn (storeRegime .auto params s) (enterRegime .auto params s) := by
  rw [enterRegime, h, handRegime_manual_auto (storeRegime_regime _ _ _), setFans, storeRegime_regime]
  exact HandedOn.trans (rau_handedOn _ _ rfl) (enterAuto_handedOn _)

theorem exec_silenceTimeout (s : State) : exec .silenceTimeout s = .next (silenceExpiry s) := rfl

/-- The contact written out (R13, R14). -/
theorem contact_eq (s : State) : contact s = { s with
    lif := { s.lif with
      rx := .hunt, silenceSince := some s.tb.uptime, silenceLimit := s.lif.silenceTimeout, lineLost := false }
    evq := if s.lif.lineLost then s.evq.push ⟨s.tb.clock, .line, .lineRestored, none, none, false⟩ else s.evq } := by
  cases hlost : s.lif.lineLost <;> simp [contact, restartSilence, restoreLine, toHunt, appendEvent, hlost]

/-- Settles O11: the timeout by whether it has passed and whether the fallback acts, the fallback by its entry into AUTO. -/
theorem silenceAndContact : Obligations.SilenceAndContact := by
  intro s
  rw [exec_silenceTimeout, silenceExpiry]
  refine ⟨fun hearly => by rw [if_neg (by simp [hearly])], fun hover hstays => ?_, fun hover hmanual hfallback => ?_,
    contact_eq s⟩
  · have hkept : fallBack (loseLine s) = loseLine s := if_neg hstays
    rw [if_pos hover, hkept]
    rfl
  · rw [if_pos hover]
    have hfalls : fallBack (loseLine s) = enterRegime .auto (fun k => { k with floor := 0 }) (loseLine s) :=
      if_pos ⟨hmanual, hfallback⟩
    have hhanded := enterAuto_fromManual_handedOn (s := loseLine s) hmanual fun k => { k with floor := 0 }
    rw [← hfalls] at hhanded
    refine ⟨_, rfl, hhanded.lif, hhanded.regime, hhanded.floor, hhanded.autoDir, ?_, hhanded.2⟩
    exact (((loseLine_alters s).mono (by decide)).trans ((fallBack_alters _).mono (by decide))).1

/-! ### Fields that are clamped -/

theorem byte_eq_iff {n : Nat} (h : n < 256) (b : Byte) : byte n = b ↔ n = b.toNat := by
  rw [BitVec.toNat_eq, toNat_byte h]

theorem flag_eq_iff (b : Byte) : flag (decide (b.toNat ≠ 0)) = b ↔ b.toNat ≤ 1 := by
  by_cases hzero : b.toNat = 0
  · simp [flag, hzero, BitVec.toNat_eq]
  · have hone : (1 : Byte) = b ↔ 1 = b.toNat := by rw [BitVec.toNat_eq]; rfl
    simp only [flag, hzero, ne_eq, not_false_eq_true, decide_true, if_true, hone]
    omega

theorem le16_eq_iff {n : Nat} (h : n < 65536) (a b : Byte) : le16 n = [a, b] ↔ n = a.toNat + 256 * b.toNat := by
  have hb := b.isLt
  have ha := a.isLt
  rw [← le16_bytes]
  refine ⟨fun heq => ?_, fun heq => heq ▸ rfl⟩
  simp only [le16, List.cons.injEq, and_true, byte, BitVec.toNat_eq, BitVec.toNat_ofNat] at heq
  omega

theorem clampNat_eq_self_iff {lo hi x : Nat} : clampNat lo hi x = x ↔ lo ≤ x ∧ x ≤ hi := by
  unfold clampNat
  split_ifs <;> omega

theorem clampNat_le {lo hi : Nat} (h : lo ≤ hi) (x : Nat) : clampNat lo hi x ≤ hi := by
  unfold clampNat
  split_ifs <;> omega

/-! ### SET NODE (R17) -/

section SetNode

variable (a b c d e f g : Byte)

/-- What SET NODE takes from its seven bytes. -/
theorem takenNode_bytes : takenNode [a, b, c, d, e, f, g] =
    ⟨max 1 a.toNat, decide (b.toNat ≠ 0), min c.toNat 3, clampNat 10 600 (d.toNat + 256 * e.toNat), min f.toNat 250,
      clampNat 50 250 g.toNat⟩ := rfl

/-- The bytes held differ from the bytes sent where a field lay outside its range. -/
theorem nodeBytes_ne_iff : ([byte (max 1 a.toNat), flag (decide (b.toNat ≠ 0)), byte (min c.toNat 3)] ++
      le16 (clampNat 10 600 (d.toNat + 256 * e.toNat)) ++ [byte (min f.toNat 250), byte (clampNat 50 250 g.toNat)]) ≠
      [a, b, c, d, e, f, g] ↔
    (a.toNat = 0 ∨ 1 < b.toNat ∨ 3 < c.toNat ∨ d.toNat + 256 * e.toNat < 10 ∨ 600 < d.toNat + 256 * e.toNat ∨
      250 < f.toNat ∨ g.toNat < 50 ∨ 250 < g.toNat) := by
  have ha := a.isLt
  have hhold : clampNat 10 600 (d.toNat + 256 * e.toNat) ≤ 600 := clampNat_le (by decide) _
  have hurgent : clampNat 50 250 g.toNat ≤ 250 := clampNat_le (by decide) _
  have hholdBytes := le16_eq_iff (n := clampNat 10 600 (d.toNat + 256 * e.toNat)) (by omega) d e
  rw [clampNat_eq_self_iff] at hholdBytes
  have hurgentByte := byte_eq_iff (n := clampNat 50 250 g.toNat) (by omega) g
  rw [clampNat_eq_self_iff] at hurgentByte
  have hsplit : ([byte (max 1 a.toNat), flag (decide (b.toNat ≠ 0)), byte (min c.toNat 3)] ++
      le16 (clampNat 10 600 (d.toNat + 256 * e.toNat)) ++ [byte (min f.toNat 250), byte (clampNat 50 250 g.toNat)]) =
      [a, b, c, d, e, f, g] ↔
      byte (max 1 a.toNat) = a ∧ flag (decide (b.toNat ≠ 0)) = b ∧ byte (min c.toNat 3) = c ∧
        le16 (clampNat 10 600 (d.toNat + 256 * e.toNat)) = [d, e] ∧ byte (min f.toNat 250) = f ∧
        byte (clampNat 50 250 g.toNat) = g := by
    simp only [le16, List.cons_append, List.nil_append, List.cons.injEq, and_true]
    tauto
  rw [Ne, hsplit, hholdBytes, hurgentByte, byte_eq_iff (by omega), flag_eq_iff, byte_eq_iff (by omega), byte_eq_iff (by omega)]
  omega

end SetNode

/-- Settles O15: the settings are stored at once, and what follows is handed on. -/
theorem setNodeStores : Obligations.SetNodeStores := by
  intro a b c d e f g s hready
  have hstored : storeNode (takenNode [a, b, c, d, e, f, g]) (contact s) =
      { contact s with
        lif := { (contact s).lif with silenceTimeout := max 1 a.toNat, silenceLimit := max 1 a.toNat }
        rau := { s.rau with
          fallback := decide (b.toNat ≠ 0), doorCap := min c.toNat 3,
          autoHold := clampNat 10 600 (d.toNat + 256 * e.toNat), faultIndex := min f.toNat 250,
          urgentIndex := clampNat 50 250 g.toNat } } := by
    rw [takenNode_bytes, contact_eq]
    rfl
  have hhanded := setNode_handedOn (takenNode [a, b, c, d, e, f, g]) (contact s)
  have hbytes : nodeBytes (setNode (takenNode [a, b, c, d, e, f, g]) (contact s)) =
      [byte (max 1 a.toNat), flag (decide (b.toNat ≠ 0)), byte (min c.toNat 3)] ++
        le16 (clampNat 10 600 (d.toNat + 256 * e.toNat)) ++ [byte (min f.toNat 250), byte (clampNat 50 250 g.toNat)] := by
    rw [nodeBytes, hhanded.lif, hhanded.fallback, hhanded.doorCap, hhanded.autoHold, hhanded.faultIndex, hhanded.urgentIndex,
      takenNode_bytes]
    rfl
  rw [hstored] at hhanded
  refine ⟨_, hhanded, ?_⟩
  have hserved : serveOf (.setNode .addressed [a, b, c, d, e, f, g]) s [a, b, c, d, e, f, g] (contact s) =
      answer (nodeBytes (setNode (takenNode [a, b, c, d, e, f, g]) (contact s)) != [a, b, c, d, e, f, g])
        (nodeBytes (setNode (takenNode [a, b, c, d, e, f, g]) (contact s)))
        (setNode (takenNode [a, b, c, d, e, f, g]) (contact s)) := rfl
  have hclamped := nodeBytes_ne_iff a b c d e f g
  rw [exec_served hready rfl rfl rfl, hserved, hbytes, beginService_answer]
  rw [← bne_iff_ne] at hclamped
  rw [Bool.eq_iff_iff.mpr (hclamped.trans decide_eq_true_iff.symm)]

/-! ### NODE RESET (R18) -/

theorem abortSession_alters (s : State) : Alters [.evq, .channels] s (abortSession s) := by
  refine ⟨fun p hp => ?_, ?_⟩
  · unfold abortSession
    split
    · cases p <;> rfl
    · cases p with
      | evq | channels => exact absurd (by decide) hp
      | _ => rfl
  · unfold abortSession
    split
    · exact .refl _
    · exact .push _ rfl

theorem abortSession_evq (s : State) : (abortSession s).evq = match s.cal.span with
    | none => s.evq
    | some sp => s.evq.push ⟨s.tb.clock, .cal sp.channel, .spanAborted, none, some sp.entryG, false⟩ := by
  unfold abortSession
  split <;> simp_all [calEntry, setSpan]

theorem abortSession_cfg (s : State) (c : ChanNo) : ((abortSession s).ch c).cfg = match s.cal.span with
    | none => (s.ch c).cfg
    | some sp => if sp.channel = c then { (s.ch c).cfg with span := sp.entryG } else (s.ch c).cfg := by
  unfold abortSession
  split
  · next hspan => simp [hspan]
  · next sp hspan =>
    by_cases hc : sp.channel = c
    · simp [hspan, calEntry, setSpan, ← hc]
    · simp [hspan, calEntry, setSpan, State.ch_modCh, hc, Ne.symm hc]

/-- A node reset leaves a fan's configuration, latch and history, and stops it or lets it coast (R127, R143). -/
theorem fan_nodeReset (x : Fan) (now : Ms) :
    (x.nodeReset now).cfg = x.cfg ∧ (x.nodeReset now).latch = x.latch ∧ (x.nodeReset now).history = x.history ∧
      (x.nodeReset now).retryCount = x.retryCount ∧ (x.nodeReset now).retryDue = x.retryDue ∧
      (x.nodeReset now).reqStage = 0 ∧ (x.nodeReset now).effStage = 0 ∧ (x.nodeReset now).dirOut = x.dirOut ∧
      (x.nodeReset now).tachCount = x.tachCount ∧
      (x.nodeReset now).state = if poweredState x.state then some .coasting
        else if x.state = some .waitingBudget then some .stopped else x.state := by
  unfold Fan.nodeReset
  split_ifs <;> exact ⟨rfl, rfl, rfl, rfl, rfl, rfl, rfl, rfl, rfl, rfl⟩

theorem contacts_restart_incomplete (cs : Contacts) (now : Ms) : (cs.restart now).complete = false := by
  simp [Contacts.complete, Contacts.restart, ContactState.restart]

theorem each_fan (g : Fan → Fan) (s : State) (f : FanNo) : (each g s.fans)[f] = g (s.fan f) := getElem_each g s.fans f.val f.isLt

theorem each_door (g : Door → Door) (s : State) (d : DoorNo) : (each g s.doors)[d] = g (s.door d) :=
  getElem_each g s.doors d.val d.isLt

theorem each_ch (g : Channel → Channel) (s : State) (c : ChanNo) : (each g s.channels)[c] = g (s.ch c) :=
  getElem_each g s.channels c.val c.isLt

/-- The end of the reply to an accepted NODE RESET (R18). -/
theorem exec_replySent_reset {s : State} {v : Service} (h : s.lif.service = some v) (hreset : v.resetAfter = true)
    (hsending : v.sending = true) (hsent : (v.payload.length + 6) * 10 * 100000 ≤ v.elapsed * Config.baud s.lif.straps.bitRate) :
    exec .replySent s = .next (nodeReset (endService s)) := by
  have hover : s.replyOver = true := by
    rw [State.replyOver, h]
    simp only [hsending, Bool.true_and]
    exact decide_eq_true hsent
  have hfollows : s.resetFollows = true := by simp [State.resetFollows, h, hreset]
  rw [exec_replySent, finishReply, if_pos hover, if_pos hfollows]

/-! ### What the two resets of the blocks leave (R53, R54, R127, R143, R169, R190) -/

section
variable (s : State)

theorem ch_reset (c : ChanNo) : (resetPlant (resetSensing s)).ch c = restartedChannel (s.ch c).cfg := each_ch _ s c

theorem fan_reset (f : FanNo) : (resetPlant (resetSensing s)).fan f = (s.fan f).nodeReset s.tb.uptime := each_fan _ s f

theorem door_reset (d : DoorNo) : (resetPlant (resetSensing s)).door d = (s.door d).nodeReset s.tb.uptime := each_door _ s d

theorem held_reset (f : FanNo) : (resetPlant (resetSensing s)).held f = { s.held f with req := 0, eff := 0 } :=
  getElem_each _ s.rau.fans f.val f.isLt

end

/-- The part as the node reset finds it once the session has been ended. -/
theorem abortSession_fields (s : State) :
    (abortSession s).lif = s.lif ∧ (abortSession s).tb = s.tb ∧ (abortSession s).scn = s.scn ∧
      (abortSession s).inhibit = s.inhibit ∧ (abortSession s).fans = s.fans ∧ (abortSession s).rau = s.rau ∧
      (abortSession s).doors = s.doors := by
  have hsame := (abortSession_alters s).1
  exact ⟨hsame .lif (by decide), hsame .tb (by decide), hsame .scn (by decide), hsame .inhibit (by decide),
    hsame .fans (by decide), hsame .rau (by decide), hsame .doors (by decide)⟩

theorem enabled_abortSession (s : State) (c : ChanNo) : ((abortSession s).ch c).cfg.enabled = (s.ch c).cfg.enabled := by
  rw [abortSession_cfg]
  split
  · rfl
  · split <;> rfl

/-- Settles O16: the answer by the regime, and the reset block by block after the session's end. -/
theorem nodeResetActs : Obligations.NodeResetActs := by
  refine ⟨fun s hready => ?_, fun s v hservice hreset hsending hsent => ?_⟩
  · have hserved : exec (.nodeReset .addressed []) s = .next (beginService 0x06 (serveNodeReset [] (contact s))) :=
      (exec_served hready rfl rfl rfl).trans rfl
    rw [hserved, serveNodeReset, contact_rau]
    exact ⟨fun hincident => by rw [if_pos hincident, beginService_refuse], fun helse => by rw [if_neg helse]; rfl⟩
  · rw [exec_replySent_reset hservice hreset hsending hsent]
    refine ⟨_, rfl, ?_⟩
    obtain ⟨hlif, htb, hscn, hinhibit, hfans, hrau, hdoors⟩ :=
      abortSession_fields (resetLif (appendEvent .node .nodeReset none none (endService s)))
    have hfan : ∀ f, (abortSession (resetLif (appendEvent .node .nodeReset none none (endService s)))).fan f = s.fan f :=
      fun f => by rw [State.fan, hfans]; rfl
    have hdoor : ∀ d, (abortSession (resetLif (appendEvent .node .nodeReset none none (endService s)))).door d = s.door d :=
      fun d => by rw [State.door, hdoors]; rfl
    have hheld : ∀ f, (abortSession (resetLif (appendEvent .node .nodeReset none none (endService s)))).held f = s.held f :=
      fun f => by rw [State.held, hrau]; rfl
    refine ⟨hlif, htb, hinhibit, abortSession_evq _, (congrArg Scan.list hscn :), (congrArg Scan.mode hscn :), (congrArg Scan.pause hscn :),
      rfl, rfl, rfl, rfl, fun c => ?_, fun f => ?_, rfl, rfl, (congrArg Rau.autoDir hrau :), (congrArg Rau.floor hrau :),
      (congrArg Rau.floor hrau :), (congrArg Rau.floor hrau :), rfl, rfl, rfl, rfl, (congrArg Rau.steps hrau :), (congrArg Rau.doorCap hrau :),
      fun f => ?_, fun d => ?_⟩
    · rw [nodeReset, ch_reset, restartedChannel, enabled_abortSession, abortSession_cfg]
      rfl
    · rw [nodeReset, fan_reset, hfan]
      exact fan_nodeReset _ _
    · rw [nodeReset, held_reset, hheld]
    · rw [nodeReset, door_reset, hdoor]
      exact ⟨rfl, rfl, rfl, contacts_restart_incomplete _ _, rfl, rfl⟩

end Sys2Proof.Machine

end

/-! PROOFS. Every command as an act and the hand-overs that follow it: which components the act alters before the hand-overs begin.
An invariant that those components do not touch, and that hand-overs keep, needs no more than this. -/

section

namespace Sys2Proof.Machine

/-- From s an act has altered these components, and hand-overs have then been carried out. -/
def Acts (ps : List Part) (s t : State) : Prop := ∃ (v : State) (ws : List Work), Alters ps s v ∧ t = run ws v

theorem Alters.acts {ps : List Part} {s t : State} (h : Alters ps s t) : Acts ps s t := ⟨t, [], h, (run_nil t).symm⟩

theorem Alters.actsRun {ps : List Part} {s v : State} (h : Alters ps s v) (ws : List Work) : Acts ps s (Machine.run ws v) := ⟨v, ws, h, rfl⟩

theorem Alters.actsEffect {ps : List Part} {s : State} {e : Effect} (h : Alters ps s e.1) : Acts ps s (Machine.runEffect e) :=
  ⟨e.1, e.2, h, rfl⟩

theorem Acts.refl (ps : List Part) (s : State) : Acts ps s s := (Alters.refl ps s).acts

theorem Acts.guarded {ps : List Part} {c : Prop} [Decidable c] {s t : State} (h : Acts ps s t) :
    Acts ps s (if c then t else s) := by
  split
  · exact h
  · exact .refl ps s

/-- The answer's state is an act and its hand-overs. -/
abbrev Answer.acts (ps : List Part) (s : State) (a : Answer) : Prop := Acts ps s a.state

theorem Answer.acts_ite {ps : List Part} {s : State} {c : Prop} [Decidable c] {a b : Answer} (ha : a.acts ps s)
    (hb : b.acts ps s) : (if c then a else b).acts ps s := by
  split
  · exact ha
  · exact hb

theorem refuse_acts (ps : List Part) (o : ReqOutcome) (s : State) : (refuse o s).acts ps s := .refl ps s

/-- All components. -/
def Part.every : List Part :=
  [.lif, .tb, .evq, .scn, .channels, .cal, .fans, .inhibit, .rau, .doors, .vestibule, .choices, .pending]

theorem Part.mem_every (p : Part) : p ∈ Part.every := by
  cases p <;> decide

theorem Acts.every (s t : State) (h : Grown s.evq t.evq) : Acts Part.every s t :=
  Alters.acts ⟨fun p hp => absurd (Part.mem_every p) hp, h⟩

/-- The components that the act of a command alters before its hand-overs; all of them where acts and hand-overs alternate. -/
def actParts (i : Instr) : List Part :=
  match i with
  | .statusPoll _ _ | .readPage _ _ | .nodeReset _ _ | .autoHoldExpiry => []
  | .readValues _ _ => [.channels]
  | .fetchEvents _ _ => [.evq]
  | .setTime _ _ => [.evq, .tb]
  | .setScan _ _ | .scanStop _ _ => [.scn]
  | .scanStart _ _ => [.scn, .channels]
  | .setChannel _ _ => .scn :: calParts
  | .setFan _ _ => .choices :: fanParts
  | .setDemand _ _ | .fanCommand _ _ => rauParts
  | .zeroCancel _ _ | .spanEnter _ _ | .spanStep _ _ | .spanSet _ _ | .spanExit _ _ => calParts
  | .tripReset _ _ => fanParts
  | .framingError | .interCharacterGap | .replyStart => [.lif]
  | .settleTimeExpiry | .passPauseExpiry => [.scn]
  | .purgeTimeExpiry => [.cal]
  | .noSamples | .spanTimeout => calParts
  | .tachMeasurement _ _ | .tachSaturation _ | .startTimeout _ | .changeTimeout _ | .coastTimeout _ | .stallWatchExpiry _
  | .budgetRecheck _ | .overcurrentChange _ _ | .tripSourceDebounced _ _ | .autoRetry _ => fanParts
  | .tripInputChange _ _ _ | .retryCountClear _ => [.fans]
  | .stampExpiry => [.fans, .rau, .doors]
  | .inhibitInputChange _ => [.inhibit]
  | .doorContactInputChange _ _ _ => [.doors]
  | .doorContactDebounced _ _ | .holdLimitExpiry _ | .openWaitExpiry _ | .doorFaultTimeout _ => doorParts
  | _ => Part.every

theorem serveSetChannel_acts (fields : List Byte) (s : State) : (serveSetChannel fields s).acts (.scn :: calParts) s := by
  unfold serveSetChannel
  split
  · exact Answer.acts_ite (refuse_acts _ _ s) <| Answer.acts_ite (restartChannel_alters _ _ s).actsEffect (refuse_acts _ _ s)
  · exact refuse_acts _ _ s

theorem serveSetFan_acts (fields : List Byte) (s : State) : (serveSetFan fields s).acts (.choices :: fanParts) s := by
  unfold serveSetFan
  split
  · exact refuse_acts _ _ s
  · exact Answer.acts_ite (refuse_acts _ _ s) <| Answer.acts_ite (placeFan_alters _ _ s).actsEffect (refuse_acts _ _ s)

theorem setHeld_alters_rau (f : FanNo) (r : RauFan) (s : State) : Alters rauParts s (s.setHeld f r) := alters_rau (.refl _) _

theorem replaceDemand_alters_rau (steps : List DemandStep) (dh : Nat) (s : State) : Alters rauParts s (replaceDemand steps dh s) :=
  alters_rau (.refl _) _

theorem serveSetDemand_acts (fields : List Byte) (s : State) : (serveSetDemand fields s).acts rauParts s :=
  Answer.acts_ite ((replaceDemand_alters_rau _ _ s).actsRun _) (refuse_acts _ _ s)

theorem serveFanCommand_acts (fields : List Byte) (s : State) : (serveFanCommand fields s).acts rauParts s := by
  unfold serveFanCommand
  split
  · exact refuse_acts _ _ s
  · exact Answer.acts_ite ((setHeld_alters_rau _ _ s).actsRun _) (refuse_acts _ _ s)

theorem serveZeroCancel_acts (fields : List Byte) (s : State) : (serveZeroCancel fields s).acts calParts s := by
  unfold serveZeroCancel
  split
  · exact refuse_acts _ _ s
  · exact (cancelZero_alters _ s).actsEffect

theorem openSession_alters_cal (c : ChanNo) (step : StepSize) (s : State) : Alters calParts s (openSession c step s).1 :=
  alters_cal (.refl _) _ _

theorem serveSpanEnter_acts (fields : List Byte) (s : State) : (serveSpanEnter fields s).acts calParts s := by
  unfold serveSpanEnter
  split
  · exact refuse_acts _ _ s
  · exact Answer.acts_ite (refuse_acts _ _ s) <| Answer.acts_ite (openSession_alters_cal _ _ s).actsEffect (refuse_acts _ _ s)

theorem withSession_acts {ps : List Part} (fields : List Byte) (s : State) {g : SpanSession → Answer}
    (hg : ∀ sp, (g sp).acts ps s) : (withSession fields s g).acts ps s := by
  unfold withSession
  split
  · exact refuse_acts ps _ s
  · split
    · exact refuse_acts ps _ s
    · exact hg _

theorem writeSpan_alters_cal (sp : SpanSession) (g : Nat) (s : State) : Alters calParts s (writeSpan sp g s) :=
  alters_cal (.refl _) _ _

theorem serveTripReset_acts (fields : List Byte) (s : State) : (serveTripReset fields s).acts fanParts s := by
  unfold serveTripReset
  split
  · exact refuse_acts _ _ s
  · exact Answer.acts_ite
      (Answer.acts_ite (clearTrip_alters _ _ _ s).actsEffect (refuse_acts _ _ s)) (.refl _ s)

/-- A request is answered by an act and its hand-overs. -/
theorem serveOf_acts {i : Instr} {r : Request} (h : i.request = some r) (hfetch : ∀ form fields, i ≠ .fetchEvents form fields)
    (s : State) (fields : List Byte) (u : State) : (serveOf i s fields u).acts (actParts i) u := by
  have hgrown := (serveOf_alters h hfetch s fields u).2
  cases i <;> simp only [Instr.request, reduceCtorEq, Option.some.injEq] at h
  case fetchEvents form l => exact absurd rfl (hfetch form l)
  case setNode | setDoor | zero | regime | doorCommand => exact Acts.every u _ hgrown
  case statusPoll => exact Acts.refl _ u
  case readValues => exact (serveReadValues_alters fields u).acts
  case readPage => exact (serveReadPage_alters fields u).acts
  case setTime => exact (setClock_alters _ u).acts
  case nodeReset => exact (serveNodeReset_alters fields u).acts
  case setScan => exact (serveSetScan_alters fields u).acts
  case scanStart => exact (serveScanStart_alters fields u).acts
  case scanStop => exact (serveScanStop_alters fields u).acts
  case setChannel => exact serveSetChannel_acts fields u
  case setFan => exact serveSetFan_acts fields u
  case setDemand => exact serveSetDemand_acts fields u
  case zeroCancel => exact serveZeroCancel_acts fields u
  case spanEnter => exact serveSpanEnter_acts fields u
  case spanStep => exact withSession_acts fields u fun sp => (writeSpan_alters_cal sp _ u).acts
  case spanSet => exact withSession_acts fields u fun sp => (writeSpan_alters_cal sp _ u).acts
  case spanExit => exact withSession_acts fields u fun sp => (endSession_alters sp _ _ u).actsEffect
  case fanCommand => exact serveFanCommand_acts fields u
  case tripReset => exact serveTripReset_acts fields u

theorem noSamplesAbort_acts (s : State) : Acts calParts s (noSamplesAbort s) := by
  unfold noSamplesAbort
  split
  · exact .refl _ s
  · exact .guarded (abortHead_alters _ _ s).actsEffect

theorem sessionTimedOut_acts (s : State) : Acts calParts s (sessionTimedOut s) := by
  unfold sessionTimedOut
  split
  · exact .refl _ s
  · exact .guarded (endSession_alters _ _ _ s).actsEffect

theorem changeOvercurrent_acts (f : FanNo) (level : Bool) (s : State) : Acts fanParts s (changeOvercurrent f level s) := by
  unfold changeOvercurrent
  split
  · exact ((modFan_alters f _ s).trans (sourceActive_alters _ _ _)).actsEffect
  · exact (modFan_alters f _ s).acts

theorem tachEdge_acts (f : FanNo) (edge : TachEdge) (s : State) : Acts fanParts s (tachEdge f edge s) := by
  cases edge with
  | rising => exact ((modFan_alters f _ s).trans (risingEdge_alters f _)).actsEffect
  | falling => exact (modFan_alters f (fun x => { x with tachLevel := false }) s).acts

/-- An event that neither brings a frame nor ends a reply is an act and its hand-overs. -/
theorem event_acts {i : Instr} (hrequest : i.request = none) {s t : State} (h : exec i s = .next t)
    (hframe : .pending ∉ eventParts i ∧ .tb ∉ eventParts i) : Acts (actParts i) s t := by
  have hgrown := (event_alters hrequest h hframe).2
  obtain ⟨-, htb⟩ := hframe
  cases i
  all_goals simp only [Instr.request, reduceCtorEq] at hrequest
  all_goals obtain rfl := Host.Outcome.next.inj h
  case fullReset | foreignFrame | unknownRequest | replySent | characterReceived =>
    dsimp only [eventParts] at htb
    exact absurd (by decide) htb
  case conversionComplete | inhibitOn | inhibitOff | silenceTimeout => exact Acts.every s _ hgrown
  case framingError => exact Alters.acts ⟨sameBut_lif s _, .refl _⟩
  case interCharacterGap => exact .guarded (Alters.acts ⟨sameBut_lif s _, .refl _⟩)
  case replyStart => exact .guarded (Alters.acts ⟨sameBut_lif s _, .refl _⟩)
  case settleTimeExpiry => exact .guarded (Alters.acts ⟨sameBut_scn s _, .refl _⟩)
  case passPauseExpiry => exact .guarded (Alters.trans ⟨sameBut_scn s s.scn.toNextPass, .refl _⟩ (beginVisit_alters _)).acts
  case purgeTimeExpiry => exact .guarded (Alters.acts ⟨setCal_sameBut _ s, .refl _⟩)
  case noSamples => exact noSamplesAbort_acts s
  case spanTimeout => exact sessionTimedOut_acts s
  case tachMeasurement f edge => exact tachEdge_acts f edge s
  case tachSaturation f => exact .guarded (saturate_alters f s).actsEffect
  case startTimeout f => exact .guarded (startTimedOut_alters f s).actsEffect
  case changeTimeout f => exact .guarded (speedOff_alters f s).actsEffect
  case coastTimeout f => exact .guarded ((appendEvent_alters _ _ _ _ s).trans (endCoast_alters f _)).actsEffect
  case stallWatchExpiry f => exact .guarded ((modFan_alters f _ s).trans (raiseStall_alters f _)).actsEffect
  case budgetRecheck f => exact .guarded (recheckBudget_alters f s).actsEffect
  case stampExpiry => exact Alters.acts ⟨expireStamps_sameBut s, .refl _⟩
  case overcurrentChange f level => exact changeOvercurrent_acts f level s
  case tripInputChange => exact Alters.acts ⟨sameBut_fans s _, .refl _⟩
  case tripSourceDebounced f i => exact .guarded ((modFan_alters f _ s).trans (sourceActive_alters f _ _)).actsEffect
  case autoRetry f => exact .guarded (retryTrip_alters f s).actsEffect
  case retryCountClear => exact .guarded (Alters.acts ⟨sameBut_fans s _, .refl _⟩)
  case inhibitInputChange => exact Alters.acts ⟨sameBut_inhibit s _, .refl _⟩
  case autoHoldExpiry => exact .guarded ((Alters.refl [] s).actsRun _)
  case doorContactInputChange => exact Alters.acts ⟨sameBut_doors s _, .refl _⟩
  case doorContactDebounced d c => exact .guarded (contactDebounced_alters d c s).actsEffect
  case holdLimitExpiry d => exact (holdExpiry_alters d s).actsEffect
  case openWaitExpiry d => exact (waitExpiry_alters d s).actsEffect
  case doorFaultTimeout d => exact (faultExpiry_alters d s).actsEffect

theorem pending_notMem_eventParts (i : Instr) : .pending ∉ eventParts i := by
  cases i
  all_goals
    dsimp only [eventParts]
    decide

/-- An invariant of the components D that hand-overs keep needs a proof of its own only for the commands whose act alters one of
them. -/
theorem plantInvariant_of_acts {P : State → Prop} (D : List Part)
    (node : ∀ (s : State) (lif : Lif) (tb : TimeBase) (evq : EventQueue) (choices : Nat) (pending : List Instr), P s →
      P { s with lif := lif, tb := tb, evq := evq, choices := choices, pending := pending })
    (apart : ∀ (s v : State) (ws : List Work), (∀ p ∈ D, p.same s v) → P s → P (run ws v))
    (serve : ∀ (i : Instr) (r : Request) (s0 s : State) (fields : List Byte), i.request = some r →
      (∃ p ∈ D, p ∈ actParts i) → P s → P (serveOf i s0 fields s).state)
    (event : ∀ (i : Instr) (s t : State), i.request = none → .tb ∉ eventParts i → (∃ p ∈ D, p ∈ actParts i) → P s →
      exec i s = .next t → P t)
    (advance : ∀ s : State, P s → P (advance s))
    (fullReset : ∀ (straps : Straps) (s : State), P s → P (fullReset straps s))
    (nodeReset : ∀ s : State, P s → P (nodeReset s)) : PlantInvariant P where
  node := node
  serve i r s0 s fields hi hs := by
    by_cases hmeets : ∃ p ∈ D, p ∈ actParts i
    · exact serve i r s0 s fields hi hmeets hs
    · by_cases hfetch : ∃ form l, i = .fetchEvents form l
      · obtain ⟨form, l, rfl⟩ := hfetch
        exact node s s.lif s.tb _ s.choices s.pending hs
      · obtain ⟨v, ws, hv, heq⟩ := serveOf_acts hi (fun form l e => hfetch ⟨form, l, e⟩) s0 fields s
        rw [heq]
        exact apart s v ws (fun p hp => hv.1 p fun hin => hmeets ⟨p, hp, hin⟩) hs
  event i s t hi htb hs hexec := by
    by_cases hmeets : ∃ p ∈ D, p ∈ actParts i
    · exact event i s t hi htb hmeets hs hexec
    · obtain ⟨v, ws, hv, rfl⟩ := event_acts hi hexec ⟨pending_notMem_eventParts i, htb⟩
      exact apart s v ws (fun p hp => hv.1 p fun hin => hmeets ⟨p, hp, hin⟩) hs
  advance := advance
  fullReset := fullReset
  nodeReset := nodeReset

end Sys2Proof.Machine

end

/-! PROOFS. The doors: what each act of the door supervisors does to the doors' records, and the statements about the doors. -/

section

namespace Sys2Proof.Machine

/-! ### The hand-over of a door's change (R185) -/

theorem evaluateBreach_doors (s : State) : (evaluateBreach s).doors = s.doors := by
  unfold evaluateBreach
  split_ifs <;> rfl

theorem evaluateBreach_rau (s : State) : (evaluateBreach s).rau = s.rau := by
  unfold evaluateBreach
  split_ifs <;> rfl

theorem evaluateBreach_breach (s : State) : (evaluateBreach s).vestibule.breach = s.bothOpen := by
  unfold evaluateBreach
  split_ifs with h hopen
  · exact h.symm
  · exact hopen.symm
  · exact (Bool.eq_false_of_not_eq_true hopen).symm

theorem handDoor_doors (s : State) : (handDoor s).doors = s.doors := evaluateBreach_doors s

theorem handDoor_rau (s : State) :
    (handDoor s).rau = { s.rau with doorOpen := openDoor (s.door 0).state || openDoor (s.door 1).state } := by
  have hdoor : ∀ d, (evaluateBreach s).door d = s.door d := fun d => by rw [State.door, evaluateBreach_doors, State.door]
  change { (evaluateBreach s).rau with
    doorOpen := openDoor ((evaluateBreach s).door 0).state || openDoor ((evaluateBreach s).door 1).state } = _
  rw [evaluateBreach_rau, hdoor, hdoor]

@[simp] theorem handDoor_regime (s : State) : (handDoor s).rau.regime = s.rau.regime := by rw [handDoor_rau]

@[simp] theorem door_handDoor (d : DoorNo) (s : State) : (handDoor s).door d = s.door d := by
  rw [State.door, handDoor_doors, State.door]

@[simp] theorem handDoor_tb (s : State) : (handDoor s).tb = s.tb := (handDoor_alters s).1 .tb (by decide)

@[simp] theorem updateBuzzer_regime (s : State) : (updateBuzzer s).rau.regime = s.rau.regime := rfl

@[simp] theorem door_updateBuzzer (d : DoorNo) (s : State) : (updateBuzzer s).door d = s.door d := rfl

/-! ### A door's move -/

@[simp] theorem door_moveDoor (d k : DoorNo) (m : Door × Option Int) (s : State) :
    (moveDoor d m s).door k = if k = d then m.1 else s.door k := by
  simp [moveDoor, doorChanged, State.door_setDoor]

@[simp] theorem moveDoor_tb (d : DoorNo) (m : Door × Option Int) (s : State) : (moveDoor d m s).tb = s.tb :=
  (moveDoor_alters d m s).1 .tb (by decide)

@[simp] theorem moveDoor_regime (d : DoorNo) (m : Door × Option Int) (s : State) :
    (moveDoor d m s).rau.regime = s.rau.regime := by
  simp [moveDoor, doorChanged]

/-- A door's move appends DOOR STATE first (R185). -/
theorem moveDoor_grown (d : DoorNo) (m : Door × Option Int) (s : State) :
    Grown (s.evq.push ⟨s.tb.clock, .door d, .doorState, some (doorStateCode m.1.state), m.2, false⟩) (moveDoor d m s).evq := by
  have h := (handDoor_alters (appendEvent (.door d) .doorState (some (doorStateCode ((s.setDoor d m.1).door d).state)) m.2
    (s.setDoor d m.1))).2
  have hentry : (appendEvent (.door d) .doorState (some (doorStateCode ((s.setDoor d m.1).door d).state)) m.2
      (s.setDoor d m.1)).evq =
        s.evq.push ⟨s.tb.clock, .door d, .doorState, some (doorStateCode m.1.state), m.2, false⟩ := by
    rw [State.door_setDoor_same]
    rfl
  rw [hentry] at h
  exact h

/-- The two records agree on all that no move between the states touches. -/
abbrev Door.sameOutputs (x y : Door) : Prop :=
  y.cfg = x.cfg ∧ y.contacts = x.contacts ∧ y.lockMode = x.lockMode ∧ y.sign = x.sign ∧ y.lock = x.lock ∧
    y.engageWaiting = x.engageWaiting

theorem Door.sameOutputs.shows {x y : Door} (h : x.sameOutputs y) (c : Contact) : y.shows c = x.shows c := by
  obtain ⟨-, hcontacts, -⟩ := h
  rw [Door.shows, Door.shows, hcontacts]

theorem timeFaults_outputs (x : Door) (now : Ms) : x.sameOutputs (x.timeFaults now) := ⟨rfl, rfl, rfl, rfl, rfl, rfl⟩

theorem contactMarks_outputs (x : Door) (c : Contact) (level : Bool) (now : Ms) :
    x.sameOutputs (x.contactMarks c level now) := by
  cases c <;> simp only [Door.contactMarks, Door.barChange, Door.handleChange]
  case escapeBar | reverseHandle => split_ifs <;> exact ⟨rfl, rfl, rfl, rfl, rfl, rfl⟩
  all_goals exact ⟨rfl, rfl, rfl, rfl, rfl, rfl⟩

theorem contactMarks_state (x : Door) (c : Contact) (level : Bool) (now : Ms) :
    (x.contactMarks c level now).state = x.state := by
  cases c <;> simp only [Door.contactMarks, Door.barChange, Door.handleChange]
  case escapeBar | reverseHandle => split_ifs <;> rfl

theorem deriveDoor_outputs (s : State) (x : Door) : x.sameOutputs (deriveDoor s x).1 := by
  unfold deriveDoor
  split_ifs <;> exact ⟨rfl, rfl, rfl, rfl, rfl, rfl⟩

theorem deriveDoor_state (s : State) (x : Door) : (deriveDoor s x).1.state = some x.derived := by
  unfold deriveDoor Door.derived
  split_ifs <;> simp [Door.toClosed, Door.toUnlatchedUnarmed, Door.toOpened, *]

theorem deriveDoor_value (s : State) (x : Door) :
    (deriveDoor s x).2 = if x.derived = .opened then some 0 else none := by
  unfold deriveDoor Door.derived
  split_ifs <;> simp_all

theorem openFromUnlatched_outputs (s : State) (x : Door) :
    x.sameOutputs (openFromUnlatched s x).1 ∧ (openFromUnlatched s x).1.state.isSome = true := by
  simp only [openFromUnlatched]
  split_ifs <;> exact ⟨⟨rfl, rfl, rfl, rfl, rfl, rfl⟩, rfl⟩

theorem openFromClosed_outputs (s : State) (x : Door) :
    x.sameOutputs (openFromClosed s x).1 ∧ (openFromClosed s x).1.state.isSome = true := by
  simp only [openFromClosed]
  split_ifs <;> exact ⟨⟨rfl, rfl, rfl, rfl, rfl, rfl⟩, rfl⟩

theorem closedMove_outputs {s : State} {x : Door} {level : Bool} {m : Door × Option Int} (h : closedMove s x level = some m) :
    x.sameOutputs m.1 ∧ m.1.state.isSome = true := by
  unfold closedMove at h
  split at h
  case h_8 => cases h
  case h_4 | h_5 =>
    obtain rfl := Option.some.inj h
    exact openFromUnlatched_outputs s x
  case h_6 | h_7 =>
    obtain rfl := Option.some.inj h
    exact openFromClosed_outputs s x
  all_goals
    obtain rfl := Option.some.inj h
    dsimp only
    split_ifs <;> exact ⟨⟨rfl, rfl, rfl, rfl, rfl, rfl⟩, rfl⟩

theorem latchMove_outputs {s : State} {x : Door} {level : Bool} {m : Door × Option Int} (h : latchMove s x level = some m) :
    x.sameOutputs m.1 ∧ m.1.state.isSome = true := by
  unfold latchMove at h
  split at h
  case h_5 => cases h
  all_goals
    obtain rfl := Option.some.inj h
    exact ⟨⟨rfl, rfl, rfl, rfl, rfl, rfl⟩, rfl⟩

theorem feedbackMove_outputs {x : Door} {level : Bool} {m : Door × Option Int} (h : feedbackMove x level = some m) :
    x.sameOutputs m.1 ∧ m.1.state.isSome = true := by
  unfold feedbackMove at h
  split at h
  case h_3 => cases h
  all_goals
    obtain rfl := Option.some.inj h
    exact ⟨⟨rfl, rfl, rfl, rfl, rfl, rfl⟩, rfl⟩

theorem contactMove_outputs {s : State} {x : Door} {c : Contact} {level : Bool} {m : Door × Option Int}
    (h : contactMove s x c level = some m) : x.sameOutputs m.1 ∧ m.1.state.isSome = true := by
  cases c with
  | closed => exact closedMove_outputs h
  | latch => exact latchMove_outputs h
  | lockFeedback => exact feedbackMove_outputs h
  | escapeBar | reverseHandle => cases h

/-- A move of the door, where there is one. -/
def takeMove (d : DoorNo) (m : DoorMove) (s : State) : State :=
  match m with
  | none => s
  | some m => moveDoor d m s

/-- The move that a contact asks for depends on the time base alone. -/
theorem contactMove_congr {s t : State} (h : t.tb = s.tb) (x : Door) (c : Contact) (level : Bool) :
    contactMove t x c level = contactMove s x c level := by
  cases s
  cases t
  cases h
  rfl

theorem contactActs_absent {d : DoorNo} {s : State} (h : (s.door d).state = none) (c : Contact) (level : Bool) :
    contactActs d c level s = s := by
  simp only [contactActs, h]

theorem contactActs_initial {d : DoorNo} {s : State} (h : (s.door d).state = some .initial) (c : Contact) (level : Bool) :
    contactActs d c level s =
      if (s.door d).contacts.complete = true then moveDoor d (deriveDoor s (s.door d)) s else s := by
  simp only [contactActs, h]

theorem contactActs_judged {d : DoorNo} {s : State} {st : DoorState} (h : (s.door d).state = some st) (hst : st ≠ .initial)
    (c : Contact) (level : Bool) :
    contactActs d c level s = takeMove d (contactMove s ((s.door d).contactMarks c level s.tb.uptime) c level)
      (s.modDoor d (·.contactMarks c level s.tb.uptime)) := by
  have hmove := contactMove_congr (s.modDoor_tb d (·.contactMarks c level s.tb.uptime))
    ((s.door d).contactMarks c level s.tb.uptime) c level
  cases st
  case initial => exact absurd rfl hst
  all_goals
    simp only [contactActs, h, State.door_modDoor_same, hmove]
    rfl

/-! ### The end of a FAULT (R182, R183) -/

/-- The door is in FAULT and neither of its conditions stands. -/
abbrev Door.faultEnds (x : Door) : Prop := x.state = some .fault ∧ x.disagrees = false ∧ x.latchWhileOpen = false

/-- The door's record after a change of a contact or of the drive has been followed up. -/
def followedDoor (s : State) (x : Door) : Door :=
  if x.faultEnds then (deriveDoor s (x.timeFaults s.tb.uptime)).1 else x.timeFaults s.tb.uptime

/-- What a door's derived state leaves depends on the uptime alone. -/
theorem deriveDoor_congr {s t : State} (h : t.tb = s.tb) (x : Door) : deriveDoor t x = deriveDoor s x := by
  simp only [deriveDoor, h]

theorem followUp_eq (d : DoorNo) (s : State) :
    followUp d s = if (s.door d).faultEnds then
      moveDoor d (deriveDoor s ((s.door d).timeFaults s.tb.uptime)) (s.modDoor d (·.timeFaults s.tb.uptime))
    else s.modDoor d (·.timeFaults s.tb.uptime) := by
  simp only [followUp, State.door_modDoor_same, deriveDoor_congr (s.modDoor_tb d (·.timeFaults s.tb.uptime))]
  exact if_congr Iff.rfl rfl rfl

theorem door_followUp (d k : DoorNo) (s : State) :
    (followUp d s).door k = if k = d then followedDoor s (s.door d) else s.door k := by
  rw [followUp_eq]
  unfold followedDoor
  split_ifs <;> simp [State.door_modDoor, *]

@[simp] theorem followUp_regime (d : DoorNo) (s : State) : (followUp d s).rau.regime = s.rau.regime := by
  rw [followUp_eq]
  split_ifs <;> simp

@[simp] theorem followUp_tb (d : DoorNo) (s : State) : (followUp d s).tb = s.tb := (followUp_alters d s).1 .tb (by decide)

theorem followedDoor_outputs (s : State) (x : Door) : x.sameOutputs (followedDoor s x) := by
  unfold followedDoor
  split_ifs
  · exact deriveDoor_outputs s (x.timeFaults s.tb.uptime)
  · exact timeFaults_outputs x _

theorem followedDoor_isSome (s : State) (x : Door) : (followedDoor s x).state.isSome = x.state.isSome := by
  unfold followedDoor
  split_ifs with h
  · rw [deriveDoor_state, h.1]
    rfl
  · rfl

/-! ### The invariant of the doors -/

theorem Door.ok_of_outputs {r : Regime} {x y : Door} (h : x.ok r) (hout : x.sameOutputs y)
    (hstate : y.state.isSome = x.state.isSome) : y.ok r := by
  obtain ⟨hcfg, -, hmode, hsign, hlock, hengage⟩ := hout
  rw [Door.ok, hcfg, hmode, hsign, hlock, hengage, hstate]
  exact h

/-- What carrying the drive leaves. -/
theorem carryDrive_ok {r : Regime} {x : Door} (hstate : x.state.isSome = x.cfg.present)
    (hsign : x.sign = if x.cfg.present then (if r = .incident then .flash else .steady) else .off) :
    (x.carryDrive r).ok r := by
  unfold Door.carryDrive
  have hdue : x.releaseDue r = false → r ≠ .incident ∧ x.lockMode = .locked := by
    unfold Door.releaseDue
    cases r <;> cases x.lockMode <;> simp
  split_ifs with hpresent hrelease hlock
  · simp_all [Door.ok]
  · simp_all [Door.ok]
  · have := hdue (by simpa using hrelease)
    simp_all [Door.ok]
  · have := hdue (by simpa using hrelease)
    simp_all [Door.ok]
  · have := hdue (by simpa using hrelease)
    simp_all [Door.ok]

theorem carryDrive_state (x : Door) (r : Regime) :
    (x.carryDrive r).state = x.state ∧ (x.carryDrive r).cfg = x.cfg ∧ (x.carryDrive r).sign = x.sign ∧
      (x.carryDrive r).lockMode = x.lockMode ∧ (x.carryDrive r).contacts = x.contacts := by
  unfold Door.carryDrive
  split_ifs <;> exact ⟨rfl, rfl, rfl, rfl, rfl⟩

/-- Drive and sign carried with the regime make a door's outputs good, whatever they were. -/
theorem carrySign_ok {r : Regime} {x : Door} (hstate : x.state.isSome = x.cfg.present) :
    ((x.carryDrive r).carrySign r).ok r := by
  have hcommute : (x.carryDrive r).carrySign r = (x.carrySign r).carryDrive r := by
    unfold Door.carryDrive Door.carrySign
    split_ifs <;> simp_all [Door.releaseDue, Door.shows]
  rw [hcommute]
  exact carryDrive_ok hstate rfl

/-- Every door's outputs go with this regime. -/
abbrev State.doorRecordsOk (s : State) : Prop := ∀ d : DoorNo, (s.door d).ok s.rau.regime

/-- The vestibule's breach and the RAU's door open condition go with the doors' states. -/
abbrev State.openingsHeld (s : State) : Prop :=
  s.vestibule.breach = s.bothOpen ∧ s.rau.doorOpen = (openDoor (s.door 0).state || openDoor (s.door 1).state)

/-- A hand-over of a door's change leaves the vestibule and the RAU in step, whatever they were. -/
theorem handDoor_vestibuleOk (s : State) : (handDoor s).vestibuleOk := by
  have hdoor : ∀ d, (evaluateBreach s).door d = s.door d := fun d => by rw [State.door, evaluateBreach_doors, State.door]
  have hbreach : (evaluateBreach s).vestibule.breach = (evaluateBreach s).bothOpen := by
    rw [evaluateBreach_breach, State.bothOpen, State.bothOpen, hdoor, hdoor]
  refine ⟨hbreach, fun h => ?_, rfl, rfl⟩
  exact (Bool.and_eq_true_iff.mp h).2

theorem updateBuzzer_vestibuleOk {s : State} (h : s.openingsHeld) : (updateBuzzer s).vestibuleOk :=
  ⟨h.1, fun hs => (Bool.and_eq_true_iff.mp hs).2, rfl, h.2⟩

/-- A door record changed without a change of its state. -/
theorem modDoor_vestibuleOk {s : State} {d : DoorNo} {g : Door → Door} (h : s.vestibuleOk)
    (hstate : (g (s.door d)).state = (s.door d).state) : (s.modDoor d g).vestibuleOk := by
  have hdoor : ∀ k, ((s.modDoor d g).door k).state = (s.door k).state := fun k => by
    rw [State.door_modDoor]
    split_ifs with hk
    · rw [hstate, hk]
    · rfl
  simp only [State.vestibuleOk, State.bothOpen, State.buzzerCondition, hdoor]
  exact h

theorem modDoor_recordsOk {s : State} {d : DoorNo} {g : Door → Door} (h : ∀ k, k ≠ d → (s.door k).ok s.rau.regime)
    (hg : (g (s.door d)).ok s.rau.regime) : (s.modDoor d g).doorRecordsOk := by
  intro k
  rw [State.door_modDoor]
  split_ifs with hk
  · exact hg
  · exact h k hk

theorem moveDoor_doorsOk {s : State} {d : DoorNo} {m : Door × Option Int} (h : ∀ k, k ≠ d → (s.door k).ok s.rau.regime)
    (hm : m.1.ok s.rau.regime) : (moveDoor d m s).doorsOk := by
  refine ⟨fun k => ?_, handDoor_vestibuleOk _⟩
  rw [door_moveDoor, moveDoor_regime]
  split_ifs with hk
  · exact hm
  · exact h k hk

theorem followUp_doorsOk {s : State} (d : DoorNo) (h : s.doorsOk) : (followUp d s).doorsOk := by
  obtain ⟨hrecords, hvestibule⟩ := h
  rw [followUp_eq]
  split_ifs with hends
  · refine moveDoor_doorsOk (fun k hk => ?_) ?_
    · simpa [State.door_modDoor, hk] using hrecords k
    · exact Door.ok_of_outputs (hrecords d) (deriveDoor_outputs s ((s.door d).timeFaults s.tb.uptime))
        (by rw [deriveDoor_state, hends.1]; rfl)
  · exact ⟨modDoor_recordsOk (fun k _ => hrecords k) (hrecords d), modDoor_vestibuleOk hvestibule rfl⟩

/-- A door record changed in no output and no state. -/
theorem modDoor_doorsOk {s : State} {d : DoorNo} {g : Door → Door} (h : s.doorsOk) (hstate : (g (s.door d)).state = (s.door d).state)
    (hg : (g (s.door d)).ok s.rau.regime) : (s.modDoor d g).doorsOk :=
  ⟨modDoor_recordsOk (fun k _ => h.1 k) hg, modDoor_vestibuleOk h.2 hstate⟩

theorem contactActs_doorsOk {s : State} (d : DoorNo) (c : Contact) (level : Bool) (h : s.doorsOk) :
    (contactActs d c level s).doorsOk := by
  have hmarks : (s.modDoor d (·.contactMarks c level s.tb.uptime)).doorsOk :=
    modDoor_doorsOk h (contactMarks_state _ _ _ _)
      (Door.ok_of_outputs (h.1 d) (contactMarks_outputs _ _ _ _) (by rw [contactMarks_state]))
  cases hst : (s.door d).state with
  | none => rwa [contactActs_absent hst]
  | some st =>
    have hstate : (s.door d).state.isSome = true := by rw [hst]; rfl
    by_cases hinitial : st = .initial
    · rw [contactActs_initial (hinitial ▸ hst)]
      split_ifs
      · exact moveDoor_doorsOk (fun k _ => h.1 k)
          (Door.ok_of_outputs (h.1 d) (deriveDoor_outputs s _) (by rw [deriveDoor_state, hstate]; rfl))
      · exact h
    · rw [contactActs_judged hst hinitial]
      unfold takeMove
      split
      · exact hmarks
      · next m hm =>
        obtain ⟨hout, hsome⟩ := contactMove_outputs hm
        refine moveDoor_doorsOk (fun k _ => hmarks.1 k) (Door.ok_of_outputs (hmarks.1 d) ?_ ?_)
        · rwa [State.door_modDoor_same]
        · rw [hsome, State.door_modDoor_same, contactMarks_state, hstate]

theorem carryDrive_doorsOk {s : State} (d : DoorNo) (h : s.doorsOk) : (s.modDoor d (·.carryDrive s.rau.regime)).doorsOk :=
  modDoor_doorsOk h (carryDrive_state _ _).1 (carryDrive_ok (h.1 d).1 (h.1 d).2.2.2)

theorem contactDrive_doorsOk {s : State} (d : DoorNo) (c : Contact) (h : s.doorsOk) : (contactDrive d c s).doorsOk := by
  unfold contactDrive
  split_ifs
  · exact followUp_doorsOk d (carryDrive_doorsOk d h)
  · exact h

theorem contactDebounced_doorsOk {s : State} (d : DoorNo) (c : Contact) (h : s.doorsOk) : (contactDebounced d c s).1.doorsOk :=
  contactDrive_doorsOk d c (followUp_doorsOk d (contactActs_doorsOk d c _ (modDoor_doorsOk h rfl (h.1 d))))

/-- A door in a state that enters another. -/
theorem moveDoor_doorsOk_of_outputs {s : State} {d : DoorNo} {m : Door × Option Int} (h : s.doorsOk)
    (hstate : (s.door d).state ≠ none) (hm : (s.door d).sameOutputs m.1) (hsome : m.1.state.isSome = true) :
    (moveDoor d m s).doorsOk :=
  moveDoor_doorsOk (fun k _ => h.1 k) (Door.ok_of_outputs (h.1 d) hm (by rw [hsome, Option.isSome_iff_ne_none.mpr hstate]))

theorem holdExpiry_doorsOk {s : State} (d : DoorNo) (h : s.doorsOk) : (holdExpiry d s).1.doorsOk := by
  unfold holdExpiry
  split_ifs with hover
  · exact moveDoor_doorsOk_of_outputs h (fun hn => by simp [State.holdOver, hn] at hover) ⟨rfl, rfl, rfl, rfl, rfl, rfl⟩ rfl
  · exact h

theorem waitExpiry_doorsOk {s : State} (d : DoorNo) (h : s.doorsOk) : (waitExpiry d s).1.doorsOk := by
  unfold waitExpiry
  split_ifs with hover
  · exact moveDoor_doorsOk_of_outputs h (fun hn => by simp [State.waitOver, hn] at hover) ⟨rfl, rfl, rfl, rfl, rfl, rfl⟩ rfl
  · exact h

theorem faultExpiry_doorsOk {s : State} (d : DoorNo) (h : s.doorsOk) : (faultExpiry d s).1.doorsOk := by
  unfold faultExpiry
  split_ifs with hover
  · exact moveDoor_doorsOk_of_outputs h (fun hn => by simp [State.faultOver, Door.judged, hn] at hover)
      ⟨rfl, rfl, rfl, rfl, rfl, rfl⟩ rfl
  · exact h

/-! ### What the doors' invariant reads -/

/-- The two states agree on the doors, the vestibule and the door open condition, and on whether the regime is INCIDENT. -/
structure SameDoors (s t : State) : Prop where
  doors : t.doors = s.doors
  vestibule : t.vestibule = s.vestibule
  incident : t.rau.regime = .incident ↔ s.rau.regime = .incident
  doorOpen : t.rau.doorOpen = s.rau.doorOpen

theorem SameDoors.refl (s : State) : SameDoors s s := ⟨rfl, rfl, .rfl, rfl⟩

theorem SameDoors.trans {s t u : State} (h : SameDoors s t) (k : SameDoors t u) : SameDoors s u :=
  ⟨k.doors.trans h.doors, k.vestibule.trans h.vestibule, k.incident.trans h.incident, k.doorOpen.trans h.doorOpen⟩

theorem HandedOn.sameDoors {s t : State} (h : HandedOn s t) : SameDoors s t :=
  ⟨h.doors, h.vestibule, by rw [h.regime], h.doorOpen⟩

theorem run_sameDoors (ws : List Work) (s : State) : SameDoors s (run ws s) := (run_handedOn ws s).sameDoors

theorem sameDoors_of_parts {ps : List Part} {s t : State} (h : sameBut ps s t)
    (hps : .doors ∉ ps ∧ .vestibule ∉ ps ∧ .rau ∉ ps := by decide) : SameDoors s t := by
  obtain ⟨hdoors, hvestibule, hrau⟩ := hps
  have hrau : t.rau = s.rau := h .rau hrau
  exact ⟨h .doors hdoors, h .vestibule hvestibule, by rw [hrau], by rw [hrau]⟩

theorem SameDoors.door {s t : State} (h : SameDoors s t) (d : DoorNo) : t.door d = s.door d := by
  rw [State.door, State.door, h.doors]

theorem SameDoors.vestibuleOk {s t : State} (h : SameDoors s t) (hs : s.vestibuleOk) : t.vestibuleOk := by
  have hregime : (t.rau.regime != .incident) = (s.rau.regime != .incident) :=
    Bool.eq_iff_iff.mpr (by simp [h.incident])
  simpa only [State.vestibuleOk, State.bothOpen, State.buzzerCondition, h.door, h.vestibule, hregime, h.doorOpen] using hs

theorem SameDoors.doorsOk {s t : State} (h : SameDoors s t) (hs : s.doorsOk) : t.doorsOk := by
  refine ⟨fun d => ?_, h.vestibuleOk hs.2⟩
  rw [h.door]
  simpa only [Door.ok, ne_eq, h.incident] using hs.1 d

theorem foldl_sameDoors {α : Type} {g : State → α → State} (h : ∀ s a, SameDoors s (g s a)) (l : List α) (s : State) :
    SameDoors s (l.foldl g s) := by
  induction l generalizing s with
  | nil => exact .refl s
  | cons a l ih => exact (h s a).trans (ih (g s a))

theorem runEffect_sameDoors {ps : List Part} {s : State} {e : Effect} (h : Alters ps s e.1)
    (hps : .doors ∉ ps ∧ .vestibule ∉ ps ∧ .rau ∉ ps := by decide) : SameDoors s (runEffect e) :=
  (sameDoors_of_parts h.1 hps).trans (run_sameDoors _ _)

theorem SameDoors.guarded {c : Prop} [Decidable c] {s t : State} (h : SameDoors s t) : SameDoors s (if c then t else s) := by
  split
  · exact h
  · exact .refl s

/-! ### The acts outside the doors -/

theorem storeNode_sameDoors (n : NodeSettings) (s : State) : SameDoors s (storeNode n s) := ⟨rfl, rfl, .rfl, rfl⟩

theorem setNode_sameDoors (n : NodeSettings) (s : State) : SameDoors s (setNode n s) :=
  (storeNode_sameDoors n s).trans (setNode_handedOn n s).sameDoors

theorem enqueue_sameDoors (c : ChanNo) (t : CalType) (s : State) : SameDoors s (enqueue c t s).1 := ⟨rfl, rfl, .rfl, rfl⟩

theorem runEnqueue_sameDoors (c : ChanNo) (t : CalType) (s : State) : SameDoors s (runEffect (enqueue c t s)) :=
  (enqueue_sameDoors c t s).trans (run_sameDoors _ _)

theorem groupZero_sameDoors (s : State) : SameDoors s (groupZero s) :=
  foldl_sameDoors (fun _ _ => .guarded (runEnqueue_sameDoors _ _ _)) _ s

theorem zeroChannel_sameDoors (c : ChanNo) (code : Nat) (s : State) : SameDoors s (zeroChannel c code s).state := by
  simp only [zeroChannel]
  split_ifs
  · exact .refl s
  · exact runEnqueue_sameDoors c _ s
  · exact .refl s

theorem serveZero_sameDoors (form : Form) (fields : List Byte) (s : State) : SameDoors s (serveZero form fields s).state := by
  unfold serveZero
  split
  · split
    · exact .refl s
    · dsimp only [answer]
      exact groupZero_sameDoors s
  · split
    · exact .refl s
    · exact zeroChannel_sameDoors _ _ s

theorem replaceDemand_sameDoors (steps : List DemandStep) (dh : Nat) (s : State) : SameDoors s (replaceDemand steps dh s) :=
  ⟨rfl, rfl, .rfl, rfl⟩

theorem ite_sameDoors {s : State} {c : Prop} [Decidable c] {a b : Answer} (ha : SameDoors s a.state) (hb : SameDoors s b.state) :
    SameDoors s (if c then a else b).state := by
  split
  · exact ha
  · exact hb

theorem serveSetDemand_sameDoors (fields : List Byte) (s : State) : SameDoors s (serveSetDemand fields s).state :=
  ite_sameDoors ((replaceDemand_sameDoors _ _ _).trans (run_sameDoors _ _)) (.refl s)

theorem setHeld_sameDoors (f : FanNo) (r : RauFan) (s : State) : SameDoors s (s.setHeld f r) := ⟨rfl, rfl, .rfl, rfl⟩

theorem serveFanCommand_sameDoors (fields : List Byte) (s : State) : SameDoors s (serveFanCommand fields s).state := by
  unfold serveFanCommand commandFan
  split
  · exact .refl s
  · split
    · exact (setHeld_sameDoors _ _ _).trans (run_sameDoors _ _)
    · exact .refl s

theorem goodWindowDone_sameDoors (c : ChanNo) (w : Nat) (s : State) : SameDoors s (goodWindowDone c w s) := by
  unfold goodWindowDone
  split
  · exact (sameDoors_of_parts (goodWindowFirst_alters c s).1).trans
      ((run_sameDoors _ _).trans (runEffect_sameDoors (routeHead_alters c w _)))
  · exact runEffect_sameDoors ((goodWindowFirst_alters c s).trans (publish_alters c w _))

theorem converted_sameDoors (code : Code) (s : State) : SameDoors s (converted code s) := by
  have hwindow : ∀ (c : ChanNo) (w : List Code) (u : State), SameDoors u (windowDone c w u) := fun c w u => by
    unfold windowDone
    split
    · exact runEffect_sameDoors (faultyWindowDone_alters c u)
    · exact goodWindowDone_sameDoors c _ u
  have hsample : SameDoors s (sampleTaken code s) := by
    unfold sampleTaken takeSample
    split
    · exact .refl s
    · dsimp only
      split
      · exact sameDoors_of_parts (setCh_alters _ _ s).1
      · exact (sameDoors_of_parts (setCh_alters _ _ s).1).trans (hwindow _ _ _)
  unfold converted
  split
  · exact hsample.trans (sameDoors_of_parts (endVisit_alters _).1)
  · exact .refl s

theorem settleInhibit_sameDoors (code : EventCode) (s : State) : SameDoors s (settleInhibit code s) := ⟨rfl, rfl, .rfl, rfl⟩

theorem inFreeOrder_sameDoors {g : State → FanNo → State} (h : ∀ s f, SameDoors s (g s f)) (fans : List FanNo) (s : State) :
    SameDoors s (inFreeOrder fans g s) :=
  SameDoors.trans (t := { s with choices := (freeOrder s.choices fans).2 }) ⟨rfl, rfl, .rfl, rfl⟩ (foldl_sameDoors h _ _)

theorem inhibitFan_sameDoors (s : State) (f : FanNo) : SameDoors s (inhibitFan s f) :=
  .guarded (runEffect_sameDoors (moveFan_alters f _ s))

theorem releaseInhibited_sameDoors (s : State) (f : FanNo) : SameDoors s (releaseInhibited s f) :=
  .guarded (runEffect_sameDoors (moveFan_alters f _ s))

theorem inhibitActive_sameDoors (s : State) : SameDoors s (inhibitActive s) :=
  .guarded ((settleInhibit_sameDoors _ s).trans (inFreeOrder_sameDoors inhibitFan_sameDoors _ _))

theorem inhibitInactive_sameDoors (s : State) : SameDoors s (inhibitInactive s) :=
  .guarded ((settleInhibit_sameDoors _ s).trans (inFreeOrder_sameDoors releaseInhibited_sameDoors _ _))

/-! ### The regime and the doors -/

theorem clearWork_sameDoors (s : State) : SameDoors s (clearWork s) := by
  have hqueue : SameDoors s (clearQueue s) := by
    unfold clearQueue
    split
    · exact sameDoors_of_parts (clearForIncident_alters s).1
    · split
      · exact (sameDoors_of_parts (clearForIncident_alters s).1).trans (takeContribution_handedOn _ _).sameDoors
      · exact sameDoors_of_parts (clearForIncident_alters s).1
  have hsession : ∀ u, SameDoors u (clearSession u) := fun u => by
    unfold clearSession
    split
    · exact .refl u
    · split
      · exact (sameDoors_of_parts (endSession_alters _ _ _ u).1).trans (takeContribution_handedOn _ _).sameDoors
      · exact sameDoors_of_parts (endSession_alters _ _ _ u).1
  exact hqueue.trans (hsession _)

theorem setFans_sameDoors (s : State) : SameDoors s (setFans s) := by
  have hafter : ∀ u, SameDoors u (evaluateShort (seekDemand u)) := fun u =>
    ((seekDemand_handedOn u).trans (evaluateShort_handedOn _)).sameDoors
  unfold setFans
  split
  · exact ((setRequests_handedOn _ s).sameDoors.trans (run_sameDoors _ _)).trans (hafter _)
  · exact (enterAuto_handedOn s).sameDoors
  · exact ((setRequests_handedOn _ s).sameDoors.trans (run_sameDoors _ _)).trans (hafter _)

/-- A door's change with the regime gives its outputs anew. -/
theorem door_regimeDoor (d k : DoorNo) (s : State) : (regimeDoor d s).door k =
    if k = d then followedDoor (s.modDoor d fun x => (x.carryDrive s.rau.regime).carrySign s.rau.regime)
      (((s.door d).carryDrive s.rau.regime).carrySign s.rau.regime) else s.door k := by
  rw [regimeDoor, door_followUp]
  split_ifs with hk
  · rw [State.door_modDoor_same]
  · rw [State.door_modDoor, if_neg hk]

@[simp] theorem regimeDoor_regime (d : DoorNo) (s : State) : (regimeDoor d s).rau.regime = s.rau.regime := by
  rw [regimeDoor, followUp_regime, State.modDoor_rau]

theorem regimeDoor_ok {d : DoorNo} {s : State} (h : (s.door d).state.isSome = (s.door d).cfg.present) :
    ((regimeDoor d s).door d).ok s.rau.regime := by
  rw [door_regimeDoor, if_pos rfl]
  exact Door.ok_of_outputs (carrySign_ok h) (followedDoor_outputs _ _) (followedDoor_isSome _ _)

theorem modDoor_openingsHeld {s : State} {d : DoorNo} {g : Door → Door} (h : s.openingsHeld)
    (hstate : (g (s.door d)).state = (s.door d).state) : (s.modDoor d g).openingsHeld := by
  have hdoor : ∀ k, ((s.modDoor d g).door k).state = (s.door k).state := fun k => by
    rw [State.door_modDoor]
    split_ifs with hk
    · rw [hstate, hk]
    · rfl
  simp only [State.openingsHeld, State.bothOpen, hdoor]
  exact h

theorem followUp_openingsHeld {s : State} (d : DoorNo) (h : s.openingsHeld) : (followUp d s).openingsHeld := by
  rw [followUp_eq]
  split_ifs
  · obtain ⟨hbreach, -, -, hopen⟩ := handDoor_vestibuleOk (appendEvent (.door d) .doorState
      (some (doorStateCode (((s.modDoor d (·.timeFaults s.tb.uptime)).setDoor d
        (deriveDoor s ((s.door d).timeFaults s.tb.uptime)).1).door d).state))
      (deriveDoor s ((s.door d).timeFaults s.tb.uptime)).2
      ((s.modDoor d (·.timeFaults s.tb.uptime)).setDoor d (deriveDoor s ((s.door d).timeFaults s.tb.uptime)).1))
    exact ⟨hbreach, hopen⟩
  · exact modDoor_openingsHeld h rfl

theorem regimeDoor_openingsHeld {s : State} (d : DoorNo) (h : s.openingsHeld) : (regimeDoor d s).openingsHeld :=
  followUp_openingsHeld d (modDoor_openingsHeld h (carryDrive_state _ _).1)

/-- At an entry into or out of INCIDENT the doors' outputs are given anew (R187). -/
theorem regimeDoors_doorsOk {s : State} (hstate : ∀ d, (s.door d).state.isSome = (s.door d).cfg.present)
    (h : s.openingsHeld) : (regimeDoors s).doorsOk := by
  have hfirst : ((regimeDoor 1 (regimeDoor 0 s)).door 0).ok s.rau.regime := by
    rw [door_regimeDoor, if_neg (by decide)]
    exact regimeDoor_ok (hstate 0)
  have hsecond : ((regimeDoor 1 (regimeDoor 0 s)).door 1).ok s.rau.regime := by
    rw [← regimeDoor_regime 0 s]
    refine regimeDoor_ok ?_
    rw [door_regimeDoor, if_neg (by decide)]
    exact hstate 1
  refine ⟨fun d => ?_, updateBuzzer_vestibuleOk (regimeDoor_openingsHeld 1 (regimeDoor_openingsHeld 0 h))⟩
  rw [regimeDoors, door_updateBuzzer, updateBuzzer_regime, regimeDoor_regime, regimeDoor_regime]
  fin_cases d
  · exact hfirst
  · exact hsecond

/-- The state after the fall-waiting mark is cleared and the regime handed to the CAL (R146). -/
def handedToCal (s : State) : State :=
  if s.rau.regime = .incident then clearWork { s with rau := { s.rau with fallWaiting := false } }
  else { s with rau := { s.rau with fallWaiting := false } }

theorem handedToCal_sameDoors (s : State) : SameDoors s (handedToCal s) := by
  have hmark : SameDoors s { s with rau := { s.rau with fallWaiting := false } } := ⟨rfl, rfl, .rfl, rfl⟩
  unfold handedToCal
  split
  · exact hmark.trans (clearWork_sameDoors _)
  · exact hmark

theorem handRegime_eq (before : Regime) (s : State) : handRegime before s =
    if (before = .incident) ↔ ((handedToCal s).rau.regime = .incident) then handedToCal s else regimeDoors (handedToCal s) := rfl

theorem enterRegime_doorsOk {s : State} (r : Regime) {params : Rau → Rau} (hparams : ∀ k, (params k).doorOpen = k.doorOpen)
    (h : s.doorsOk) : (enterRegime r params s).doorsOk := by
  refine (setFans_sameDoors _).doorsOk ?_
  have hcal := handedToCal_sameDoors (storeRegime r params s)
  rw [handRegime_eq]
  split_ifs with hcross
  · have hsame : SameDoors s (handedToCal (storeRegime r params s)) :=
      ⟨hcal.doors, hcal.vestibule, hcross.symm, hcal.doorOpen.trans (hparams _)⟩
    exact hsame.doorsOk h
  · have hdoor : ∀ d, (handedToCal (storeRegime r params s)).door d = s.door d := hcal.door
    refine regimeDoors_doorsOk (fun d => by rw [hdoor]; exact (h.1 d).1) ⟨?_, ?_⟩
    · rw [hcal.vestibule, State.bothOpen, hdoor, hdoor]
      exact h.2.1
    · rw [hcal.doorOpen, hdoor, hdoor]
      exact (hparams _).trans h.2.2.2.2

theorem serveRegime_doorsOk {s : State} (fields : List Byte) (h : s.doorsOk) : (serveRegime fields s).state.doorsOk := by
  refine enterRegime_doorsOk _ (fun k => ?_) h
  unfold regimeParams
  split <;> rfl

theorem silenceExpiry_doorsOk {s : State} (h : s.doorsOk) : (silenceExpiry s).doorsOk := by
  have hlost : (loseLine s).doorsOk := SameDoors.doorsOk ⟨rfl, rfl, .rfl, rfl⟩ h
  unfold silenceExpiry fallBack
  split_ifs
  · exact enterRegime_doorsOk .auto (params := fun k => { k with floor := 0 }) (fun _ => rfl) hlost
  · exact hlost
  · exact h

/-! ### SET DOOR and DOOR COMMAND -/

theorem runEffect_doorsOk {e : Effect} (h : e.1.doorsOk) : (runEffect e).doorsOk := (run_sameDoors e.2 e.1).doorsOk h

theorem run_doorsOk {s : State} (ws : List Work) (h : s.doorsOk) : (run ws s).doorsOk := (run_sameDoors ws s).doorsOk h

theorem settleDoor_doorsOk {s : State} {d : DoorNo} (h : ∀ k, k ≠ d → (s.door k).ok s.rau.regime) (hvestibule : s.vestibuleOk)
    (hstate : (s.door d).state.isSome = (s.door d).cfg.present) : (settleDoor d s).doorsOk :=
  followUp_doorsOk d ⟨modDoor_recordsOk h (carrySign_ok hstate), modDoor_vestibuleOk hvestibule (carryDrive_state _ _).1⟩

/-- A door that is not present has no output. -/
theorem Door.absent_of_ok {r : Regime} {x : Door} (h : x.ok r) (hstate : x.state = none) :
    x.cfg.present = false ∧ x.lock = false ∧ x.engageWaiting = false ∧ x.sign = .off := by
  obtain ⟨hpresent, hlock, hengage, hsign⟩ := h
  have habsent : x.cfg.present = false := by rw [← hpresent, hstate]; rfl
  refine ⟨habsent, ?_, ?_, by rw [hsign, habsent]; rfl⟩
  · refine Bool.eq_false_iff.mpr fun hl => ?_
    rw [habsent] at hlock
    exact Bool.false_ne_true (hlock hl).1
  · refine Bool.eq_false_iff.mpr fun he => ?_
    rw [habsent] at hengage
    exact Bool.false_ne_true (hengage he).1

theorem placeDoor_doorsOk {s : State} (d : DoorNo) (cfg : DoorConfig) (h : s.doorsOk) : (placeDoor d cfg s).doorsOk := by
  obtain ⟨hpresent, hlock, hengage, hsign⟩ := h.1 d
  have hothers : ∀ k, k ≠ d → ((s.modDoor d (·.withCfg cfg)).door k).ok s.rau.regime := fun k hk => by
    rw [State.door_modDoor, if_neg hk]
    exact h.1 k
  simp only [placeDoor]
  split
  · next hnone hleft =>
    obtain ⟨-, hlock, hengage, hsign⟩ := Door.absent_of_ok (h.1 d) hnone
    refine modDoor_doorsOk h rfl ⟨?_, ?_, ?_, ?_⟩ <;> simp [Door.withCfg, hnone, hleft, hlock, hengage, hsign]
  · next hnone hleft =>
    refine run_doorsOk _ (settleDoor_doorsOk (fun k hk => ?_) (handDoor_vestibuleOk _) ?_)
    · rw [door_moveDoor, if_neg hk, moveDoor_regime]
      exact hothers k hk
    · rw [door_moveDoor, if_pos rfl, deriveDoor_state, (deriveDoor_outputs _ _).1, State.door_modDoor_same]
      exact hleft.symm
  · next hsome hleft =>
    have hcfg : (s.modDoor d (·.withCfg cfg)).doorsOk := by
      rw [hsome] at hpresent
      refine modDoor_doorsOk h rfl ⟨?_, ?_, ?_, ?_⟩ <;> simp_all [Door.withCfg]
    exact runEffect_doorsOk (waitExpiry_doorsOk d (runEffect_doorsOk (holdExpiry_doorsOk d hcfg)))
  · next hsome hleft =>
    refine run_doorsOk _ ⟨fun k => ?_, handDoor_vestibuleOk _⟩
    rw [door_handDoor, handDoor_regime, State.door_modDoor]
    split_ifs with hk
    · rw [State.door_modDoor_same]
      simp [Door.leave, Door.withCfg, Door.endEpisode, Door.ok, hleft]
    · exact hothers k hk

theorem serveSetDoor_doorsOk {s : State} (fields : List Byte) (h : s.doorsOk) : (serveSetDoor fields s).state.doorsOk := by
  unfold serveSetDoor setDoorConfig
  split
  · split_ifs
    · exact h
    · exact placeDoor_doorsOk _ _ h
    · exact h
  · exact h

theorem doorAction_doorsOk {s : State} (d : DoorNo) (action : Nat) (h : s.doorsOk) : (doorAction d action s).doorsOk := by
  simp only [doorAction]
  split_ifs
  · exact h
  · exact run_doorsOk _ (followUp_doorsOk d
      (modDoor_doorsOk h (carryDrive_state _ _).1 (carryDrive_ok (h.1 d).1 (h.1 d).2.2.2)))

theorem silence_doorsOk {s : State} (asked : Bool) (h : s.doorsOk) : (silence asked s).doorsOk := by
  unfold silence
  split_ifs
  · exact ⟨h.1, updateBuzzer_vestibuleOk ⟨h.2.1, h.2.2.2.2⟩⟩
  · exact h

theorem commandDoors_doorsOk {s : State} (fields : List Byte) (h : s.doorsOk) : (commandDoors fields s).doorsOk :=
  silence_doorsOk _ (doorAction_doorsOk 1 _ (doorAction_doorsOk 0 _ h))

/-! ### The resets -/

theorem fullReset_doorsOk (straps : Straps) (s : State) : (fullReset straps s).doorsOk := by
  have hdoor : ∀ d, (fullReset straps s).door d = (s.door d).fullReset := fun d => each_door _ s d
  refine ⟨fun d => ?_, ?_⟩
  · rw [hdoor]
    exact ⟨rfl, fun h => absurd h Bool.false_ne_true, fun _ => ⟨rfl, rfl, Regime.noConfusion, rfl⟩, rfl⟩
  · simp only [State.vestibuleOk, State.bothOpen, State.buzzerCondition, hdoor]
    exact ⟨rfl, fun h => absurd h Bool.false_ne_true, rfl, rfl⟩

theorem door_abortSession (s : State) (d : DoorNo) : (abortSession s).door d = s.door d := by
  unfold abortSession
  split <;> rfl

theorem nodeReset_doorsOk {s : State} (h : s.doorsOk) : (nodeReset s).doorsOk := by
  have hdoor : ∀ d, ∃ now, (nodeReset s).door d = (s.door d).nodeReset now := fun d =>
    ⟨_, by rw [nodeReset, door_reset, door_abortSession]; rfl⟩
  have hstate : ∀ d, openDoor ((nodeReset s).door d).state = false ∧ buzzingDoor ((nodeReset s).door d).state = false := fun d => by
    obtain ⟨now, hd⟩ := hdoor d
    rw [hd, Door.nodeReset]
    cases (s.door d).cfg.present <;> exact ⟨rfl, rfl⟩
  refine ⟨fun d => ?_, ?_⟩
  · obtain ⟨now, hd⟩ := hdoor d
    obtain ⟨-, hlock, -, -⟩ := h.1 d
    have hregime : (nodeReset s).rau.regime = .manual := rfl
    rw [hd, hregime]
    simp only [Door.nodeReset, Door.endEpisode, Door.ok]
    split_ifs <;> simp_all
  · have hopen : (nodeReset s).rau.doorOpen = false := rfl
    have hvestibule : (nodeReset s).vestibule = .initial := rfl
    simp only [State.vestibuleOk, State.bothOpen, State.buzzerCondition, hstate, hopen, hvestibule]
    exact ⟨rfl, by decide, rfl, rfl⟩

theorem expireStamps_doorsOk {s : State} (h : s.doorsOk) : (expireStamps s).doorsOk := by
  have hdoor : ∀ d, ∃ armed, (expireStamps s).door d = { s.door d with armed := armed } := fun d =>
    ⟨(s.door d).armed.map s.expire, each_door _ s d⟩
  have hstate : ∀ d, ((expireStamps s).door d).state = (s.door d).state := fun d => by
    obtain ⟨armed, hd⟩ := hdoor d
    rw [hd]
  refine ⟨fun d => ?_, ?_⟩
  · obtain ⟨armed, hd⟩ := hdoor d
    rw [hd]
    exact h.1 d
  · simp only [State.vestibuleOk, State.bothOpen, State.buzzerCondition, hstate]
    exact h.2

theorem doorsOk_invariant : PlantInvariant State.doorsOk := by
  refine plantInvariant_of_acts [.doors, .vestibule, .rau] (fun s lif tb evq choices pending hs => hs) (fun s v ws hv hs => ?_)
    (fun i r s0 s fields hi hmeets hs => ?_) (fun i s t hi htb hmeets hs hexec => ?_) (fun s hs => ?_)
    (fun straps s _ => fullReset_doorsOk straps s) (fun s hs => nodeReset_doorsOk hs)
  · have hrau : v.rau = s.rau := hv .rau (by decide)
    exact SameDoors.doorsOk (SameDoors.trans ⟨hv .doors (by decide), hv .vestibule (by decide), by rw [hrau], by rw [hrau]⟩
      (run_sameDoors ws v)) hs
  · cases i
    case setNode => exact (setNode_sameDoors _ s).doorsOk hs
    case setDemand => exact (serveSetDemand_sameDoors fields s).doorsOk hs
    case fanCommand => exact (serveFanCommand_sameDoors fields s).doorsOk hs
    case setDoor => exact serveSetDoor_doorsOk fields hs
    case doorCommand => exact commandDoors_doorsOk fields hs
    case regime => exact serveRegime_doorsOk fields hs
    case zero form _ => exact (serveZero_sameDoors form fields s).doorsOk hs
    all_goals simp [Instr.request, actParts] at hi hmeets
  · cases i
    all_goals simp only [Instr.request, reduceCtorEq] at hi
    all_goals obtain rfl := Host.Outcome.next.inj hexec
    case conversionComplete code => exact (converted_sameDoors code s).doorsOk hs
    case inhibitOn => exact (inhibitActive_sameDoors s).doorsOk hs
    case inhibitOff => exact (inhibitInactive_sameDoors s).doorsOk hs
    case silenceTimeout => exact silenceExpiry_doorsOk hs
    case stampExpiry => exact expireStamps_doorsOk hs
    case doorContactInputChange d c level => exact modDoor_doorsOk hs rfl (hs.1 d)
    case doorContactDebounced d c =>
      unfold contactExpiry
      split
      · exact runEffect_doorsOk (contactDebounced_doorsOk d c hs)
      · exact hs
    case holdLimitExpiry d => exact runEffect_doorsOk (holdExpiry_doorsOk d hs)
    case openWaitExpiry d => exact runEffect_doorsOk (waitExpiry_doorsOk d hs)
    case doorFaultTimeout d => exact runEffect_doorsOk (faultExpiry_doorsOk d hs)
    all_goals simp [actParts, eventParts] at hmeets htb
  · exact (sameDoors_of_parts (advance_sameBut s)).doorsOk hs

/-- Settles O57: every act on a door carries its outputs along, and every other command leaves the doors and the regime. -/
theorem doorOutputsKept : Obligations.DoorOutputsKept := fun _ _ hs hstep => doorsOk_invariant.step hs hstep

end Sys2Proof.Machine

end

/-! PROOFS. The statements about the doors' timers, contacts and requests (chapter 10). -/

section

namespace Sys2Proof.Machine

/-! ### A door's act and its hand-overs -/

/-- What the hand-overs after a door's act leave of its records. -/
theorem door_run (ws : List Work) (s : State) (d : DoorNo) : (run ws s).door d = s.door d := (run_sameDoors ws s).door d

/-- A door's move with its hand-overs: the doors, the other components, and the first entry. -/
theorem moveDoor_runs (d : DoorNo) (m : Door × Option Int) (ws : List Work) (s : State) :
    (run ws (moveDoor d m s)).door d = m.1 ∧ (∀ k : DoorNo, k ≠ d → (run ws (moveDoor d m s)).door k = s.door k) ∧
      sameBut (.doors :: .vestibule :: Part.reached) s (run ws (moveDoor d m s)) ∧
      Appended (s.evq.push ⟨s.tb.clock, .door d, .doorState, some (doorStateCode m.1.state), m.2, false⟩)
        (run ws (moveDoor d m s)).evq := by
  refine ⟨by rw [door_run, door_moveDoor, if_pos rfl], fun k hk => by rw [door_run, door_moveDoor, if_neg hk], ?_, ?_⟩
  · exact ((moveDoor_alters d m s).mono (qs := doorReached) (by decide)).trans ((run_alters ws _).mono (by decide)) |>.1
  · exact (moveDoor_grown d m s).appended.trans (run_handedOn ws _).2

/-- Settles O49: each timer is its door's move, or nothing. -/
theorem doorTimersMoveDoor : Obligations.DoorTimersMoveDoor := by
  intro d s
  refine ⟨fun w hstate hsince hpassed => ?_, fun w hstate hsince hpassed => ?_, fun w hn hi hf hsince hpassed => ?_,
    fun h => ?_, fun h => ?_, fun h => ?_⟩
  · have hover : s.holdOver (s.door d) = true := by simp [State.holdOver, State.passedOpt, hstate, hsince, hpassed]
    refine ⟨_, rfl, ?_⟩
    unfold holdExpiry
    rw [if_pos hover]
    exact moveDoor_runs d ((s.door d).toHeldOpen, none) [.reform] s
  · have hover : s.waitOver (s.door d) = true := by simp [State.waitOver, State.passedOpt, hstate, hsince, hpassed]
    refine ⟨_, rfl, ?_⟩
    unfold waitExpiry
    rw [if_pos hover]
    exact moveDoor_runs d ((s.door d).toObstructed (obstructionCause s (s.door d)),
      some (obstructionCause s (s.door d)).code) [.reform] s
  · have hover : s.faultOver (s.door d) = true := by
      have hdue : s.passedOpt (s.door d).disagreeSince Config.doorFaultMs = true ∨
          s.passedOpt (s.door d).latchOpenSince Config.doorFaultMs = true := by
        rcases hsince with h | h
        · exact .inl (by rw [h]; exact hpassed)
        · exact .inr (by rw [h]; exact hpassed)
      simp only [State.faultOver, Door.judged, Bool.and_eq_true, bne_iff_ne, Bool.or_eq_true, Option.isSome_iff_ne_none]
      exact ⟨⟨⟨hn, hi⟩, hf⟩, hdue⟩
    refine ⟨_, rfl, ?_⟩
    unfold faultExpiry
    rw [if_pos hover]
    exact moveDoor_runs d ((s.door d).toFault, none) [.reform] s
  · change Host.Outcome.next (runEffect (holdExpiry d s)) = _
    rw [holdExpiry, h]
    exact congrArg _ (run_nil s)
  · change Host.Outcome.next (runEffect (waitExpiry d s)) = _
    rw [waitExpiry, h]
    exact congrArg _ (run_nil s)
  · change Host.Outcome.next (runEffect (faultExpiry d s)) = _
    rw [faultExpiry, h]
    exact congrArg _ (run_nil s)

/-! ### A sequence of acts on one door -/

/-- From s to t acts on the door d alone have been carried out; the first entry, where there is one, is this DOOR STATE. -/
structure DoorActed (d : DoorNo) (first : Option (Option DoorState × Option Int)) (s t : State) : Prop where
  others : ∀ k : DoorNo, k ≠ d → t.door k = s.door k
  tb : t.tb = s.tb
  regime : t.rau.regime = s.rau.regime
  evq_kept : first = none → t.evq = s.evq
  evq_grown : ∀ st value, first = some (st, value) →
    Grown (s.evq.push ⟨s.tb.clock, .door d, .doorState, some (doorStateCode st), value, false⟩) t.evq

theorem modDoor_acted (d : DoorNo) (g : Door → Door) (s : State) : DoorActed d none s (s.modDoor d g) where
  others k hk := by rw [State.door_modDoor, if_neg hk]
  tb := rfl
  regime := rfl
  evq_kept _ := rfl
  evq_grown _ _ h := nomatch h

theorem moveDoor_acted (d : DoorNo) (m : Door × Option Int) (s : State) :
    DoorActed d (some (m.1.state, m.2)) s (moveDoor d m s) where
  others k hk := by rw [door_moveDoor, if_neg hk]
  tb := moveDoor_tb d m s
  regime := moveDoor_regime d m s
  evq_kept h := nomatch h
  evq_grown st value h := by
    obtain ⟨rfl, rfl⟩ := Prod.mk.inj (Option.some.inj h)
    exact moveDoor_grown d m s

theorem DoorActed.grown {d : DoorNo} {first : Option (Option DoorState × Option Int)} {s t : State}
    (h : DoorActed d first s t) : Grown s.evq t.evq := by
  cases first with
  | none => rw [h.evq_kept rfl]; exact .refl _
  | some m => exact (Grown.push _ rfl).trans (h.evq_grown m.1 m.2 rfl)

/-- Acts that append nothing, and then others. -/
theorem DoorActed.after {d : DoorNo} {first : Option (Option DoorState × Option Int)} {s t u : State}
    (h : DoorActed d none s t) (k : DoorActed d first t u) : DoorActed d first s u where
  others j hj := (k.others j hj).trans (h.others j hj)
  tb := k.tb.trans h.tb
  regime := k.regime.trans h.regime
  evq_kept hf := (k.evq_kept hf).trans (h.evq_kept rfl)
  evq_grown st value hf := by
    have hgrown := k.evq_grown st value hf
    rwa [h.evq_kept rfl, h.tb] at hgrown

/-- A move, and then other acts. -/
theorem DoorActed.before {d : DoorNo} {m : Option DoorState × Option Int} {second : Option (Option DoorState × Option Int)}
    {s t u : State} (h : DoorActed d (some m) s t) (k : DoorActed d second t u) : DoorActed d (some m) s u where
  others j hj := (k.others j hj).trans (h.others j hj)
  tb := k.tb.trans h.tb
  regime := k.regime.trans h.regime
  evq_kept hf := nomatch hf
  evq_grown st value hf := (h.evq_grown st value hf).trans k.grown

/-- The entry of a FAULT that ends. -/
def endedFault (s : State) (x : Door) : Option (Option DoorState × Option Int) :=
  if x.faultEnds then some ((deriveDoor s x).1.state, (deriveDoor s x).2) else none

theorem followUp_acted (d : DoorNo) (s : State) : DoorActed d (endedFault s (s.door d)) s (followUp d s) := by
  rw [followUp_eq]
  unfold endedFault
  split_ifs
  · have hmove := (modDoor_acted d (·.timeFaults s.tb.uptime) s).after
      (moveDoor_acted d (deriveDoor s ((s.door d).timeFaults s.tb.uptime)) (s.modDoor d (·.timeFaults s.tb.uptime)))
    have hderived : ((s.door d).timeFaults s.tb.uptime).derived = (s.door d).derived := rfl
    simpa only [deriveDoor_state, deriveDoor_value, hderived] using hmove
  · exact modDoor_acted d _ s

/-- A record without the drive and the fault timers: what a move between the states sets, and what contacts and requests set. -/
def Door.moved (x : Door) : Door :=
  { x with lock := false, engageWaiting := false, disagreeSince := none, latchOpenSince := none }

theorem followedDoor_moved {x : Door} (s : State) (h : x.state ≠ some .fault) : (followedDoor s x).moved = x.moved := by
  rw [followedDoor, if_neg fun hends => h hends.1]
  rfl

theorem carryDrive_moved (x : Door) (r : Regime) : (x.carryDrive r).moved = x.moved := by
  unfold Door.carryDrive
  split_ifs <;> rfl

theorem moved_state {x y : Door} (h : x.moved = y.moved) : x.state = y.state := (congrArg Door.state h :)

/-- The drive's part leaves a door that is not in FAULT where it is, and appends nothing. -/
theorem contactDrive_acted {d : DoorNo} (c : Contact) {s : State} (h : (s.door d).state ≠ some .fault) :
    DoorActed d none s (contactDrive d c s) ∧ ((contactDrive d c s).door d).moved = (s.door d).moved := by
  unfold contactDrive
  split_ifs
  · have hstate : ((s.modDoor d (·.carryDrive s.rau.regime)).door d).state ≠ some .fault := by
      rwa [State.door_modDoor_same, (carryDrive_state _ _).1]
    have hfollow := followUp_acted d (s.modDoor d (·.carryDrive s.rau.regime))
    rw [endedFault, if_neg fun hends => hstate hends.1] at hfollow
    refine ⟨(modDoor_acted d _ s).after hfollow, ?_⟩
    rw [door_followUp, if_pos rfl, followedDoor_moved _ hstate, State.door_modDoor_same, carryDrive_moved]
  · exact ⟨⟨fun _ _ => rfl, rfl, rfl, fun _ => rfl, fun _ _ h => nomatch h⟩, rfl⟩

/-- A door's record after the acts of its contact: y, or the record of a move. -/
abbrev movedTo (y : Door) (m : DoorMove) : Door :=
  match m with
  | none => y
  | some m => m.1

theorem takeMove_acted (d : DoorNo) (m : DoorMove) (s : State) :
    DoorActed d (m.map fun m => (m.1.state, m.2)) s (takeMove d m s) ∧ (takeMove d m s).door d = movedTo (s.door d) m := by
  cases m with
  | none => exact ⟨⟨fun _ _ => rfl, rfl, rfl, fun _ => rfl, fun _ _ h => nomatch h⟩, rfl⟩
  | some m => exact ⟨moveDoor_acted d m s, by rw [takeMove, door_moveDoor, if_pos rfl]⟩

theorem sameOutputs_trans {x y z : Door} (h : x.sameOutputs y) (k : y.sameOutputs z) : x.sameOutputs z := by
  obtain ⟨hcfg, hcontacts, hmode, hsign, hlock, hengage⟩ := h
  obtain ⟨kcfg, kcontacts, kmode, ksign, klock, kengage⟩ := k
  exact ⟨kcfg.trans hcfg, kcontacts.trans hcontacts, kmode.trans hmode, ksign.trans hsign, klock.trans hlock,
    kengage.trans hengage⟩

theorem contactActs_outputs (d : DoorNo) (c : Contact) (level : Bool) (s : State) :
    (s.door d).sameOutputs ((contactActs d c level s).door d) ∧ (contactActs d c level s).rau.regime = s.rau.regime ∧
      ∀ k : DoorNo, k ≠ d → (contactActs d c level s).door k = s.door k := by
  have hrefl : (s.door d).sameOutputs (s.door d) := ⟨rfl, rfl, rfl, rfl, rfl, rfl⟩
  cases hst : (s.door d).state with
  | none =>
    rw [contactActs_absent hst]
    exact ⟨hrefl, rfl, fun _ _ => rfl⟩
  | some st =>
    by_cases hinitial : st = .initial
    · rw [contactActs_initial (hinitial ▸ hst)]
      split_ifs
      · refine ⟨?_, moveDoor_regime _ _ _, fun k hk => by rw [door_moveDoor, if_neg hk]⟩
        rw [door_moveDoor, if_pos rfl]
        exact deriveDoor_outputs s _
      · exact ⟨hrefl, rfl, fun _ _ => rfl⟩
    · rw [contactActs_judged hst hinitial]
      have hmarks := contactMarks_outputs (s.door d) c level s.tb.uptime
      cases hm : contactMove s ((s.door d).contactMarks c level s.tb.uptime) c level with
      | none =>
        refine ⟨?_, rfl, fun k hk => by rw [takeMove, State.door_modDoor, if_neg hk]⟩
        rw [takeMove, State.door_modDoor_same]
        exact hmarks
      | some m =>
        refine ⟨?_, moveDoor_regime _ _ _, fun k hk => by
          rw [takeMove, door_moveDoor, if_neg hk, State.door_modDoor, if_neg hk]⟩
        rw [takeMove, door_moveDoor, if_pos rfl]
        exact sameOutputs_trans hmarks (contactMove_outputs hm).1

theorem door_contactDrive (d : DoorNo) (s : State) : (contactDrive d .closed s).door d =
    followedDoor (s.modDoor d (·.carryDrive s.rau.regime)) ((s.door d).carryDrive s.rau.regime) := by
  rw [contactDrive, if_pos rfl, door_followUp, if_pos rfl, State.door_modDoor_same]

/-- Where the drive stands after it has been carried toward what is due (R186). -/
theorem carryDrive_drive (x : Door) (r : Regime) {due : Bool}
    (hdue : due = (x.cfg.present && r != .incident && x.lockMode == .locked)) :
    (x.carryDrive r).lock = (due && (x.lock || x.shows .closed)) ∧
      (x.carryDrive r).engageWaiting = (due && !x.lock && !x.shows .closed) := by
  have hmode : (x.lockMode == .locked) = !(x.lockMode == .released) := by cases x.lockMode <;> rfl
  subst hdue
  unfold Door.carryDrive Door.releaseDue
  split_ifs with hpresent hrelease hlock hclosed
  · simp [hpresent]
  · rcases (Bool.or_eq_true _ _).mp hrelease with h | h <;> simp_all
  · simp_all
  · simp_all
  · simp_all

section

variable {d : DoorNo} {c : Contact} {s : State} {x y : Door} {up : Bool} (hx : x = s.door d)
  (hdue : s.contactDue x c = true) (hup : up = (x.contacts.get c).input)
  (hy : y = { x with contacts := x.contacts.set c ⟨up, some up, none⟩ })

/-- The state in which the contact has taken its level. -/
def settledContact (d : DoorNo) (c : Contact) (s : State) : State :=
  s.modDoor d fun x => { x with contacts := x.contacts.set c ((x.contacts.get c).settle) }

include hx hup hy in
theorem door_settledContact : (settledContact d c s).door d = y := by
  subst hy hup hx
  rw [settledContact, State.door_modDoor_same]
  rfl

theorem settledContact_acted (d : DoorNo) (c : Contact) (s : State) : DoorActed d none s (settledContact d c s) :=
  modDoor_acted d _ s

/-- The state after the acts of a debounced contact, before the hand-overs. -/
def contactState (d : DoorNo) (c : Contact) (up : Bool) (s : State) : State :=
  contactDrive d c (followUp d (contactActs d c up (settledContact d c s)))

include hx hdue hup in
theorem contactExpiry_due : contactExpiry d c s =
    run (doorWork x.state ((contactState d c up s).door d).state) (contactState d c up s) := by
  subst hup hx
  rw [contactExpiry, if_pos hdue]
  rfl

include hx hdue hup in
/-- A door that its contact leaves in no FAULT stands where the contact's move has put it (R174, R185). -/
theorem contactExpiry_moved {m : DoorMove} {u : State}
    (hacts : contactActs d c up (settledContact d c s) = takeMove d m u) (hu : DoorActed d none s u)
    (hfault : (movedTo (u.door d) m).state ≠ some .fault) (hstill : m = none → (u.door d).state = x.state) :
    ((contactExpiry d c s).door d).moved = (movedTo (u.door d) m).moved ∧ (m = none → (contactExpiry d c s).evq = s.evq) ∧
      ∀ st z value, m = some (z, value) → z.state = some st → DoorEntered d st value s (contactExpiry d c s) := by
  obtain ⟨hacted, hdoor⟩ := takeMove_acted d m u
  have hstate : ((takeMove d m u).door d).state ≠ some .fault := by rwa [hdoor]
  have hfollow := followUp_acted d (takeMove d m u)
  rw [endedFault, if_neg fun hends => hstate hends.1] at hfollow
  have hfollowed : ((followUp d (takeMove d m u)).door d).moved = (movedTo (u.door d) m).moved := by
    rw [door_followUp, if_pos rfl, followedDoor_moved _ hstate, hdoor]
  obtain ⟨hdrive, hdriven⟩ := contactDrive_acted (d := d) c (s := followUp d (takeMove d m u))
    (by rwa [moved_state hfollowed])
  have hend : contactState d c up s = contactDrive d c (followUp d (takeMove d m u)) := by rw [contactState, hacts]
  have hmoved : ((contactState d c up s).door d).moved = (movedTo (u.door d) m).moved := by
    rw [hend, hdriven, hfollowed]
  have hrun := contactExpiry_due hx hdue hup
  refine ⟨by rw [hrun, door_run, hmoved], fun hm => ?_, fun st z value hm hz => ⟨?_, ?_⟩⟩
  · subst hm
    have hkept : ((contactState d c up s).door d).state = x.state := (moved_state hmoved).trans (hstill rfl)
    rw [hrun, hkept, doorWork, if_pos rfl, run_nil, hend]
    exact ((hu.after hacted).after (hfollow.after hdrive)).evq_kept rfl
  · subst hm
    rw [hrun, door_run, moved_state hmoved, hz]
  · subst hm
    have hgrown := (hu.after (hacted.before (hfollow.after hdrive))).evq_grown z.state value rfl
    rw [hz, ← hend] at hgrown
    rw [hrun]
    exact hgrown.appended.trans (run_handedOn _ _).2

include hx hdue hup hy in
/-- What every debounced contact keeps of its door, and what it does to the drive (R186). -/
theorem contactExpiry_outputs :
    (c ≠ .closed → y.sameOutputs ((contactExpiry d c s).door d)) ∧
      (c = .closed → ∃ z : Door, y.sameOutputs z ∧ (z.carryDrive s.rau.regime).sameOutputs ((contactExpiry d c s).door d)) := by
  obtain ⟨hacts, hregime, -⟩ := contactActs_outputs d c up (settledContact d c s)
  rw [door_settledContact hx hup hy] at hacts
  have hfollowed : y.sameOutputs ((followUp d (contactActs d c up (settledContact d c s))).door d) := by
    rw [door_followUp, if_pos rfl]
    exact sameOutputs_trans hacts (followedDoor_outputs _ _)
  rw [contactExpiry_due hx hdue hup, door_run, contactState]
  refine ⟨fun hc => by rwa [contactDrive, if_neg hc], fun hc => ⟨_, hfollowed, ?_⟩⟩
  rw [hc, door_contactDrive, followUp_regime, ← hc, hregime]
  exact followedDoor_outputs _ _

include hx hup hy in
/-- The acts of a contact of a door that is judged. -/
theorem contactActs_settled {st : DoorState} (hst : x.state = some st) (hinitial : st ≠ .initial) :
    contactActs d c up (settledContact d c s) = takeMove d (contactMove s (y.contactMarks c up s.tb.uptime) c up)
      ((settledContact d c s).modDoor d (·.contactMarks c up s.tb.uptime)) := by
  have hdoor := door_settledContact hx hup hy
  have hstate : ((settledContact d c s).door d).state = some st := by rw [hdoor, hy]; exact hst
  have hacts := contactActs_judged hstate hinitial c up
  rw [hdoor, contactMove_congr (show (settledContact d c s).tb = s.tb from rfl)] at hacts
  exact hacts

include hx hdue hup hy in
/-- A debounced contact of a door that is judged, where the door is in no FAULT after its move. -/
theorem contactExpiry_judged {st : DoorState} {m : DoorMove} (hst : x.state = some st) (hinitial : st ≠ .initial)
    (hm : contactMove s (y.contactMarks c up s.tb.uptime) c up = m)
    (hfault : (movedTo (y.contactMarks c up s.tb.uptime) m).state ≠ some .fault) :
    ((contactExpiry d c s).door d).moved = (movedTo (y.contactMarks c up s.tb.uptime) m).moved ∧
      (m = none → (contactExpiry d c s).evq = s.evq) ∧
      ∀ st z value, m = some (z, value) → z.state = some st → DoorEntered d st value s (contactExpiry d c s) := by
  have hmarked : ((settledContact d c s).modDoor d (·.contactMarks c up s.tb.uptime)).door d =
      y.contactMarks c up s.tb.uptime := by
    rw [State.door_modDoor_same, door_settledContact hx hup hy]
  have hacts := contactActs_settled hx hup hy hst hinitial
  rw [hm] at hacts
  have hu := (settledContact_acted d c s).after
    (modDoor_acted d (·.contactMarks c up s.tb.uptime) (settledContact d c s))
  have h := contactExpiry_moved hx hdue hup hacts hu (by rwa [hmarked])
    (fun _ => by rw [hmarked, contactMarks_state, hy])
  rwa [hmarked] at h

include hx hdue hup in
/-- A debounced contact of a door that is absent, or stays INITIAL. -/
theorem contactExpiry_still (hacts : contactActs d c up (settledContact d c s) = settledContact d c s)
    (hfault : x.state ≠ some .fault) :
    ((contactExpiry d c s).door d).state = x.state ∧ (contactExpiry d c s).evq = s.evq := by
  have hstate : ((settledContact d c s).door d).state = x.state := by
    rw [settledContact, State.door_modDoor_same, hx]
  have hu := settledContact_acted d c s
  obtain ⟨hmoved, hevq, -⟩ := contactExpiry_moved (m := none) (u := settledContact d c s) hx hdue hup hacts hu (by rwa [movedTo, hstate]) (fun _ => hstate)
  exact ⟨(moved_state hmoved).trans hstate, hevq rfl⟩

/-- The door has entered the state that its contacts give: an OPEN one with nothing captured and its hold timer started. -/
abbrev DerivedEntered (d : DoorNo) (y : Door) (s t : State) : Prop :=
  DoorEntered d y.derived (if y.derived = .opened then some 0 else none) s t ∧
    (y.derived = .opened → (t.door d).lastTime = 0 ∧ (t.door d).lastWay = .none ∧ (t.door d).openSince = some s.tb.uptime)

theorem deriveDoor_opened {s : State} {z : Door} (h : z.derived = .opened) :
    (deriveDoor s z).1 = z.toOpened 0 .none s.tb.uptime := by
  unfold Door.derived at h
  unfold deriveDoor
  split_ifs at h ⊢ with hclosed
  rfl

/-- A record in the state that the contacts give, whatever its drive and fault timers. -/
theorem moved_opened {s : State} {w z : Door} (h : w.moved = (deriveDoor s z).1.moved) (hz : z.derived = .opened) :
    w.lastTime = 0 ∧ w.lastWay = .none ∧ w.openSince = some s.tb.uptime := by
  rw [deriveDoor_opened hz] at h
  exact ⟨(congrArg Door.lastTime h :), (congrArg Door.lastWay h :), (congrArg Door.openSince h :)⟩

theorem derived_ne_fault (z : Door) : some z.derived ≠ some DoorState.fault := by
  unfold Door.derived
  split_ifs <;> exact fun h => nomatch h

include hx hdue hup hy in
theorem contactExpiry_initial (hst : x.state = some .initial) (hcomplete : y.contacts.complete = true) :
    DerivedEntered d y s (contactExpiry d c s) := by
  have hdoor := door_settledContact hx hup hy
  have hstate : ((settledContact d c s).door d).state = some .initial := by rw [hdoor, hy]; exact hst
  have hacts := contactActs_initial hstate c up
  rw [hdoor, if_pos hcomplete, deriveDoor_congr (show (settledContact d c s).tb = s.tb from rfl)] at hacts
  have hu := settledContact_acted d c s
  obtain ⟨hmoved, -, hentered⟩ := contactExpiry_moved (m := some (deriveDoor s y)) hx hdue hup hacts hu
    (by rw [movedTo, deriveDoor_state]; exact derived_ne_fault y) (fun h => nomatch h)
  refine ⟨?_, moved_opened hmoved⟩
  rw [← deriveDoor_value s]
  exact hentered y.derived (deriveDoor s y).1 _ rfl (deriveDoor_state s y)

include hx hup hy in
/-- The acts of a contact of a door in FAULT: none. -/
theorem contactActs_fault (hst : x.state = some .fault) :
    (contactActs d c up (settledContact d c s)).door d = y ∧
      DoorActed d none s (contactActs d c up (settledContact d c s)) := by
  have hystate : y.state = some .fault := by rw [hy]; exact hst
  have hmarks : y.contactMarks c up s.tb.uptime = y := by
    cases c <;> simp [Door.contactMarks, Door.barChange, Door.handleChange, hystate]
  have hmove : contactMove s y c up = none := by
    cases c <;> cases up <;> simp [contactMove, closedMove, latchMove, feedbackMove, hystate]
  rw [contactActs_settled hx hup hy hst (by decide), hmarks, hmove, takeMove, State.door_modDoor_same,
    door_settledContact hx hup hy]
  exact ⟨hmarks, (settledContact_acted d c s).after (modDoor_acted d _ _)⟩

include hx hdue hup hy in
theorem contactExpiry_faultStands (hst : x.state = some .fault) (hc : c ≠ .closed)
    (hstands : y.disagrees = true ∨ y.latchWhileOpen = true) :
    ((contactExpiry d c s).door d).state = some .fault ∧ (contactExpiry d c s).evq = s.evq := by
  obtain ⟨hdoor, hacted⟩ := contactActs_fault hx hup hy hst
  have hystate : y.state = some .fault := by rw [hy]; exact hst
  have hends : ¬y.faultEnds := by
    rintro ⟨-, hdisagrees, hlatch⟩
    rw [hdisagrees, hlatch] at hstands
    exact hstands.elim Bool.false_ne_true Bool.false_ne_true
  have hfollow := followUp_acted d (contactActs d c up (settledContact d c s))
  rw [hdoor, endedFault, if_neg hends] at hfollow
  have hstate : ((contactState d c up s).door d).state = some .fault := by
    rw [contactState, contactDrive, if_neg hc, door_followUp, if_pos rfl, hdoor, followedDoor, if_neg hends]
    exact hystate
  rw [contactExpiry_due hx hdue hup, hst, hstate, doorWork, if_pos rfl, run_nil]
  refine ⟨hstate, ?_⟩
  rw [contactState, contactDrive, if_neg hc]
  exact (hacted.after hfollow).evq_kept rfl

include hx hdue hup hy in
theorem contactExpiry_faultEnds (hst : x.state = some .fault) (hdisagrees : y.disagrees = false)
    (hlatch : y.latchWhileOpen = false) : DerivedEntered d y s (contactExpiry d c s) := by
  obtain ⟨hdoor, hacted⟩ := contactActs_fault hx hup hy hst
  have hends : y.faultEnds := ⟨by rw [hy]; exact hst, hdisagrees, hlatch⟩
  have hfollow := followUp_acted d (contactActs d c up (settledContact d c s))
  rw [hdoor, endedFault, if_pos hends, deriveDoor_congr hacted.tb] at hfollow
  have hfollowed : (followUp d (contactActs d c up (settledContact d c s))).door d =
      (deriveDoor s (y.timeFaults s.tb.uptime)).1 := by
    rw [door_followUp, if_pos rfl, hdoor, followedDoor, if_pos hends, deriveDoor_congr hacted.tb, hacted.tb]
  obtain ⟨hdrive, hdriven⟩ := contactDrive_acted (d := d) c (s := followUp d (contactActs d c up (settledContact d c s)))
    (by rw [hfollowed, deriveDoor_state]; exact derived_ne_fault _)
  have hmoved : ((contactExpiry d c s).door d).moved = (deriveDoor s (y.timeFaults s.tb.uptime)).1.moved := by
    rw [contactExpiry_due hx hdue hup, door_run, contactState, hdriven, hfollowed]
  have hgrown := (hacted.after (hfollow.before hdrive)).evq_grown _ _ rfl
  rw [deriveDoor_state, deriveDoor_value] at hgrown
  refine ⟨⟨(moved_state hmoved).trans (deriveDoor_state s _), ?_⟩, moved_opened (z := y.timeFaults s.tb.uptime) hmoved⟩
  rw [contactExpiry_due hx hdue hup]
  exact hgrown.appended.trans (run_handedOn _ _).2

end

section

variable {d : DoorNo} {c : Contact} {s : State} {x y : Door} {up : Bool} (hx : x = s.door d)
  (hdue : s.contactDue x c = true) (hup : up = (x.contacts.get c).input)
  (hy : y = { x with contacts := x.contacts.set c ⟨up, some up, none⟩ })

include hx hdue hup hy in
/-- A contact that moves its door, whose marks it leaves. -/
theorem contactExpiry_enters {st st' : DoorState} {z : Door} {value : Option Int} (hst : x.state = some st)
    (hinitial : st ≠ .initial) (hmarks : y.contactMarks c up s.tb.uptime = y) (hm : contactMove s y c up = some (z, value))
    (hz : z.state = some st') (hfault : st' ≠ .fault) :
    DoorEntered d st' value s (contactExpiry d c s) ∧ ((contactExpiry d c s).door d).moved = z.moved := by
  obtain ⟨hmoved, -, hentered⟩ := contactExpiry_judged (m := some (z, value)) hx hdue hup hy hst hinitial
    (by rw [hmarks, hm]) (by rw [movedTo, hz]; exact fun h => hfault (Option.some.inj h))
  exact ⟨hentered st' z value rfl hz, hmoved⟩

include hx hdue hup hy in
/-- A contact that moves no door, and sets its marks. -/
theorem contactExpiry_marks (hst : x.state = some .unlatched)
    (hm : contactMove s (y.contactMarks c up s.tb.uptime) c up = none) :
    ((contactExpiry d c s).door d).moved = (y.contactMarks c up s.tb.uptime).moved ∧ (contactExpiry d c s).evq = s.evq := by
  obtain ⟨hmoved, hevq, -⟩ := contactExpiry_judged (m := none) hx hdue hup hy hst (by decide) hm (by
    rw [movedTo, contactMarks_state, hy]
    exact fun h => absurd (hst.symm.trans h) (by decide))
  exact ⟨hmoved, hevq rfl⟩

end

/-- The record of a door that opens (R178). -/
def openedRecord (y : Door) (forced bar handle : Bool) (time : Nat) (now : Ms) : Door :=
  if forced then y.toForced time (openingWay bar handle) else y.toOpened time (openingWay bar handle) now

theorem closedMove_fromUnlatched {s : State} {y : Door} (hst : y.state = some .unlatched ∨ y.state = some .obstructed) :
    closedMove s y false = some (openedRecord y (decide (y.episode = .secured) && !y.barUsed) y.barUsed y.handleSeen
      (s.openingTime y) s.tb.uptime, some (s.openingTime y : Int)) := by
  have hmove : closedMove s y false = some (openFromUnlatched s y) := by
    rcases hst with h | h <;> simp only [closedMove, h]
  rw [hmove, openFromUnlatched, openedRecord]
  by_cases hforced : y.episode = .secured ∧ y.barUsed = false
  · rw [if_pos hforced, if_pos (by simp [hforced])]
  · rw [if_neg hforced, if_neg (by simpa using hforced)]

theorem closedMove_fromClosed {s : State} {y : Door} (hst : y.state = some .secured ∨ y.state = some .free) :
    closedMove s y false = some (openedRecord y (decide (y.state = some .secured) && !y.shows .escapeBar)
      (y.shows .escapeBar) (y.shows .reverseHandle) 0 s.tb.uptime, some 0) := by
  have hmove : closedMove s y false = some (openFromClosed s y) := by
    rcases hst with h | h <;> simp only [closedMove, h]
  rw [hmove, openFromClosed, openedRecord]
  by_cases hforced : y.state = some .secured ∧ y.shows .escapeBar = false
  · rw [if_pos hforced, if_pos (by simp [hforced])]
  · rw [if_neg hforced, if_neg (by simpa using hforced)]

/-- The opening time of an episode, by its armed measurement (R21, R178). -/
theorem openingTime_eq (s : State) (x : Door) : s.openingTime x = (match x.armed with
    | none => 0
    | some a => if a.expired = true ∨ 2147483648 ≤ s.age a.time then 2147483647
        else if s.age a.time < x.cfg.debounce then 0 else s.age a.time) := by
  unfold State.openingTime
  cases x.armed with
  | none => rfl
  | some a => exact if_congr (by simp [State.stampPassed, State.passed, Config.stampExpiryMs]) rfl rfl

theorem deriveDoor_closed {s : State} {y : Door} (hclosed : y.shows .closed = true) :
    (deriveDoor s y).1 = if y.shows .latch then y.toClosed else y.toUnlatchedUnarmed s.tb.uptime := by
  rw [deriveDoor, if_pos hclosed]
  split_ifs <;> rfl

/-- The record of a door whose leaf is in its frame again (R184). -/
theorem closedMove_closes {s : State} {y : Door} (hopen : openDoor y.state = true) :
    closedMove s y true = some (if y.shows .latch then y.toClosed else y.toUnlatchedUnarmed s.tb.uptime, none) := by
  cases hst : y.state with
  | none => rw [hst] at hopen; exact nomatch hopen
  | some st =>
    rw [hst] at hopen
    cases st <;> simp_all [closedMove, openDoor]

/-- A door's event leaves the other doors, and of the other blocks all that hand-overs leave. -/
theorem contactExpiry_frame (d : DoorNo) (c : Contact) (s : State) :
    (∀ k : DoorNo, k ≠ d → (contactExpiry d c s).door k = s.door k) ∧
      (∀ f : FanNo, ((contactExpiry d c s).fan f).fixed = (s.fan f).fixed) ∧
      (∀ k : ChanNo, ((contactExpiry d c s).ch k).fixed = (s.ch k).fixed) ∧
      sameBut (.doors :: .vestibule :: Part.reached) s (contactExpiry d c s) := by
  have hdebounced := contactDebounced_alters d c s
  have hothers : ∀ k : DoorNo, k ≠ d → (contactDebounced d c s).1.door k = s.door k := fun k hk => by
    obtain ⟨-, -, hacts⟩ := contactActs_outputs d c ((s.door d).contacts.get c).input (settledContact d c s)
    have hfollowed : (followUp d (contactActs d c ((s.door d).contacts.get c).input (settledContact d c s))).door k = s.door k := by
      rw [door_followUp, if_neg hk, hacts k hk, settledContact, State.door_modDoor, if_neg hk]
    change (contactDrive d c (followUp d (contactActs d c ((s.door d).contacts.get c).input (settledContact d c s)))).door k = _
    unfold contactDrive
    split_ifs
    · rw [door_followUp, if_neg hk, State.door_modDoor, if_neg hk, hfollowed]
    · exact hfollowed
  have hrun := runEffect_handedOn (contactDebounced d c s)
  have hfans : (contactDebounced d c s).1.fans = s.fans := hdebounced.1 .fans (by decide)
  have hchannels : (contactDebounced d c s).1.channels = s.channels := hdebounced.1 .channels (by decide)
  unfold contactExpiry
  split_ifs
  · refine ⟨fun k hk => (hrun.sameDoors.door k).trans (hothers k hk), fun f => (hrun.fan f).trans ?_, fun k => (hrun.ch k).trans ?_,
      (Alters.runEffect (ps := doorReached) hdebounced (by decide)).1⟩
    · rw [State.fan, hfans, State.fan]
    · rw [State.ch, hchannels, State.ch]
  · exact ⟨fun _ _ => rfl, fun _ => rfl, fun _ => rfl, (Alters.refl doorReached s).1⟩

/-- Settles O48: each clause is its contact's move, and what follows a move changes the drive and the fault timers alone. -/
theorem doorContactMovesDoor : Obligations.DoorContactMovesDoor := by
  intro d c s x y up hx hdue hup hy
  obtain ⟨hkept, hdriven⟩ := contactExpiry_outputs hx hdue hup hy
  obtain ⟨hothers, hfans, hchannels, hparts⟩ := contactExpiry_frame d c s
  have hyx : y.cfg = x.cfg ∧ y.lockMode = x.lockMode ∧ y.sign = x.sign ∧ y.lock = x.lock ∧ y.engageWaiting = x.engageWaiting := by
    rw [hy]
    exact ⟨rfl, rfl, rfl, rfl, rfl⟩
  obtain ⟨hcfg, hmode, hsign, hlock, hengage⟩ := hyx
  have houtputs : ((contactExpiry d c s).door d).contacts = y.contacts ∧ ((contactExpiry d c s).door d).cfg = x.cfg ∧
      ((contactExpiry d c s).door d).lockMode = x.lockMode ∧ ((contactExpiry d c s).door d).sign = x.sign := by
    by_cases hc : c = .closed
    · obtain ⟨z, ⟨zcfg, zcontacts, zmode, zsign, -⟩, kcfg, kcontacts, kmode, ksign, -⟩ := hdriven hc
      obtain ⟨-, dcfg, dsign, dmode, dcontacts⟩ := carryDrive_state z s.rau.regime
      exact ⟨by rw [kcontacts, dcontacts, zcontacts], by rw [kcfg, dcfg, zcfg, hcfg], by rw [kmode, dmode, zmode, hmode],
        by rw [ksign, dsign, zsign, hsign]⟩
    · obtain ⟨kcfg, kcontacts, kmode, ksign, -⟩ := hkept hc
      exact ⟨kcontacts, kcfg.trans hcfg, kmode.trans hmode, ksign.trans hsign⟩
  refine ⟨contactExpiry d c s, rfl, houtputs.1, houtputs.2.1, houtputs.2.2.1, houtputs.2.2.2, hothers, hfans, hchannels, hparts,
    fun hst => ?_, fun hst hincomplete => ?_, fun hst hc hstands => contactExpiry_faultStands hx hdue hup hy hst hc hstands,
    fun hends => ?_, fun hc hlevel hst => ?_, fun hc hlevel bar handle time hopen forced hforced => ?_,
    fun hc hlevel hst => ?_, fun hc hst hlevel => ?_, fun hc hst hlevel => ?_, fun hc hst => ?_, fun hc hst => ?_,
    fun hc hlevel hopen => ?_, fun hc => ?_, fun hc due hdue' => ?_⟩
  · have hstate : ((settledContact d c s).door d).state = none := by rw [door_settledContact hx hup hy, hy]; exact hst
    have h := contactExpiry_still hx hdue hup (contactActs_absent hstate c up) (by rw [hst]; exact fun h => nomatch h)
    rwa [hst] at h
  · have hdoor := door_settledContact hx hup hy
    have hstate : ((settledContact d c s).door d).state = some .initial := by rw [hdoor, hy]; exact hst
    have hacts := contactActs_initial hstate c up
    rw [hdoor, hincomplete, if_neg Bool.false_ne_true] at hacts
    have h := contactExpiry_still hx hdue hup hacts (by rw [hst]; exact fun h => nomatch h)
    rwa [hst] at h
  · rcases hends with ⟨hst, hcomplete⟩ | ⟨hst, hdisagrees, hlatch⟩
    · exact contactExpiry_initial hx hdue hup hy hst hcomplete
    · exact contactExpiry_faultEnds hx hdue hup hy hst hdisagrees hlatch
  · -- The latch is withdrawn (R177).
    subst hc hlevel
    have hstate : ∀ st, x.state = some st → (st = .secured ∨ st = .free) →
        contactMove s y .latch false = some (y.toUnlatchedArmed s.tb.uptime, none) := fun st h hst => by
      rcases hst with rfl | rfl <;> simp [contactMove, latchMove, hy, h]
    have henters := fun st h hst => contactExpiry_enters hx hdue hup hy h (by rcases hst with rfl | rfl <;> decide) rfl
      (hstate st h hst) rfl (by decide)
    obtain ⟨hentered, hmoved⟩ := hst.elim (fun h => henters _ h (.inl rfl)) (fun h => henters _ h (.inr rfl))
    subst hy
    exact ⟨hentered, (congrArg Door.armed hmoved :), (congrArg Door.barSeen hmoved :), (congrArg Door.handleSeen hmoved :),
      (congrArg Door.barSince hmoved :), (congrArg Door.episode hmoved :)⟩
  · -- The leaf leaves its frame (R178, R181).
    subst hc hlevel
    have hmove : contactMove s y .closed false = some (openedRecord y forced bar handle time s.tb.uptime, some (time : Int)) := by
      have hystate : y.state = x.state := by rw [hy]
      rcases hopen with ⟨hst, hbar, hhandle, htime⟩ | ⟨hst, hbar, hhandle, htime⟩
      · have hused : y.barUsed = bar := by
          rw [hbar, hy]
          rcases hst with h | h <;> simp [Door.barUsed, h]
        have hepisode : (decide (y.episode = .secured) && !bar) = forced := by
          rw [hforced, hy]
          rcases hst with h | h <;> simp [h]
        have htaken : s.openingTime y = time := by
          subst hy
          exact (openingTime_eq s _).trans htime.symm
        rw [contactMove, closedMove_fromUnlatched (by rwa [hystate]), hused, hepisode, htaken, hhandle, hy]
      · have hshows : y.shows .escapeBar = bar ∧ y.shows .reverseHandle = handle := by
          rw [hbar, hhandle, hy]
          exact ⟨rfl, rfl⟩
        have hsecured : (decide (y.state = some .secured) && !bar) = forced := by
          rw [hforced, hystate]
          rcases hst with h | h <;> simp [h]
        rw [contactMove, closedMove_fromClosed (by rwa [hystate]), hshows.1, hshows.2, hsecured, htime]
        rfl
    have hz : (openedRecord y forced bar handle time s.tb.uptime).state = some (if forced then .forced else .opened) := by
      cases forced <;> rfl
    have hst : ∃ st, x.state = some st ∧ st ≠ .initial := by
      rcases hopen with ⟨h | h, -⟩ | ⟨h | h, -⟩ <;> exact ⟨_, h, by decide⟩
    obtain ⟨st, hst, hinitial⟩ := hst
    obtain ⟨hentered, hmoved⟩ := contactExpiry_enters hx hdue hup hy hst hinitial rfl hmove hz (by cases forced <;> decide)
    refine ⟨hentered, ?_⟩
    cases forced
    · exact ⟨(congrArg Door.lastTime hmoved :), (congrArg Door.lastWay hmoved :), (congrArg Door.armed hmoved :),
        (congrArg Door.episode hmoved :), (congrArg Door.openSince hmoved :)⟩
    · exact ⟨(congrArg Door.lastTime hmoved :), (congrArg Door.lastWay hmoved :), (congrArg Door.armed hmoved :),
        (congrArg Door.episode hmoved :), (congrArg Door.openSince hmoved :)⟩
  · -- The latch engages (R181).
    subst hc hlevel
    have hstate : ∀ st, x.state = some st → (st = .unlatched ∨ st = .obstructed) →
        contactMove s y .latch true = some (y.toClosed, none) := fun st h hst => by
      rcases hst with rfl | rfl <;> simp [contactMove, latchMove, hy, h]
    have henters := fun st h hst => contactExpiry_enters hx hdue hup hy h (by rcases hst with rfl | rfl <;> decide) rfl
      (hstate st h hst) rfl (by split_ifs <;> decide)
    obtain ⟨hentered, hmoved⟩ := hst.elim (fun h => henters _ h (.inl rfl)) (fun h => henters _ h (.inr rfl))
    subst hy
    exact ⟨hentered, (congrArg Door.armed hmoved :), (congrArg Door.episode hmoved :), (congrArg Door.barSince hmoved :),
      (congrArg Door.lastTime hmoved :)⟩
  · subst hc hlevel
    exact (contactExpiry_enters hx hdue hup hy hst (by decide) rfl (z := { y with state := some .free }) (value := none)
      (by simp [contactMove, feedbackMove, hy, hst]) rfl (by decide)).1
  · subst hc hlevel
    exact (contactExpiry_enters hx hdue hup hy hst (by decide) rfl (z := { y with state := some .secured }) (value := none)
      (by simp [contactMove, feedbackMove, hy, hst]) rfl (by decide)).1
  · -- The escape bar (R177, R180).
    subst hc
    obtain ⟨hmoved, hevq⟩ := contactExpiry_marks hx hdue hup hy hst rfl
    have hystate : y.state = some .unlatched := by rw [hy]; exact hst
    have hseen : y.barSeen = x.barSeen := by rw [hy]
    rw [Door.contactMarks, Door.barChange, if_pos hystate] at hmoved
    cases up
    · exact ⟨(moved_state hmoved).trans hystate, hevq, (congrArg Door.barSeen hmoved).trans (hseen.trans (Bool.or_false _).symm),
        (congrArg Door.barSince hmoved :)⟩
    · exact ⟨(moved_state hmoved).trans hystate, hevq, (congrArg Door.barSeen hmoved).trans (Bool.or_true _).symm,
        (congrArg Door.barSince hmoved :)⟩
  · -- The reverse handle (R177).
    subst hc
    obtain ⟨hmoved, hevq⟩ := contactExpiry_marks hx hdue hup hy hst rfl
    have hystate : y.state = some .unlatched := by rw [hy]; exact hst
    have hseen : y.handleSeen = x.handleSeen := by rw [hy]
    cases up
    · rw [Door.contactMarks, Door.handleChange, if_neg (fun h => Bool.false_ne_true h.2)] at hmoved
      exact ⟨(moved_state hmoved).trans hystate, hevq, (congrArg Door.handleSeen hmoved).trans (hseen.trans (Bool.or_false _).symm)⟩
    · rw [Door.contactMarks, Door.handleChange, if_pos ⟨hystate, rfl⟩] at hmoved
      exact ⟨(moved_state hmoved).trans hystate, hevq, (congrArg Door.handleSeen hmoved).trans (Bool.or_true _).symm⟩
  · -- The leaf is in its frame again (R184).
    subst hc hlevel
    have hystate : y.state = x.state := by rw [hy]
    have hclosed : y.shows .closed = true := by rw [hy]; rfl
    have hz : (if y.shows .latch then y.toClosed else y.toUnlatchedUnarmed s.tb.uptime).state = some y.derived := by
      rw [← deriveDoor_closed hclosed, deriveDoor_state]
    obtain ⟨st, hst⟩ := Option.ne_none_iff_exists'.mp (show x.state ≠ none from fun h => by rw [h] at hopen; exact nomatch hopen)
    obtain ⟨hentered, hmoved⟩ := contactExpiry_enters hx hdue hup hy hst (by rintro rfl; rw [hst] at hopen; exact nomatch hopen) rfl
      (closedMove_closes (by rwa [hystate])) hz (fun h => derived_ne_fault y (congrArg some h))
    refine ⟨hentered, ?_, ?_, ?_, fun hderived => ?_⟩
    · exact (congrArg Door.openSince hmoved).trans (by split_ifs <;> rfl)
    · exact (congrArg Door.armed hmoved).trans (by split_ifs <;> rfl)
    · exact (congrArg Door.episode hmoved).trans (by split_ifs <;> rfl)
    · have hlatch : y.shows .latch = false := by
        rw [Door.derived, if_pos hclosed] at hderived
        by_contra h
        rw [if_pos (by simpa using h)] at hderived
        split_ifs at hderived
      rw [hlatch, if_neg Bool.false_ne_true] at hmoved
      subst hy
      exact ⟨(congrArg Door.barSeen hmoved :), (congrArg Door.handleSeen hmoved :), (congrArg Door.barSince hmoved :)⟩
  · obtain ⟨-, -, -, -, klock, kengage⟩ := hkept hc
    exact ⟨klock.trans hlock, kengage.trans hengage⟩
  · obtain ⟨z, ⟨zcfg, zcontacts, zmode, -, zlock, -⟩, -, -, -, -, klock, kengage⟩ := hdriven hc
    have hshows : z.shows .closed = up := by
      rw [Door.shows, zcontacts, hy, hc]
      cases up <;> rfl
    obtain ⟨dlock, dengage⟩ := carryDrive_drive z s.rau.regime (due := due) (by rw [hdue', zcfg, zmode, hcfg, hmode])
    exact ⟨by rw [klock, dlock, zlock, hlock, hshows], by rw [kengage, dengage, zlock, hlock, hshows]⟩

end Sys2Proof.Machine

end

/-! PROOFS. The statement about SET DOOR and DOOR COMMAND (chapter 10). -/

section

namespace Sys2Proof.Machine

/-! ### What hand-overs leave of fans and channels -/

/-- From s to t no fan and no channel has changed but as hand-overs change them. -/
structure FixedKept (s t : State) : Prop where
  fans : ∀ f : FanNo, (t.fan f).fixed = (s.fan f).fixed
  channels : ∀ c : ChanNo, (t.ch c).fixed = (s.ch c).fixed

theorem FixedKept.refl (s : State) : FixedKept s s := ⟨fun _ => rfl, fun _ => rfl⟩

theorem FixedKept.trans {s t u : State} (h : FixedKept s t) (k : FixedKept t u) : FixedKept s u :=
  ⟨fun f => (k.fans f).trans (h.fans f), fun c => (k.channels c).trans (h.channels c)⟩

theorem HandedOn.fixedKept {s t : State} (h : HandedOn s t) : FixedKept s t := ⟨h.fan, h.ch⟩

theorem fixedKept_of_parts {ps : List Part} {s t : State} (h : sameBut ps s t)
    (hps : .fans ∉ ps ∧ .channels ∉ ps := by decide) : FixedKept s t := by
  have hfans : t.fans = s.fans := h .fans hps.1
  have hchannels : t.channels = s.channels := h .channels hps.2
  exact ⟨fun f => by rw [State.fan, hfans, State.fan], fun c => by rw [State.ch, hchannels, State.ch]⟩

theorem contact_fixedKept (s : State) : FixedKept s (contact s) := fixedKept_of_parts (contact_alters s).1

/-- An act that leaves fans and channels, and its hand-overs. -/
theorem fixedKept_run {ps : List Part} {s t : State} (h : sameBut ps s t) (ws : List Work)
    (hps : .fans ∉ ps ∧ .channels ∉ ps := by decide) : FixedKept s (run ws t) :=
  (fixedKept_of_parts h hps).trans (run_handedOn ws t).fixedKept

/-! ### SET DOOR -/

theorem holdExpiry_outputs (d k : DoorNo) (s : State) :
    (s.door d).sameOutputs ((holdExpiry d s).1.door d) ∧ (k ≠ d → (holdExpiry d s).1.door k = s.door k) := by
  unfold holdExpiry
  split_ifs
  · rw [door_moveDoor, if_pos rfl]
    exact ⟨⟨rfl, rfl, rfl, rfl, rfl, rfl⟩, fun hk => by rw [door_moveDoor, if_neg hk]⟩
  · exact ⟨⟨rfl, rfl, rfl, rfl, rfl, rfl⟩, fun _ => rfl⟩

theorem waitExpiry_outputs (d k : DoorNo) (s : State) :
    (s.door d).sameOutputs ((waitExpiry d s).1.door d) ∧ (k ≠ d → (waitExpiry d s).1.door k = s.door k) := by
  unfold waitExpiry
  split_ifs
  · rw [door_moveDoor, if_pos rfl]
    exact ⟨⟨rfl, rfl, rfl, rfl, rfl, rfl⟩, fun hk => by rw [door_moveDoor, if_neg hk]⟩
  · exact ⟨⟨rfl, rfl, rfl, rfl, rfl, rfl⟩, fun _ => rfl⟩

/-- The door's record after its drive and sign have been carried with the regime: its state stands, where it is in no FAULT. -/
theorem settleDoor_acted {d : DoorNo} {s : State} (h : (s.door d).state ≠ some .fault) :
    DoorActed d none s (settleDoor d s) ∧ ((settleDoor d s).door d).state = (s.door d).state ∧
      (((s.door d).carryDrive s.rau.regime).carrySign s.rau.regime).sameOutputs ((settleDoor d s).door d) := by
  have hcarried : ((s.modDoor d fun x => (x.carryDrive s.rau.regime).carrySign s.rau.regime).door d).state =
      (s.door d).state := by
    rw [State.door_modDoor_same]
    exact (carryDrive_state _ _).1
  have hstate := hcarried ▸ h
  have hfollow := followUp_acted d (s.modDoor d fun x => (x.carryDrive s.rau.regime).carrySign s.rau.regime)
  rw [endedFault, if_neg fun hends => hstate hends.1] at hfollow
  refine ⟨(modDoor_acted d _ s).after hfollow, ?_, ?_⟩
  · rw [settleDoor, door_followUp, if_pos rfl, moved_state (followedDoor_moved _ hstate), hcarried]
  · rw [settleDoor, door_followUp, if_pos rfl, State.door_modDoor_same]
    exact followedDoor_outputs _ _

section

variable {d : DoorNo} {cfg : DoorConfig} {s : State}

/-- A door that leaves supervision (R171). -/
theorem placeDoor_leaves (hstate : (s.door d).state ≠ none) (hpresent : cfg.present = false) :
    (placeDoor d cfg s).door d = ((s.door d).withCfg cfg).leave ∧ (∀ k, k ≠ d → (placeDoor d cfg s).door k = s.door k) ∧
      FixedKept s (placeDoor d cfg s) := by
  obtain ⟨st, hst⟩ := Option.ne_none_iff_exists'.mp hstate
  simp only [placeDoor, hst, hpresent]
  refine ⟨?_, fun k hk => ?_, fixedKept_run ((modDoor_alters d _ s).trans ((modDoor_alters d _ _).trans (handDoor_alters _))).1 _⟩
  · rw [door_run, door_handDoor, State.door_modDoor_same, State.door_modDoor_same]
  · rw [door_run, door_handDoor, State.door_modDoor, if_neg hk, State.door_modDoor, if_neg hk]

/-- A door that stays out of supervision. -/
theorem placeDoor_staysOut (hstate : (s.door d).state = none) (hpresent : cfg.present = false) :
    placeDoor d cfg s = s.modDoor d (·.withCfg cfg) := by
  simp only [placeDoor, hstate, hpresent]

/-- A door made present (R171, R176). -/
theorem placeDoor_enters (hstate : (s.door d).state = none) (hpresent : cfg.present = true) :
    DoorEntered d (s.door d).derived (if (s.door d).derived = .opened then some 0 else none) s (placeDoor d cfg s) ∧
      (∃ z : Door, ((s.door d).withCfg cfg).sameOutputs z ∧
        ((z.carryDrive s.rau.regime).carrySign s.rau.regime).sameOutputs ((placeDoor d cfg s).door d)) ∧
      (∀ k, k ≠ d → (placeDoor d cfg s).door k = s.door k) ∧ FixedKept s (placeDoor d cfg s) := by
  have hplaced : placeDoor d cfg s = run [.reform] (settleDoor d (moveDoor d (deriveDoor s ((s.door d).withCfg cfg))
      (s.modDoor d (·.withCfg cfg)))) := by
    simp only [placeDoor, hstate, hpresent, State.door_modDoor_same,
      deriveDoor_congr (s.modDoor_tb d (·.withCfg cfg))]
  have hderived : ((s.door d).withCfg cfg).derived = (s.door d).derived := rfl
  have hentered : ((moveDoor d (deriveDoor s ((s.door d).withCfg cfg)) (s.modDoor d (·.withCfg cfg))).door d).state =
      some (s.door d).derived := by
    rw [door_moveDoor, if_pos rfl, deriveDoor_state, hderived]
  have hmoved := (modDoor_acted d (·.withCfg cfg) s).after
    (moveDoor_acted d (deriveDoor s ((s.door d).withCfg cfg)) (s.modDoor d (·.withCfg cfg)))
  obtain ⟨hsettled, hst, hout⟩ := settleDoor_acted (d := d)
    (s := moveDoor d (deriveDoor s ((s.door d).withCfg cfg)) (s.modDoor d (·.withCfg cfg)))
    (by rw [hentered]; exact derived_ne_fault _)
  have hacted := hmoved.before hsettled
  rw [moveDoor_regime, door_moveDoor, if_pos rfl] at hout
  rw [hplaced]
  refine ⟨⟨?_, ?_⟩, ⟨_, deriveDoor_outputs s _, by rw [door_run]; exact hout⟩, fun k hk => ?_, ?_⟩
  · rw [door_run, hst, hentered]
  · have hgrown := hacted.evq_grown _ _ rfl
    rw [deriveDoor_state, deriveDoor_value, hderived] at hgrown
    exact hgrown.appended.trans (run_handedOn _ _).2
  · rw [door_run, hacted.others k hk]
  · exact fixedKept_run ((modDoor_alters d _ s).trans
      ((moveDoor_alters d _ _).trans ((modDoor_alters d _ _).trans (followUp_alters d _)))).1 _

/-- A door that stays present: its timers are judged by the new limits. -/
theorem placeDoor_stays (hstate : (s.door d).state ≠ none) (hpresent : cfg.present = true) :
    ((s.door d).withCfg cfg).sameOutputs ((placeDoor d cfg s).door d) ∧
      (∀ k, k ≠ d → (placeDoor d cfg s).door k = s.door k) ∧ FixedKept s (placeDoor d cfg s) := by
  obtain ⟨st, hst⟩ := Option.ne_none_iff_exists'.mp hstate
  have hplaced : placeDoor d cfg s =
      runEffect (waitExpiry d (runEffect (holdExpiry d (s.modDoor d (·.withCfg cfg))))) := by
    simp only [placeDoor, hst, hpresent]
  have hhold := holdExpiry_outputs d d (s.modDoor d (·.withCfg cfg))
  have hwait := waitExpiry_outputs d d (runEffect (holdExpiry d (s.modDoor d (·.withCfg cfg))))
  rw [runEffect, door_run] at hwait
  rw [State.door_modDoor_same] at hhold
  rw [hplaced]
  refine ⟨?_, fun k hk => ?_, ?_⟩
  · rw [runEffect, door_run]
    exact sameOutputs_trans hhold.1 hwait.1
  · rw [runEffect, door_run, (waitExpiry_outputs d k _).2 hk, runEffect, door_run, (holdExpiry_outputs d k _).2 hk,
      State.door_modDoor, if_neg hk]
  · exact (fixedKept_run ((modDoor_alters d _ s).trans (holdExpiry_alters d _)).1 _).trans
      (fixedKept_run (waitExpiry_alters d _).1 _)

end

/-- A door made present stands closed or not as its contact shows, and its drive is carried with the regime (R186, R187). -/
theorem entered_drive {z w : Door} {r : Regime} (h : ((z.carryDrive r).carrySign r).sameOutputs w) (hpresent : z.cfg.present = true) :
    w.sign = (if r = .incident then .flash else .steady) ∧
      (r = .incident ∨ z.lockMode = .released → w.lock = false ∧ w.engageWaiting = false) ∧
      (r ≠ .incident → z.lockMode = .locked → z.lock = false →
        w.lock = z.shows .closed ∧ w.engageWaiting = !z.shows .closed) := by
  obtain ⟨-, -, -, hsign, hlock, hengage⟩ := h
  have hcfg : (z.carryDrive r).cfg = z.cfg := (carryDrive_state z r).2.1
  obtain ⟨dlock, dengage⟩ := carryDrive_drive z r rfl
  rw [Door.carrySign] at hlock hengage
  refine ⟨by rw [hsign, Door.carrySign, hcfg, hpresent]; rfl, fun hreleased => ?_, fun hr hmode hz => ?_⟩
  · have hdue : (z.cfg.present && r != .incident && z.lockMode == .locked) = false := by
      rcases hreleased with h | h <;> simp [h]
    rw [hlock, hengage, dlock, dengage, hdue]
    exact ⟨rfl, rfl⟩
  · have hdue : (z.cfg.present && r != .incident && z.lockMode == .locked) = true := by simp [hpresent, hr, hmode]
    rw [hlock, hengage, dlock, dengage, hdue, hz]
    exact ⟨rfl, rfl⟩

theorem yes_drop (fields : List Byte) : yes (fields.drop 1) 0 = decide (u8 fields 1 ≠ 0) := by
  cases fields <;> rfl

theorem pressureOk_iff (s : State) (p : Option ChanNo) :
    pressureOk s p = true ↔ ∀ c, p = some c → (s.ch c).cfg.kind = .diffPressure := by
  cases p <;> simp [pressureOk]

/-- SET DOOR whose door number and pressure channel are read. -/
theorem exec_setDoor {d : DoorNo} {p : Option ChanNo} {fields : List Byte} {s : State} (hready : s.ready)
    (hlength : fields.length = 9) (hd : u8 fields 0 = d.val) (hp : optChannel (u8 fields 6) = some p) :
    exec (.setDoor .addressed fields) s = .next (beginService 0x14
      (setDoorConfig d (takenDoor (fields.drop 1) p) (fields.drop 1) (contact s))) := by
  have hserve : serveSetDoor fields (contact s) =
      setDoorConfig d (takenDoor (fields.drop 1) p) (fields.drop 1) (contact s) := by
    simp only [serveSetDoor, hd, hp, indexOf_val]
  rw [← hserve]
  exact exec_served (r := ⟨0x14, false, 9, .addressed, fields⟩) hready rfl rfl hlength

/-- What an accepted SET DOOR does to its door and leaves of the rest. -/
theorem placeDoor_stores (d : DoorNo) (cfg : DoorConfig) (s : State) :
    ((placeDoor d cfg s).door d).cfg = cfg ∧ ((placeDoor d cfg s).door d).contacts = (s.door d).contacts ∧
      ((placeDoor d cfg s).door d).lockMode = (s.door d).lockMode ∧
      (∀ k : DoorNo, k ≠ d → (placeDoor d cfg s).door k = s.door k) ∧ FixedKept s (placeDoor d cfg s) := by
  by_cases hstate : (s.door d).state = none
  · cases hpresent : cfg.present
    · rw [placeDoor_staysOut hstate hpresent, State.door_modDoor_same]
      exact ⟨rfl, rfl, rfl, fun k hk => by rw [State.door_modDoor, if_neg hk],
        fixedKept_of_parts (modDoor_alters d (·.withCfg cfg) s).1⟩
    · obtain ⟨-, ⟨z, ⟨zcfg, zcontacts, zmode, -⟩, kcfg, kcontacts, kmode, -⟩, hothers, hfixed⟩ :=
        placeDoor_enters hstate hpresent
      obtain ⟨-, dcfg, -, dmode, dcontacts⟩ := carryDrive_state z s.rau.regime
      exact ⟨kcfg.trans (dcfg.trans zcfg), kcontacts.trans (dcontacts.trans zcontacts), kmode.trans (dmode.trans zmode),
        hothers, hfixed⟩
  · cases hpresent : cfg.present
    · obtain ⟨hdoor, hothers, hfixed⟩ := placeDoor_leaves hstate hpresent
      rw [hdoor]
      exact ⟨rfl, rfl, rfl, hothers, hfixed⟩
    · obtain ⟨⟨hcfg, hcontacts, hmode, -⟩, hothers, hfixed⟩ := placeDoor_stays hstate hpresent
      exact ⟨hcfg, hcontacts, hmode, hothers, hfixed⟩

theorem takenDoor_present (fields : List Byte) (p : Option ChanNo) :
    (takenDoor (fields.drop 1) p).present = decide (u8 fields 1 ≠ 0) := yes_drop fields

/-! ### DOOR COMMAND -/

/-- One door's action on its record and the others' (R173, R186). -/
theorem door_doorAction (d k : DoorNo) (action : Nat) (s : State) : (doorAction d action s).door k =
    if k = d ∧ actionMode (s.door d).lockMode action ≠ (s.door d).lockMode then
      followedDoor (s.modDoor d fun x => { x with lockMode := actionMode (s.door d).lockMode action }.carryDrive s.rau.regime)
        ({ s.door d with lockMode := actionMode (s.door d).lockMode action }.carryDrive s.rau.regime)
    else s.door k := by
  simp only [doorAction]
  by_cases hmode : actionMode (s.door d).lockMode action = (s.door d).lockMode
  · rw [if_pos hmode, if_neg fun h => h.2 hmode]
  · rw [if_neg hmode, door_run, door_followUp]
    by_cases hk : k = d
    · rw [if_pos hk, if_pos ⟨hk, hmode⟩, State.door_modDoor_same]
    · rw [if_neg hk, if_neg fun h => hk h.1, State.door_modDoor, if_neg hk]

/-- What an action does to its own door. -/
theorem doorAction_own (d : DoorNo) (action : Nat) (s : State) :
    ((doorAction d action s).door d).lockMode = actionMode (s.door d).lockMode action ∧
      ((doorAction d action s).door d).cfg = (s.door d).cfg ∧
      ((doorAction d action s).door d).contacts = (s.door d).contacts ∧
      ((doorAction d action s).door d).sign = (s.door d).sign ∧
      ((s.door d).lockMode = .locked → 2 ≤ action →
        ((doorAction d action s).door d).lock = false ∧ ((doorAction d action s).door d).engageWaiting = false) := by
  rw [door_doorAction]
  by_cases hmode : actionMode (s.door d).lockMode action = (s.door d).lockMode
  · rw [if_neg fun h => h.2 hmode]
    refine ⟨hmode.symm, rfl, rfl, rfl, fun hlocked haction => ?_⟩
    rw [hlocked] at hmode
    match action, haction with
    | _ + 2, _ => exact nomatch hmode
  · rw [if_pos ⟨rfl, hmode⟩]
    obtain ⟨kcfg, kcontacts, kmode, ksign, klock, kengage⟩ := followedDoor_outputs
      (s.modDoor d fun x => { x with lockMode := actionMode (s.door d).lockMode action }.carryDrive s.rau.regime)
      ({ s.door d with lockMode := actionMode (s.door d).lockMode action }.carryDrive s.rau.regime)
    obtain ⟨-, dcfg, dsign, dmode, dcontacts⟩ :=
      carryDrive_state { s.door d with lockMode := actionMode (s.door d).lockMode action } s.rau.regime
    obtain ⟨dlock, dengage⟩ := carryDrive_drive { s.door d with lockMode := actionMode (s.door d).lockMode action } s.rau.regime rfl
    refine ⟨kmode.trans dmode, kcfg.trans dcfg, kcontacts.trans dcontacts, ksign.trans dsign, fun hlocked haction => ?_⟩
    have hreleased : actionMode (s.door d).lockMode action = .released := by
      match action, haction with
      | _ + 2, _ => rfl
    rw [klock, kengage, dlock, dengage, hreleased]
    simp

theorem doorAction_idle {d : DoorNo} {action : Nat} {s : State} (h : ((doorAction d action s).door d).lockMode = (s.door d).lockMode) :
    doorAction d action s = s := by
  rw [(doorAction_own d action s).1] at h
  simp only [doorAction]
  rw [if_pos h]

theorem doorAction_fixedKept (d : DoorNo) (action : Nat) (s : State) : FixedKept s (doorAction d action s) := by
  simp only [doorAction]
  split
  · exact .refl s
  · exact fixedKept_run ((modDoor_alters d _ s).trans (followUp_alters d _)).1 _

@[simp] theorem silence_doors (asked : Bool) (s : State) : (silence asked s).doors = s.doors := by
  unfold silence
  split <;> rfl

@[simp] theorem door_silence (asked : Bool) (s : State) (d : DoorNo) : (silence asked s).door d = s.door d := by
  rw [State.door, silence_doors, State.door]

/-- SILENCE while the buzzer condition stands (R189). -/
theorem silence_asked {s : State} (h : (silence true s).buzzerCondition = true) :
    (silence true s).vestibule.silenced = true ∧ (silence true s).vestibule.buzzer = false := by
  by_cases hcondition : s.buzzerCondition = true
  · have hcond : ({ s with vestibule := { s.vestibule with silenced := true } } : State).buzzerCondition = true := hcondition
    rw [silence, if_pos (by simp [hcondition]), updateBuzzer]
    dsimp only
    rw [hcond]
    exact ⟨rfl, by simp⟩
  · rw [silence, if_neg (by simp [hcondition])] at h
    exact absurd h hcondition

theorem actionMode_eq (held : LockMode) (b : Byte) :
    actionMode held b.toNat = if b = 0 then held else if b = 1 then .locked else .released := by
  by_cases h0 : b = 0
  · subst h0
    rfl
  · by_cases h1 : b = 1
    · subst h1
      rfl
    · have hlarge : 2 ≤ b.toNat := by
        have h0' : b.toNat ≠ 0 := fun h => h0 (BitVec.eq_of_toNat_eq h)
        have h1' : b.toNat ≠ 1 := fun h => h1 (BitVec.eq_of_toNat_eq h)
        omega
      rw [if_neg h0, if_neg h1]
      match b.toNat, hlarge with
      | _ + 2, _ => rfl

/-- Settles O47: SET DOOR by the door's presence before and after, DOOR COMMAND door after door. -/
theorem doorRequestsAct : Obligations.DoorRequestsAct := by
  refine ⟨fun fields s hready hlength hnumber => ?_, fun d p fields s hready hlength hd hp => ⟨?_, ?_, ?_⟩,
    fun a b c s hready => ?_⟩
  · have hserve : serveSetDoor fields (contact s) = refuse .outOfRange (contact s) := by
      simp only [serveSetDoor, indexOf_none (Nat.succ_le_of_lt hnumber)]
    rw [← beginService_refuse, ← hserve]
    exact exec_served (r := ⟨0x14, false, 9, .addressed, fields⟩) hready rfl rfl hlength
  · intro hpresent hstate hcomplete
    rw [exec_setDoor hready hlength hd hp, setDoorConfig, if_pos, beginService_refuse]
    rw [doorSetBarred, yes_drop]
    simp [hpresent, hstate, hcomplete]
  · intro hfree hkind
    rw [exec_setDoor hready hlength hd hp, setDoorConfig, if_neg, if_neg, beginService_refuse]
    · rw [pressureOk_iff]
      obtain ⟨c, hc, hk⟩ := hkind
      exact fun h => hk (by simpa using h c hc)
    · rw [doorSetBarred, yes_drop]
      rcases hfree with h | h | h <;> simp [h]
  · intro hfree hkind
    refine ⟨placeDoor d (takenDoor (fields.drop 1) p) (contact s), ?_, ?_⟩
    · rw [exec_setDoor hready hlength hd hp, setDoorConfig, if_neg, if_pos, beginService_answer]
      · rw [pressureOk_iff]
        exact fun c hc => by simpa using hkind c hc
      · rw [doorSetBarred, yes_drop]
        rcases hfree with h | h | h <;> simp [h]
    · obtain ⟨hcfg, hcontacts, hmode, hothers, hfixed⟩ := placeDoor_stores d (takenDoor (fields.drop 1) p) (contact s)
      have hcontact := (contact_fixedKept s).trans hfixed
      rw [contact_door] at hcontacts hmode
      refine ⟨hcfg, hcontacts, hmode, fun hleft hstate => ?_, fun hleft hstate => ?_, fun k hk => ?_, hcontact.fans,
        hcontact.channels, (placeDoor_alters d _ _).1⟩
      · obtain ⟨hdoor, -⟩ := placeDoor_leaves (d := d) (cfg := takenDoor (fields.drop 1) p) (s := contact s)
          (by simpa using hstate) ((takenDoor_present _ _).trans (by simp [hleft]))
        rw [hdoor, contact_door]
        exact ⟨rfl, rfl, rfl, rfl, rfl⟩
      · have hpresent : (takenDoor (fields.drop 1) p).present = true := (takenDoor_present _ _).trans (by simp [hleft])
        obtain ⟨hentered, ⟨z, ⟨zcfg, zcontacts, zmode, -, zlock, -⟩, hout⟩, -⟩ := placeDoor_enters (d := d)
          (cfg := takenDoor (fields.drop 1) p) (s := contact s) (by simpa using hstate) hpresent
        have hshows : z.shows .closed = (s.door d).shows .closed := by
          rw [Door.shows, zcontacts, contact_door]
          rfl
        have hregime : (contact s).rau.regime = s.rau.regime := by simp
        rw [contact_door] at hentered zmode zlock
        rw [hregime] at hout
        obtain ⟨hsign, hreleased, hlocked⟩ := entered_drive hout (by rw [zcfg]; exact hpresent)
        rw [show z.lockMode = (s.door d).lockMode from zmode] at hreleased hlocked
        rw [show z.lock = (s.door d).lock from zlock, hshows] at hlocked
        exact ⟨hentered, hsign, hreleased, hlocked⟩
      · rw [hothers k hk, contact_door]
  · refine ⟨commandDoors [a, b, c] (contact s), ?_, ?_⟩
    · have hmark : (decide (2 < a.toNat) || decide (2 < b.toNat) || decide (1 < c.toNat)) =
          decide (2 < a.toNat ∨ 2 < b.toNat ∨ 1 < c.toNat) := by
        rw [Bool.decide_or, Bool.decide_or, Bool.or_assoc]
      rw [← hmark, ← beginService_answer]
      exact (exec_served hready rfl rfl rfl).trans rfl
    · obtain ⟨mode0, cfg0, contacts0, sign0, drive0⟩ := doorAction_own 0 a.toNat (contact s)
      obtain ⟨mode1, cfg1, contacts1, sign1, drive1⟩ := doorAction_own 1 b.toNat (doorAction 0 a.toNat (contact s))
      have hone : (doorAction 0 a.toNat (contact s)).door 1 = s.door 1 := by
        rw [door_doorAction, if_neg fun h => absurd h.1 (by decide), contact_door]
      have hzero : (commandDoors [a, b, c] (contact s)).door 0 = (doorAction 0 a.toNat (contact s)).door 0 := by
        rw [commandDoors, door_silence, door_doorAction, if_neg fun h => absurd h.1 (by decide)]
        rfl
      have hsecond : (commandDoors [a, b, c] (contact s)).door 1 =
          (doorAction 1 b.toNat (doorAction 0 a.toNat (contact s))).door 1 := by
        rw [commandDoors, door_silence]
        rfl
      have hfixed := (contact_fixedKept s).trans ((doorAction_fixedKept 0 a.toNat (contact s)).trans
        ((doorAction_fixedKept 1 b.toNat _).trans (fixedKept_of_parts (silence_alters (yes [a, b, c] 2)
          (doorAction 1 b.toNat (doorAction 0 a.toNat (contact s)))).1)))
      rw [hone] at mode1 cfg1 contacts1 sign1 drive1
      rw [contact_door] at mode0 cfg0 contacts0 sign0 drive0
      refine ⟨?_, ?_, fun d => ?_, fun h0 h1 => ?_, ?_, ?_, fun hc hcondition => ?_, hfixed.fans, hfixed.channels,
        (commandDoors_alters [a, b, c] (contact s)).1⟩
      · rw [hzero, mode0, actionMode_eq]
      · rw [hsecond, mode1, actionMode_eq]
      · fin_cases d
        · exact hzero ▸ ⟨cfg0, contacts0, sign0⟩
        · exact hsecond ▸ ⟨cfg1, contacts1, sign1⟩
      · rw [hzero] at h0
        rw [hsecond] at h1
        have hidle0 : doorAction 0 a.toNat (contact s) = contact s :=
          doorAction_idle (by rw [contact_door]; exact h0.symm)
        have hidle1 : doorAction 1 b.toNat (doorAction 0 a.toNat (contact s)) = doorAction 0 a.toNat (contact s) :=
          doorAction_idle (by rw [hone]; exact h1.symm)
        have hdoors : (commandDoors [a, b, c] (contact s)).doors =
            (doorAction 1 b.toNat (doorAction 0 a.toNat (contact s))).doors := silence_doors _ _
        rw [hdoors, hidle1, hidle0]
        exact (contact_alters s).1 .doors (by decide)
      · rw [hzero]
        exact drive0
      · rw [hsecond]
        exact drive1
      · have hasked : yes [a, b, c] 2 = true := by
          have hbyte : c.toNat ≠ 0 := fun h => hc (BitVec.eq_of_toNat_eq h)
          exact decide_eq_true hbyte
        have hcommand : commandDoors [a, b, c] (contact s) =
            silence true (doorAction 1 b.toNat (doorAction 0 a.toNat (contact s))) := by
          rw [commandDoors, hasked]
          rfl
        rw [hcommand] at hcondition ⊢
        exact silence_asked hcondition

end Sys2Proof.Machine

end

/-! PROOFS. Hand-overs come to an end, and how an invariant that the hand-overs still waiting make good holds at their end. What an
act of one fan can do and hand on is said once. -/

section

namespace Sys2Proof.Machine

/-! ### What a fan's act can do -/

/-- An act of the fan f: it alters this fan alone, and hands on its move, or nothing where its state stands. -/
structure FanAct (f : FanNo) (s : State) (e : Effect) : Prop where
  alters : Alters fanParts s e.1
  others : ∀ g : FanNo, g ≠ f → e.1.fan g = s.fan g
  works : (e.2 = [] ∧ (e.1.fan f).state = (s.fan f).state) ∨ e.2 = [.fanMoved f (s.fan f).state (e.1.fan f).state]

namespace FanAct

theorem none (f : FanNo) (s : State) : FanAct f s (s, []) := ⟨.refl _ s, fun _ _ => rfl, .inl ⟨rfl, rfl⟩⟩

theorem move (f : FanNo) (g : Fan → Fan) (s : State) : FanAct f s (moveFan f g s) where
  alters := moveFan_alters f g s
  others k hk := by rw [moveFan, State.fan_modFan, if_neg hk]
  works := by rw [moveFan, State.fan_modFan_same]; exact .inr rfl

theorem change (f : FanNo) {g : Fan → Fan} {s : State} (h : (g (s.fan f)).state = (s.fan f).state) :
    FanAct f s (s.modFan f g, []) where
  alters := modFan_alters f g s
  others k hk := by rw [State.fan_modFan, if_neg hk]
  works := .inl ⟨rfl, by rw [State.fan_modFan_same, h]⟩

/-- An act after a change that leaves the fan's state. -/
theorem after_change {f : FanNo} {g : Fan → Fan} {s : State} {e : Effect} (hg : (g (s.fan f)).state = (s.fan f).state)
    (h : FanAct f (s.modFan f g) e) : FanAct f s e where
  alters := (modFan_alters f g s).trans h.alters
  others k hk := by rw [h.others k hk, State.fan_modFan, if_neg hk]
  works := by simpa only [State.fan_modFan_same, hg] using h.works

/-- An act after an entry. -/
theorem after_event {f : FanNo} {src : Source} {code : EventCode} {l : Option Nat} {v : Option Int} {s : State} {e : Effect}
    (h : FanAct f (appendEvent src code l v s) e) : FanAct f s e where
  alters := (appendEvent_alters _ _ _ _ s).trans h.alters
  others := h.others
  works := h.works

theorem event_move (f : FanNo) (g : Fan → Fan) (src : Source) (code : EventCode) (l : Option Nat) (v : Option Int) (s : State) :
    FanAct f s (moveFan f g (appendEvent src code l v s)) := after_event (move f g _)

end FanAct

theorem budgetAttempt_act (f : FanNo) (s : State) : FanAct f s (budgetAttempt f s) := by
  simp only [budgetAttempt]
  split
  · exact .after_change rfl (.move f _ _)
  · exact .after_change rfl (.event_move f _ _ _ _ _ _)

theorem startAttempt_act (f : FanNo) (s : State) : FanAct f s (startAttempt f s) := by
  simp only [startAttempt]
  split_ifs
  · exact .event_move f _ _ _ _ _ s
  · exact budgetAttempt_act f s
  · exact .none f s

theorem changeStage_act (f : FanNo) (s : State) : FanAct f s (changeStage f s) := by
  unfold changeStage
  split
  · exact .move f _ s
  · exact .change f rfl
  · exact .change f rfl
  · exact .none f s

theorem followHandover_act (f : FanNo) (eff : Nat) (s : State) : FanAct f s (followHandover f eff s) := by
  have hstop : FanAct f s (stopFan f s) := .event_move f _ _ _ _ _ s
  have hreverse : FanAct f s (reverseFan f s) := .event_move f _ _ _ _ _ s
  have hnone : FanAct f s (s, []) := .none f s
  cases h : (s.fan f).state with
  | none => simpa only [followHandover, h] using hnone
  | some st =>
    cases st with
    | stopped => simpa only [followHandover, h] using startAttempt_act f s
    | waitingBudget =>
      simp only [followHandover, h]
      split_ifs
      · exact hstop
      · exact budgetAttempt_act f s
      · exact hnone
    | starting | changing | running =>
      simp only [followHandover, h]
      split_ifs
      · exact hstop
      · exact hreverse
      · exact changeStage_act f s
      · exact hnone
    | coasting | tripped | inhibited => simpa only [followHandover, h] using hnone

theorem receiveHandover_act (f : FanNo) (s : State) : FanAct f s (receiveHandover f s) :=
  .after_change rfl (followHandover_act f _ _)

theorem grantStart_act (f : FanNo) (s : State) : FanAct f s (grantStart f s) := by
  unfold grantStart
  split
  · exact .move f _ s
  · exact .none f s

/-- The hand-overs that are acts of a fan. -/
def Work.actsOn (w : Work) : Option FanNo :=
  match w with
  | .startAttempt f | .handFan f | .handRegime f | .grant f => some f
  | _ => none

/-- What a hand-over to a fan does, said once for the four of them. -/
theorem perform_act {w : Work} {f : FanNo} (h : w.actsOn = some f) (s : State) : FanAct f s (perform w s) := by
  cases w
  case startAttempt => obtain rfl := Option.some.inj h; exact startAttempt_act _ s
  case handRegime => obtain rfl := Option.some.inj h; exact receiveHandover_act _ s
  case grant => obtain rfl := Option.some.inj h; exact grantStart_act _ s
  case handFan =>
    obtain rfl := Option.some.inj h
    simp only [perform]
    split_ifs
    · exact .none _ s
    · exact receiveHandover_act _ s
  all_goals exact nomatch h

/-! ### The bound (assumption 6) -/

/-- The weight of a list of hand-overs. -/
def weightOf (ws : List Work) : Nat := (ws.map (·.weight)).sum

@[simp] theorem weightOf_nil : weightOf [] = 0 := rfl

@[simp] theorem weightOf_cons (w : Work) (ws : List Work) : weightOf (w :: ws) = w.weight + weightOf ws := rfl

@[simp] theorem weightOf_append (ws vs : List Work) : weightOf (ws ++ vs) = weightOf ws + weightOf vs := by
  simp [weightOf]

theorem Work.weight_pos (w : Work) : 1 ≤ w.weight := by
  cases w with
  | fanMoved f b a =>
    rw [Work.weight]
    split <;> decide
  | _ => simp [Work.weight]

/-- A change inside the operating states weighs little: the RAU is not asked to allocate anew. -/
theorem weight_fanMoved {f : FanNo} {a b : Option FanState} (h : fixedState b = fixedState a) :
    (Work.fanMoved f a b).weight = 3 := by
  have havailable : ∀ x, availableState x = (fixedState x == some .stopped) := by
    intro x
    rcases x with - | x
    · rfl
    · cases x <;> rfl
  have hsome : ∀ x, x.isSome = (fixedState x).isSome := by
    intro x
    rcases x with - | x
    · rfl
    · cases x <;> rfl
  rw [Work.weight, havailable, havailable, hsome a, hsome b, h]
  simp

theorem FanAct.weight {f : FanNo} {s : State} {e : Effect} (h : FanAct f s e) (hfixed : HandedOn s e.1) : weightOf e.2 ≤ 3 := by
  rcases h.works with ⟨hnone, -⟩ | hmoved
  · rw [hnone]
    exact Nat.zero_le 3
  · have hstate : fixedState (e.1.fan f).state = fixedState (s.fan f).state := (congrArg Fan.state (hfixed.fan f) :)
    rw [hmoved, weightOf_cons, weight_fanMoved hstate]
    rfl

theorem potential_of_cal {s t : State} (h : t.cal = s.cal) : t.cal.potential = s.cal.potential := by rw [h]

theorem rauHears_weight (a b : Option FanState) : weightOf (rauHears a b) ≤
    if availableState a != availableState b || a.isSome != b.isSome then 36 else 0 := by
  unfold rauHears
  split_ifs <;> simp [Work.weight]

/-- QUIET LOST pays for what follows it out of its entry. -/
theorem quietLost_weight (s : State) :
    weightOf (quietLost s).2 + (quietLost s).1.cal.potential ≤ s.cal.potential := by
  unfold quietLost
  split
  · simp
  · next e hhead =>
    by_cases hair : s.cal.phase.airOn = true
    · rw [if_pos hair]
      obtain ⟨rest, hqueue⟩ : ∃ rest, s.cal.queue = e :: rest := List.head?_eq_some_iff.mp hhead
      have hnone : CalPhase.airOn .none = false := rfl
      cases hretried : e.retried <;>
        simp [endCalibration, dropHead, closeCalibration, abortEntry, Cal.potential, Work.weight, CalEntry.potential,
          hqueue, hretried, hair, hnone] <;> omega
    · rw [if_neg hair]
      exact (Nat.zero_add _).le

theorem calHears_weight (a b : Option FanState) (s : State) :
    weightOf (calHears a b s).2 + (calHears a b s).1.cal.potential ≤ 1 + s.cal.potential := by
  unfold calHears
  split
  · have := quietLost_weight s
    omega
  · split_ifs <;> simp [Work.weight]

theorem fanMoved_weight (f : FanNo) (a b : Option FanState) (s : State) :
    weightOf (fanMoved a b s).2 + (fanMoved a b s).1.cal.potential + 1 ≤ (Work.fanMoved f a b).weight + s.cal.potential := by
  have hrau := rauHears_weight a b
  have hcal : ∀ u : State, u.cal = s.cal →
      weightOf (calHears a b u).2 + (calHears a b u).1.cal.potential ≤ 1 + s.cal.potential := fun u hu => by
    rw [← potential_of_cal hu]
    exact calHears_weight a b u
  have hloaded := hcal (if loadsCountdown a b then loadCountdowns s else s) (by split <;> rfl)
  simp only [fanMoved, weightOf_append, Work.weight]
  split_ifs at hrau ⊢ hloaded <;> omega

theorem nextHead_weight (s : State) :
    weightOf (nextHead s).2 + (nextHead s).1.cal.potential ≤ 1 + s.cal.potential := by
  unfold nextHead
  split
  · simp
  · split_ifs with hphase
    · simp [Work.weight, Cal.potential, hphase, CalPhase.airOn]
    · simp

theorem quietTest_weight (s : State) : weightOf (quietTest s).2 + (quietTest s).1.cal.potential ≤ s.cal.potential := by
  have hcontributes : ∀ c, weightOf (contributes s c) ≤ 36 := fun c => by
    unfold contributes
    split_ifs <;> simp [Work.weight]
  unfold quietTest
  split
  · simp
  · next e _ =>
    split_ifs with hquiet
    · have := hcontributes e.channel
      simp only [enterPurging, Cal.potential, hquiet.1, CalPhase.airOn]
      simp
      omega
    · simp

theorem reevaluate_weight (s : State) : weightOf (reevaluate s).2 ≤ 34 := by
  have happlied : ∀ d u, weightOf (applied d u).2 = 34 := fun _ _ => rfl
  have hafter : weightOf afterAllocation = 18 := rfl
  simp only [reevaluate]
  split_ifs <;> simp [happlied, hafter]

/-- Every hand-over weighs more than those that it asks for, with what the calibration queue pays. -/
theorem perform_weight (w : Work) (s : State) :
    weightOf (perform w s).2 + (perform w s).1.cal.potential + 1 ≤ w.weight + s.cal.potential := by
  have hact : ∀ f, w.actsOn = some f → w.weight = 4 →
      weightOf (perform w s).2 + (perform w s).1.cal.potential + 1 ≤ w.weight + s.cal.potential := fun f hf hw => by
    have hlight := (perform_act hf s).weight (perform_handedOn w s)
    have hcal : (perform w s).1.cal = s.cal := (perform_act hf s).alters.1 .cal (by decide)
    rw [hw, hcal]
    omega
  cases w with
  | startAttempt f | handFan f | handRegime f | grant f => exact hact f rfl rfl
  | fanMoved f a b => exact fanMoved_weight f a b s
  | nextHead =>
    have := nextHead_weight s
    simp only [perform, Work.weight]
    omega
  | quietTest =>
    have := quietTest_weight s
    simp only [perform, Work.weight]
    omega
  | reevaluate =>
    have := reevaluate_weight s
    have hcal : (reevaluate s).1.cal = s.cal := (reevaluate_alters s).1 .cal (by decide)
    simp only [perform, Work.weight, hcal]
    omega
  | contribution c =>
    have hcal : (receiveContribution c s).1.cal = s.cal := (takeContribution_alters c s).1 .cal (by decide)
    have hwork : weightOf (receiveContribution c s).2 ≤ 35 := by
      unfold receiveContribution
      split_ifs <;> simp [Work.weight]
    simp only [perform, hcal]
    exact Nat.add_le_add_right (Nat.add_le_add_right hwork _) 1 |>.trans (by simp only [Work.weight]; omega)
  | calEnded c =>
    have hcal : (receiveCalEnd c s).1.cal = s.cal := (receiveCalEnd_alters c s).1 .cal (by decide)
    have hwork : weightOf (receiveCalEnd c s).2 ≤ 35 := by
      unfold receiveCalEnd
      split_ifs <;> simp [Work.weight]
    simp only [perform, hcal]
    exact Nat.add_le_add_right (Nat.add_le_add_right hwork _) 1 |>.trans (by simp only [Work.weight]; omega)
  | availability =>
    simp only [perform, Work.weight]
    split_ifs <;> simp [Work.weight]
  | reform =>
    have hcal : (formEffective s).cal = s.cal := rfl
    have hwork : weightOf (handAll ++ [.demandShort]) = 17 := rfl
    simp only [perform, hcal, hwork, Work.weight]
    omega
  | giveRole f =>
    have hcal : (giveRole f s).1.cal = s.cal := (giveRole_alters f s).1 .cal (by decide)
    have hwork : weightOf (giveRole f s).2 ≤ 5 := by
      unfold giveRole
      split_ifs <;> simp [Work.weight]
    simp only [perform, hcal]
    exact Nat.add_le_add_right (Nat.add_le_add_right hwork _) 1 |>.trans (by simp only [Work.weight]; omega)
  | demandShort =>
    have hcal : (evaluateShort s).cal = s.cal := (evaluateShort_alters s).1 .cal (by decide)
    simp only [perform, Work.weight, hcal, weightOf_nil]
    omega
  | grantDue =>
    simp only [perform, Work.weight]
    split_ifs <;> simp [Work.weight]

/-- Settles O51: with every hand-over carried out or postponed the bound falls. -/
theorem handOversComeToAnEnd : Obligations.HandOversComeToAnEnd := by
  have hends : ∀ (n : Nat) (ws : List Work) (s : State), weightOf ws + s.cal.potential ≤ n → (cascade n ws s).2 = [] := by
    intro n
    induction n with
    | zero =>
      intro ws s hn
      cases ws with
      | nil => rfl
      | cons w rest =>
        have := w.weight_pos
        simp only [weightOf_cons] at hn
        omega
    | succ n ih =>
      intro ws s hn
      cases ws with
      | nil => rfl
      | cons w rest =>
        have hpos := w.weight_pos
        have hless := perform_weight w s
        simp only [weightOf_cons] at hn hless
        rw [cascade]
        split
        · exact ih rest s (by omega)
        · exact ih _ _ (by simp only [weightOf_append]; omega)
  exact fun ws s => hends _ ws s (Nat.le_refl _)

/-! ### Invariants with hand-overs still to come -/

/-- What holds while hand-overs wait, each carrying it on, holds at the end of the hand-overs. -/
theorem run_induction {J : List Work → State → Prop} (hpostponed : ∀ rest s, J (.demandShort :: rest) s → J rest s)
    (hperform : ∀ w rest s, J (w :: rest) s → J ((perform w s).2 ++ rest) (perform w s).1) {ws : List Work} {s : State}
    (h : J ws s) : J [] (run ws s) := by
  have hcascade : ∀ (n : Nat) (ws : List Work) (s : State), J ws s → J (cascade n ws s).2 (cascade n ws s).1 := by
    intro n
    induction n with
    | zero => intro ws s hj; cases ws <;> exact hj
    | succ n ih =>
      intro ws s hj
      cases ws with
      | nil => exact hj
      | cons w rest =>
        rw [cascade]
        split
        · next hlater =>
          have hw : w = .demandShort := by
            rw [Work.postponed, Bool.and_eq_true, beq_iff_eq] at hlater
            exact hlater.1
          exact ih rest s (hpostponed rest s (hw ▸ hj))
        · exact ih _ _ (hperform w rest s hj)
  have hall := hcascade (cascadeFuel ws s) ws s h
  rwa [handOversComeToAnEnd ws s] at hall

end Sys2Proof.Machine

end

/-! PROOFS. The visits and passes of the scan (chapter 3): where a visit begun at an entry leads, and where the end of a visit leads. -/

section

namespace Sys2Proof.Machine

/-! ### One step of the visits -/

section

variable {s : State} {k : Scan} {c : ChanNo}

theorem beginVisits_settles (hc : k.visited = some c) (hstate : (s.ch c).state ≠ .disabled) (m : Nat) :
    beginVisits (m + 1) { s with scn := k } = { s with scn := k.toSettling (s.ch c).cfg } := by
  rw [beginVisits]
  dsimp only
  rw [hc]
  exact if_pos hstate

/-- What a skipped visit, or one that has ended, leads to, with this many further visits allowed (R42, R43). -/
def afterVisits (m : Nat) (s : State) (k : Scan) : State :=
  if k.afterVisit.2 then beginVisits m { s with scn := k.afterVisit.1 } else { s with scn := k.afterVisit.1 }

theorem beginVisits_skips (hc : k.visited = some c) (hstate : (s.ch c).state = .disabled) (m : Nat) :
    beginVisits (m + 1) { s with scn := k } = afterVisits m s k := by
  rw [beginVisits]
  dsimp only
  rw [hc]
  exact if_neg fun h => h hstate

theorem afterVisit_list (k : Scan) : k.afterVisit.1.list = k.list := by
  rw [Scan.afterVisit]
  split
  · rfl
  · split
    · rfl
    · cases k.mode
      · rfl
      · dsimp only
        split_ifs <;> rfl

theorem endVisit_afterVisits (s : State) : endVisit s = afterVisits (visitFuel s) s s.scn := by
  have hfuel : visitFuel { s with scn := s.scn.afterVisit.1 } = visitFuel s := by
    simp only [visitFuel, afterVisit_list]
  rw [endVisit, afterVisits, beginVisit, hfuel]

end

/-! ### The visits of one pass -/

/-- A stop waits that the end of the visit will take up (R44). -/
abbrev Scan.stops (k : Scan) : Prop := k.stopPending = true ∧ k.mode = .continuous

/-- The scan after j skipped visits of the pass. -/
def Scan.skipped (k : Scan) (j : Nat) : Scan :=
  { k with visits := k.visits + j, current := (k.current + j) % k.list.length }

theorem next_entry {a n : Nat} (ha : a < n) : (if a + 1 < n then a + 1 else 0) = (a + 1) % n := by
  split
  · next h => exact (Nat.mod_eq_of_lt h).symm
  · next h =>
    obtain rfl : n = a + 1 := by omega
    exact (Nat.mod_self _).symm

theorem skipped_succ {k : Scan} {j : Nat} :
    ((k.current + j) % k.list.length + 1) % k.list.length = (k.current + (j + 1)) % k.list.length := by
  rw [Nat.mod_add_mod]
  rfl

theorem afterVisit_stops {k : Scan} (hstop : k.stops) :
    k.afterVisit = ({ k with visits := k.visits + 1, state := .idle, stopPending := false }, false) := by
  rw [Scan.afterVisit, if_pos hstop]
  rfl

/-- The end of a visit inside the pass goes on to the next entry. -/
theorem afterVisit_goesOn {k : Scan} (hstop : ¬k.stops) (hvisits : k.visits + 1 < k.list.length)
    (hcurrent : k.current < k.list.length) :
    k.afterVisit = ({ k with visits := k.visits + 1, current := (k.current + 1) % k.list.length }, true) := by
  rw [Scan.afterVisit, if_neg hstop, if_pos hvisits, next_entry hcurrent]

section

variable {s : State} {k : Scan} (hstop : ¬k.stops) (hcurrent : k.current < k.list.length)

include hstop hcurrent in
theorem beginVisits_skipped {j : Nat} (hvisits : k.visits + j < k.list.length)
    (hdisabled : ∀ i < j, ∀ d : ChanNo, k.list[(k.current + i) % k.list.length]? = some d → (s.ch d).state = .disabled) (m : Nat) :
    beginVisits (m + j) { s with scn := k } = beginVisits m { s with scn := k.skipped j } := by
  induction j generalizing m with
  | zero =>
    have hk : k.skipped 0 = k := by
      rw [Scan.skipped, Nat.add_zero, Nat.add_zero, Nat.mod_eq_of_lt hcurrent]
    rw [hk]
    rfl
  | succ j ih =>
    have hlength : 0 < k.list.length := by omega
    have hentry : (k.current + j) % k.list.length < k.list.length := Nat.mod_lt _ hlength
    have hvisited : (k.skipped j).visited = some (k.list[(k.current + j) % k.list.length]) :=
      List.getElem?_eq_getElem hentry
    rw [show m + (j + 1) = (m + 1) + j by omega, ih (by omega) (fun i hi => hdisabled i (by omega)) (m + 1),
      beginVisits_skips hvisited (hdisabled j (by omega) _ (List.getElem?_eq_getElem hentry)), afterVisits,
      afterVisit_goesOn (k := k.skipped j) hstop (by simpa [Scan.skipped, Nat.add_assoc] using hvisits) hentry]
    simp only [Scan.skipped, skipped_succ, Nat.add_assoc, if_true]

include hstop hcurrent in
/-- From an entry the visits lead to the first entry of an enabled channel, or to the end of the pass (R42). -/
theorem beginVisits_visitsFrom {m : Nat} {atEnd : Scan → Prop} (hvisits : k.visits < k.list.length)
    (hfuel : k.list.length ≤ k.visits + m)
    (hend : (∀ i < k.list.length - k.visits, ∀ d : ChanNo, k.list[(k.current + i) % k.list.length]? = some d →
        (s.ch d).state = .disabled) →
      (beginVisits m { s with scn := k }).scn =
        (afterVisits (m - (k.list.length - k.visits)) s (k.skipped (k.list.length - k.visits - 1))).scn →
      atEnd { k with
        visits := k.list.length, current := (k.current + (k.list.length - k.visits - 1)) % k.list.length }) :
    VisitsFrom s k (beginVisits m { s with scn := k }).scn atEnd := by
  refine ⟨fun j c hj hc hstate hdisabled => ?_, fun hdisabled => hend hdisabled ?_⟩
  · obtain ⟨r, rfl⟩ : ∃ r, m = (r + 1) + j := ⟨m - j - 1, by omega⟩
    rw [beginVisits_skipped hstop hcurrent hj hdisabled, beginVisits_settles (k := k.skipped j) hc hstate]
    rfl
  · have hlength : 0 < k.list.length := by omega
    have hentry : (k.current + (k.list.length - k.visits - 1)) % k.list.length < k.list.length := Nat.mod_lt _ hlength
    obtain ⟨r, rfl⟩ : ∃ r, m = (r + 1) + (k.list.length - k.visits - 1) := ⟨m - (k.list.length - k.visits), by omega⟩
    rw [beginVisits_skipped hstop hcurrent (by omega) (fun i hi => hdisabled i (by omega)),
      beginVisits_skips (k := k.skipped (k.list.length - k.visits - 1)) (List.getElem?_eq_getElem hentry)
        (hdisabled _ (by omega) _ (List.getElem?_eq_getElem hentry))]
    congr 2
    omega

end

/-! ### The end of a pass -/

theorem afterVisit_single {k : Scan} (hlast : k.list.length ≤ k.visits + 1) (hmode : k.mode = .single) :
    k.afterVisit = ({ k with visits := k.visits + 1, state := .idle, stopPending := false }, false) := by
  rw [Scan.afterVisit, if_neg (fun h => by rw [hmode] at h; exact nomatch h.2), if_neg (by simpa using hlast), hmode]
  rfl

section

variable {k : Scan} (hstop : ¬k.stops) (hlast : k.list.length ≤ k.visits + 1) (hmode : k.mode = .continuous)

include hstop hlast hmode

theorem afterVisit_pauses (hpause : 0 < k.pause) : k.afterVisit =
    ({ k with visits := k.visits + 1, state := .pausing, ticks := 0, due := 100 * k.pause }, false) := by
  rw [Scan.afterVisit, if_neg hstop, if_neg (by simpa using hlast), hmode]
  exact if_pos hpause

theorem afterVisit_pausesShort (hpause : k.pause = 0) (hbegun : k.begun = false) : k.afterVisit =
    ({ k with visits := k.visits + 1, state := .pausing, ticks := 0, due := 100 }, false) := by
  rw [Scan.afterVisit, if_neg hstop, if_neg (by simpa using hlast), hmode]
  dsimp only
  rw [if_neg (by omega), hbegun]
  rfl

theorem afterVisit_nextPass (hpause : k.pause = 0) (hbegun : k.begun = true) : k.afterVisit =
    ({ k with current := k.start, visits := 0, begun := false }, true) := by
  rw [Scan.afterVisit, if_neg hstop, if_neg (by simpa using hlast), hmode]
  dsimp only
  rw [if_neg (by omega), hbegun]
  rfl

end

/-- A pass that follows at once on another, with a pause of 0: skipped whole, it pauses (assumption 15). -/
theorem secondPass_visitsFrom {s : State} {k : Scan} {m : Nat} (hstop : ¬k.stops) (hcurrent : k.current < k.list.length)
    (hvisits : k.visits = 0) (hmode : k.mode = .continuous) (hpause : k.pause = 0) (hbegun : k.begun = false)
    (hfuel : k.list.length ≤ m) : VisitsFrom s k (beginVisits m { s with scn := k }).scn
      fun e => (beginVisits m { s with scn := k }).scn = { e with state := .pausing, ticks := 0, due := 100 } := by
  refine beginVisits_visitsFrom hstop hcurrent (by omega) (by omega) fun _ hend => ?_
  have hlast : (k.skipped (k.list.length - k.visits - 1)).visits + 1 = k.list.length := by
    simp only [Scan.skipped]
    omega
  rw [hend, afterVisits, afterVisit_pausesShort (k := k.skipped (k.list.length - k.visits - 1)) hstop hlast.ge hmode hpause
    hbegun, hlast]
  rfl

/-- The end of a pass (R43). -/
theorem afterVisits_passEnded {s : State} {k e : Scan} {m : Nat} (hstop : ¬k.stops) (hlast : k.list.length ≤ k.visits + 1)
    (hfuel : k.list.length ≤ m) (he : e = { k with visits := k.visits + 1 }) : PassEnded s e (afterVisits m s k).scn := by
  subst he
  refine ⟨fun hmode => ?_, fun hmode hpause => ?_, fun hmode hpause hbegun => ?_, fun hmode hpause hbegun hstart => ?_⟩
  · rw [afterVisits, afterVisit_single hlast hmode]
    rfl
  · rw [afterVisits, afterVisit_pauses hstop hlast hmode hpause]
    rfl
  · rw [afterVisits, afterVisit_pausesShort hstop hlast hmode hpause hbegun]
    rfl
  · rw [afterVisits, afterVisit_nextPass hstop hlast hmode hpause hbegun]
    exact secondPass_visitsFrom (k := { k with current := k.start, visits := 0, begun := false }) hstop hstart rfl hmode hpause
      rfl hfuel

/-! ### The end of a visit -/

/-- A visit begun at an entry of a pass, with its passes (R42, R43). -/
theorem beginVisits_pass {s : State} {k : Scan} {m : Nat} (hstop : ¬k.stops) (hcurrent : k.current < k.list.length)
    (hvisits : k.visits < k.list.length) (hfuel : 2 * k.list.length ≤ k.visits + m) :
    VisitsFrom s k (beginVisits m { s with scn := k }).scn fun e => PassEnded s e (beginVisits m { s with scn := k }).scn := by
  refine beginVisits_visitsFrom hstop hcurrent hvisits (by omega) fun _ hend => ?_
  rw [hend]
  refine afterVisits_passEnded hstop (k := k.skipped (k.list.length - k.visits - 1)) ?_ ?_ ?_
  · simp only [Scan.skipped]
    omega
  · simp only [Scan.skipped]
    omega
  · simp only [Scan.skipped, Scan.mk.injEq, true_and, and_true]
    omega

/-- What the end of a visit leads to (R42, R43, R44). -/
theorem endVisit_visitEnded {s : State} (hcurrent : s.scn.current < s.scn.list.length) : VisitEnded s s.scn (endVisit s).scn := by
  rw [endVisit_afterVisits]
  refine ⟨fun hpending hmode => ?_, fun hfree => ?_⟩
  · rw [afterVisits, afterVisit_stops ⟨hpending, hmode⟩]
    rfl
  · have hstop : ¬s.scn.stops := fun h => by
      rcases hfree with hp | hm
      · exact Bool.false_ne_true (hp.symm.trans h.1)
      · exact nomatch hm.symm.trans h.2
    refine ⟨fun hvisits => ?_, fun hlast => ?_⟩
    · rw [afterVisits, afterVisit_goesOn hstop hvisits hcurrent]
      refine beginVisits_pass hstop (Nat.mod_lt _ (by omega)) hvisits ?_
      simp only [visitFuel]
      omega
    · refine afterVisits_passEnded hstop hlast ?_ rfl
      simp only [visitFuel]
      omega

/-! ### Visits of an enabled channel -/

/-- The visit of an enabled channel that the scan is in, or none. -/
abbrev Scan.settled (s : State) (r : Scan) : Prop :=
  r.state = .idle ∨ r.state = .pausing ∨
    (r.state = .settling ∧ ∃ c : ChanNo, r.visited = some c ∧ (s.ch c).state ≠ .disabled)

/-- The visits that a scan needs at most, to come to an enabled channel, to IDLE or to PAUSING. -/
def Scan.need (k : Scan) : Nat := (k.list.length - k.visits) + (if k.begun then k.list.length + 1 else 0) + 1

/-- Where a skipped or ended visit leads: to IDLE, to PAUSING, or to a further visit that needs less. -/
theorem afterVisit_cases (k : Scan) :
    (k.afterVisit.2 = false ∧ (k.afterVisit.1.state = .idle ∨ k.afterVisit.1.state = .pausing)) ∨
      (k.afterVisit.2 = true ∧ k.afterVisit.1.need < k.need) := by
  by_cases hstop : k.stops
  · rw [afterVisit_stops hstop]
    exact .inl ⟨rfl, .inl rfl⟩
  · by_cases hvisits : k.visits + 1 < k.list.length
    · rw [Scan.afterVisit, if_neg hstop, if_pos hvisits]
      refine .inr ⟨rfl, ?_⟩
      simp only [Scan.need]
      omega
    · have hlast : k.list.length ≤ k.visits + 1 := by omega
      cases hmode : k.mode with
      | single =>
        rw [afterVisit_single hlast hmode]
        exact .inl ⟨rfl, .inl rfl⟩
      | continuous =>
        by_cases hpause : 0 < k.pause
        · rw [afterVisit_pauses hstop hlast hmode hpause]
          exact .inl ⟨rfl, .inr rfl⟩
        · cases hbegun : k.begun with
          | false =>
            rw [afterVisit_pausesShort hstop hlast hmode (by omega) hbegun]
            exact .inl ⟨rfl, .inr rfl⟩
          | true =>
            rw [afterVisit_nextPass hstop hlast hmode (by omega) hbegun]
            refine .inr ⟨rfl, ?_⟩
            simp only [Scan.need, hbegun, if_true, Bool.false_eq_true, if_false]
            omega

theorem beginVisits_settled (m : Nat) (s : State) (k : Scan) (h : k.need ≤ m) :
    (beginVisits m { s with scn := k }).scn.settled s := by
  induction m generalizing k with
  | zero => exact absurd h (by simp [Scan.need])
  | succ m ih =>
    cases hc : k.visited with
    | none =>
      rw [beginVisits]
      dsimp only
      rw [hc]
      exact .inl rfl
    | some c =>
      by_cases hstate : (s.ch c).state = .disabled
      · rw [beginVisits_skips hc hstate, afterVisits]
        rcases afterVisit_cases k with ⟨hends, hstands⟩ | ⟨hgoes, hneed⟩
        · rw [hends]
          exact hstands.imp_right .inl
        · rw [hgoes]
          exact ih _ (by omega)
      · rw [beginVisits_settles hc hstate]
        exact .inr (.inr ⟨rfl, c, hc, hstate⟩)

theorem need_le (k : Scan) : k.need ≤ 2 * k.list.length + 2 := by
  unfold Scan.need
  split <;> omega

theorem beginVisit_settled (s : State) : (beginVisit s).scn.settled s := beginVisits_settled _ s s.scn (need_le _)

theorem endVisit_settled (s : State) : (endVisit s).scn.settled s := by
  unfold endVisit
  rcases afterVisit_cases s.scn with ⟨hends, hstands⟩ | ⟨hgoes, -⟩
  · rw [hends]
    exact hstands.imp_right .inl
  · rw [hgoes]
    exact beginVisit_settled _

/-! ### SCAN START, the settle time and the pass pause -/

/-- What a scan with the rest of the state as it is begins depends on the channels' states and settings alone. -/
theorem visitsFrom_congr {s t : State} (h : ∀ c : ChanNo, (t.ch c).state = (s.ch c).state ∧ (t.ch c).cfg = (s.ch c).cfg)
    {k r : Scan} {atEnd : Scan → Prop} (hv : VisitsFrom t k r atEnd) : VisitsFrom s k r atEnd := by
  simpa only [VisitsFrom, h] using hv

theorem passEnded_congr {s t : State} (h : ∀ c : ChanNo, (t.ch c).state = (s.ch c).state ∧ (t.ch c).cfg = (s.ch c).cfg)
    {k r : Scan} (hv : PassEnded t k r) : PassEnded s k r := by
  simpa only [PassEnded, VisitsFrom, h] using hv

theorem visitEnded_congr {s t : State} (h : ∀ c : ChanNo, (t.ch c).state = (s.ch c).state ∧ (t.ch c).cfg = (s.ch c).cfg)
    {k r : Scan} (hv : VisitEnded t k r) : VisitEnded s k r := by
  simpa only [VisitEnded, PassEnded, VisitsFrom, h] using hv

theorem emptyWindows_ch (s : State) (c : ChanNo) : (emptyWindows s).ch c = { s.ch c with window := [] } :=
  each_ch (fun x => { x with window := [] }) s c

theorem startScan_eq (entry : Nat) (s : State) : startScan entry s = { s with
    channels := each (fun x : Channel => { x with window := [] }) s.channels, scn := (startScan entry s).scn } := by
  rw [startScan, beginVisit, beginVisits_eq]
  rfl

theorem exec_scanStart {s : State} (hready : s.ready) (e : Byte) :
    exec (.scanStart .addressed [e]) s = .next (beginService 0x18 (serveScanStart [e] (contact s))) :=
  (exec_served hready rfl rfl rfl).trans rfl

theorem serveScanStart_accepted {s : State} {e : Byte} (he : e.toNat ≤ 15) (hidle : s.scn.state = .idle)
    (hlength : e.toNat < s.scn.list.length) :
    serveScanStart [e] (contact s) = answer false [] (startScan e.toNat (contact s)) := by
  have hentry : u8 [e] 0 = e.toNat := rfl
  simp only [serveScanStart, hentry, contact_scn]
  rw [if_neg (by omega), if_neg (fun h => h hidle), if_neg (by omega)]

/-- SCAN START of an entry of the list, in IDLE: the windows are emptied and the first pass begins (R41). -/
theorem exec_scanStart_accepted {s : State} (hready : s.ready) {e : Byte} (he : e.toNat ≤ 15) (hidle : s.scn.state = .idle)
    (hlength : e.toNat < s.scn.list.length) : exec (.scanStart .addressed [e]) s = .next
      ({ contact s with
        channels := each (fun x : Channel => { x with window := [] }) s.channels
        scn := (startScan e.toNat (contact s)).scn }.replies 0x18 .done []) := by
  rw [exec_scanStart hready, serveScanStart_accepted he hidle hlength, beginService_answer, startScan_eq, contact_channels]
  rfl

theorem startScan_visits {s : State} {entry : Nat} (hlength : entry < s.scn.list.length) :
    VisitsFrom s { s.scn with start := entry, current := entry, visits := 0, stopPending := false, begun := false }
      (startScan entry s).scn fun k => PassEnded s k (startScan entry s).scn := by
  have hpass := beginVisits_pass (s := emptyWindows s) (k := s.scn.started entry) (m := 2 * s.scn.list.length + 2)
    (fun h => Bool.false_ne_true h.1) hlength (Nat.lt_of_le_of_lt (Nat.zero_le _) hlength)
    (by simp only [Scan.started]; omega)
  have hkept : ∀ c : ChanNo, ((emptyWindows s).ch c).state = (s.ch c).state ∧ ((emptyWindows s).ch c).cfg = (s.ch c).cfg :=
    fun c => by rw [emptyWindows_ch]; exact ⟨rfl, rfl⟩
  have hvisits := visitsFrom_congr hkept hpass
  exact ⟨hvisits.1, fun hdisabled => passEnded_congr hkept (hvisits.2 hdisabled)⟩

theorem pauseEnded_due {s : State} (hstate : s.scn.state = .pausing) (hdue : s.scn.due ≤ s.scn.ticks) :
    pauseEnded s = { s with scn := (beginVisit { s with scn := s.scn.toNextPass }).scn } := by
  have hover : s.pauseOver = true := by simp [State.pauseOver, hstate, hdue]
  rw [pauseEnded, if_pos hover, beginVisit, beginVisits_eq]

/-- Settles O20: a first visit of an enabled entry by one step, and the others by the passes. -/
theorem scanVisitsBegin : Obligations.ScanVisitsBegin := by
  intro s
  refine ⟨fun e c hready he hidle hc hstate => ?_, fun e hready he hidle hlength => ?_, fun hstate hdue => ?_,
    fun c hstate hdue hc hch => ?_, fun e hready he hidle hlength => ?_, fun hstate hdue hstart hfree => ?_⟩
  · have hlength : e.toNat < s.scn.list.length := (List.getElem?_eq_some_iff.mp hc).1
    have hch : (({ emptyWindows (contact s) with scn := (contact s).scn.started e.toNat } : State).ch c) =
        { s.ch c with window := [] } := by
      rw [← contact_ch s c]
      exact emptyWindows_ch (contact s) c
    have hvisit : startScan e.toNat (contact s) = { emptyWindows (contact s) with
        scn := ((contact s).scn.started e.toNat).toSettling { s.ch c with window := [] }.cfg } := by
      have hsettles := beginVisits_settles (s := emptyWindows (contact s)) (k := (contact s).scn.started e.toNat) (c := c)
        (by rw [contact_scn]; exact hc) (by rw [emptyWindows_ch, contact_ch]; exact hstate) (2 * (contact s).scn.list.length + 1)
      rw [emptyWindows_ch, contact_ch] at hsettles
      rw [← hsettles, startScan, beginVisit]
      rfl
    rw [exec_scanStart_accepted hready he hidle hlength, hvisit, contact_scn]
    rfl
  · have hentry : u8 [e] 0 = e.toNat := rfl
    rw [exec_scanStart hready]
    simp only [serveScanStart, hentry, contact_scn]
    rw [if_neg (by omega), if_neg (fun h => h hidle), if_pos hlength, beginService_refuse]
  · have hover : s.settleOver = true := by simp [State.settleOver, hstate, hdue]
    change Host.Outcome.next (settled s) = _
    rw [settled, if_pos hover]
    rfl
  · change Host.Outcome.next (pauseEnded s) = _
    have hsettles := beginVisits_settles (s := s) (k := s.scn.toNextPass) (c := c) hc hch (2 * s.scn.list.length + 1)
    rw [pauseEnded_due hstate hdue, beginVisit]
    exact congrArg (fun u : State => Host.Outcome.next { s with scn := u.scn }) hsettles
  · refine ⟨_, exec_scanStart_accepted hready he hidle hlength, ?_⟩
    have hvisits := startScan_visits (s := contact s) (entry := e.toNat) (by rwa [contact_scn])
    have hkept : ∀ c : ChanNo, ((contact s).ch c).state = (s.ch c).state ∧ ((contact s).ch c).cfg = (s.ch c).cfg :=
      fun c => by rw [contact_ch]; exact ⟨rfl, rfl⟩
    rw [contact_scn] at hvisits
    obtain ⟨hfirst, hend⟩ := visitsFrom_congr hkept hvisits
    exact ⟨hfirst, fun hdisabled => passEnded_congr hkept (hend hdisabled)⟩
  · refine ⟨_, congrArg Host.Outcome.next (pauseEnded_due hstate hdue), ?_⟩
    have hstop : ¬s.scn.toNextPass.stops := fun h => by
      rcases hfree with hp | hm
      · exact Bool.false_ne_true (hp.symm.trans h.1)
      · exact nomatch hm.symm.trans h.2
    exact beginVisits_pass (k := s.scn.toNextPass) hstop hstart (Nat.lt_of_le_of_lt (Nat.zero_le _) hstart)
      (by simp only [visitFuel, Scan.toNextPass]; omega)

end Sys2Proof.Machine

end

/-! PROOFS. The statements about a conversion's sample and about SET CHANNEL (chapter 3): the window is settled or the channel is
restarted, and a visit then ends beside it. -/

section

namespace Sys2Proof.Machine

/-! ### The end of a visit after a sample or a restart -/

theorem current_lt_of_visited {k : Scan} {c : ChanNo} (h : k.visited = some c) : k.current < k.list.length :=
  (List.getElem?_eq_some_iff.mp h).1

/-- An act that leaves the scan, and the visit's end after it. -/
theorem visitEnded_after {s v : State} {c : ChanNo} (hscn : v.scn = s.scn) (hvisited : s.scn.visited = some c) :
    VisitEnded (endVisit v) s.scn (endVisit v).scn := by
  have hended := endVisit_visitEnded (s := v) (by rw [hscn]; exact current_lt_of_visited hvisited)
  rw [hscn] at hended
  exact visitEnded_congr (fun c => by rw [ch_endVisit]; exact ⟨rfl, rfl⟩) hended

section

variable {code : Code} {c : ChanNo} {s : State} (hconverting : s.scn.state = .converting) (hdue : s.scn.due ≤ s.scn.ticks)
  (hvisited : s.scn.visited = some c)

include hconverting hdue hvisited

theorem exec_conversionComplete_visits : exec (.conversionComplete code) s = .next (endVisit (takeSample c code s)) := by
  have hover : s.conversionOver = true := by simp [State.conversionOver, hconverting, hdue]
  simp [exec_conversionComplete, converted, hover, sampleTaken, hvisited]

theorem conversionComplete_visitEnded :
    ∃ t, exec (.conversionComplete code) s = .next t ∧ VisitEnded t s.scn t.scn := by
  refine ⟨_, exec_conversionComplete_visits hconverting hdue hvisited, visitEnded_after (c := c) ?_ hvisited⟩
  have hsample := (sampleTaken_alters code s).1 .scn (by decide)
  rwa [sampleTaken, hvisited] at hsample

/-- A sample that leaves only its channel's record changed. -/
theorem conversionComplete_setCh {x : Channel} (hsample : takeSample c code s = s.setCh c x) :
    ∃ t, exec (.conversionComplete code) s = .next t ∧ t.ch c = x ∧ (∀ k : ChanNo, k ≠ c → t.ch k = s.ch k) ∧
      sameBut [.scn, .channels] s t := by
  refine ⟨_, (exec_conversionComplete_visits hconverting hdue hvisited).trans (by rw [hsample]), ?_, fun k hk => ?_, ?_⟩
  · rw [ch_endVisit, State.ch_setCh_same]
  · rw [ch_endVisit, State.ch_setCh_other _ _ _ _ hk]
  · exact ((sameBut_channels s _).mono (by decide)).trans ((endVisit_alters (s.setCh c x)).1.mono (by decide))

end

theorem takeSample_joins {c : ChanNo} {s : State} (hlength : (s.ch c).window.length < 3) (code : Code) :
    takeSample c code s = s.setCh c { s.ch c with window := (s.ch c).window ++ [code] } := by
  simp [takeSample, hlength]

section

variable {c : ChanNo} {s : State} {code : Code} (hlength : (s.ch c).window.length = 3)
  (hfaulty : faultyWindow (s.ch c).cfg ((s.ch c).window ++ [code]) = true)

include hlength hfaulty

/-- The fourth sample of a faulty window. -/
theorem takeSample_faulty :
    takeSample c code s = runEffect (faultyWindowDone c (s.setCh c { s.ch c with window := [] })) := by
  simp [takeSample, hlength, windowDone, hfaulty]

theorem takeSample_firstFaulty (hcount : (s.ch c).faulty = 0) :
    takeSample c code s = s.setCh c { s.ch c with window := [], faulty := 1 } := by
  simp [takeSample_faulty hlength hfaulty, faultyWindowDone, hcount]

/-- The second faulty window in a row. -/
theorem takeSample_secondFaulty (hcount : (s.ch c).faulty ≠ 0) (hstate : (s.ch c).state ≠ .sensorFault) :
    takeSample c code s = runEffect (enterSensorFault c (s.setCh c { s.ch c with window := [] })) := by
  rw [takeSample_faulty hlength hfaulty, faultyWindowDone, if_pos]
  rw [State.ch_setCh_same]
  exact ⟨Nat.one_le_iff_ne_zero.mpr hcount, hstate⟩

end

/-- Settles O21: a sample settles its window, and the visit ends beside it. -/
theorem samplesFillWindows : Obligations.SamplesFillWindows := by
  refine ⟨fun code c s hconverting hdue hvisited => conversionComplete_visitEnded hconverting hdue hvisited,
    fun code c s hconverting hdue hvisited hlength =>
      conversionComplete_setCh hconverting hdue hvisited (takeSample_joins hlength code),
    fun code c s hconverting hdue hvisited hlength hfaulty => ⟨fun hcount =>
      conversionComplete_setCh hconverting hdue hvisited (takeSample_firstFaulty hlength hfaulty hcount),
      fun hcount hstate => ?_⟩⟩
  have hsample := takeSample_secondFaulty hlength hfaulty hcount hstate
  generalize hfault : enterSensorFault c (s.setCh c { s.ch c with window := [] }) = e at hsample
  have hhanded := runEffect_handedOn e
  have hch : e.1.ch c = { s.ch c with window := [], faulty := 2, state := .sensorFault } := by
    rw [← hfault]
    simp [enterSensorFault]
  refine ⟨_, exec_conversionComplete_visits hconverting hdue hvisited, ?_, fun k hk => ?_, ?_, ?_⟩
  · rw [ch_endVisit, hsample, hhanded.ch, hch]
  · rw [ch_endVisit, hsample, hhanded.ch, ← hfault]
    simp [enterSensorFault, State.ch_setCh_other _ _ _ _ hk]
  · have hparts := (converted_alters code s).1
    have hnext := Host.Outcome.next.inj (exec_conversionComplete_visits (code := code) hconverting hdue hvisited)
    rwa [hnext] at hparts
  · rw [endVisit_evq, hsample]
    have hevq : e.1.evq = s.evq.push ⟨s.tb.clock, .channel c, .sensorFault, some (s.ch c).level,
        if (s.ch c).published then some (s.ch c).value else none, false⟩ := by
      rw [← hfault, enterSensorFault]
      simp [appendEvent]
    rw [← hevq]
    exact hhanded.2

/-! ### SET CHANNEL -/

theorem consistentChannel_contact (s : State) (c : ChanNo) (cfg : ChanConfig) :
    consistentChannel (contact s) c cfg = consistentChannel s c cfg := by
  simp only [consistentChannel, sourceOk, State.namedTemp, State.namedCross, contact_ch]

section

variable {c : ChanNo} {ts cs : Option ChanNo} {fields : List Byte} (hc : u8 fields 0 = c.val)
  (hts : optChannel (u8 fields 20) = some ts) (hcs : optChannel (u8 fields 21) = some cs)

include hc hts hcs

theorem serveSetChannel_eq (s : State) : serveSetChannel fields s =
    setChannel c (takenChannel (fields.drop 1) ts cs) (fields.drop 1) s := by
  have hindex : indexOf 10 (u8 fields 0) = some c := by rw [hc, indexOf_val]
  rw [serveSetChannel, hindex, hts, hcs]

end

/-- The state in which a restart has replaced the record and appended its entry. -/
def restarted (c : ChanNo) (cfg : ChanConfig) (s : State) : State :=
  reconfiguredEntry c (s.ch c).level (s.setCh c (restartedChannel cfg))

theorem restartChannel_fst (c : ChanNo) (cfg : ChanConfig) (s : State) : (restartChannel c cfg s).1 =
    if s.visiting c then endVisit (restarted c cfg s) else restarted c cfg s := rfl

theorem restarted_ch (c : ChanNo) (cfg : ChanConfig) (s : State) (k : ChanNo) :
    (restarted c cfg s).ch k = if k = c then restartedChannel cfg else s.ch k := by
  rw [← State.ch_setCh, restarted, reconfiguredEntry]
  split <;> rfl

theorem restarted_evq (c : ChanNo) (cfg : ChanConfig) (s : State) : (restarted c cfg s).evq =
    if 0 < (s.ch c).level then s.evq.push
      ⟨s.tb.clock, .channel c, .channelReconfigured, some (s.ch c).level, none, false⟩ else s.evq := by
  unfold restarted reconfiguredEntry
  split <;> rfl

theorem restarted_scn_cal (c : ChanNo) (cfg : ChanConfig) (s : State) :
    (restarted c cfg s).scn = s.scn ∧ (restarted c cfg s).cal = s.cal := by
  unfold restarted reconfiguredEntry
  split <;> exact ⟨rfl, rfl⟩

/-- A restart's act before its hand-overs: the record, the entry, and the queue of the calibration untouched. -/
theorem restartChannel_act (c : ChanNo) (cfg : ChanConfig) (s : State) :
    (∀ k : ChanNo, (restartChannel c cfg s).1.ch k = if k = c then restartedChannel cfg else s.ch k) ∧
      (restartChannel c cfg s).1.evq = (if 0 < (s.ch c).level then s.evq.push
        ⟨s.tb.clock, .channel c, .channelReconfigured, some (s.ch c).level, none, false⟩ else s.evq) ∧
      (restartChannel c cfg s).1.cal = s.cal := by
  rw [restartChannel_fst, ← restarted_evq c cfg, ← (restarted_scn_cal c cfg s).2]
  split
  · exact ⟨fun k => by rw [ch_endVisit, restarted_ch], endVisit_evq _, endVisit_cal _⟩
  · exact ⟨restarted_ch c cfg s, rfl, rfl⟩

theorem restartChannel_scn (c : ChanNo) (cfg : ChanConfig) (s : State) :
    (s.visiting c = false → (restartChannel c cfg s).1.scn = s.scn) ∧
      (s.visiting c = true → s.scn.visited = some c →
        VisitEnded (restartChannel c cfg s).1 s.scn (restartChannel c cfg s).1.scn) := by
  have hscn := (restarted_scn_cal c cfg s).1
  rw [restartChannel_fst]
  refine ⟨fun hvisiting => ?_, fun hvisiting hvisited => ?_⟩
  · rwa [if_neg (by simp [hvisiting])]
  · rw [if_pos hvisiting]
    exact visitEnded_after hscn hvisited

theorem calibrationHolds_contact (s : State) (c : ChanNo) :
    (contact s).calibrationHolds c = (s.cal.queued c || s.inSession c) := by
  simp [State.calibrationHolds, State.inSession]

theorem setChannel_accepted {c : ChanNo} {cfg : ChanConfig} {sent : List Byte} {s : State}
    (hheld : s.calibrationHolds c = false) (hconsistent : consistentChannel s c cfg = true) :
    setChannel c cfg sent s =
      answer (cfg.bytes != sentChannel sent cfg) (byte c.val :: cfg.bytes) (runEffect (restartChannel c cfg s)) := by
  rw [setChannel, if_neg (by simp [hheld]), if_pos hconsistent]

/-- Settles O18: the restart replaces the record, a visit ends beside it, and the rest is handed on. -/
theorem setChannelRestarts : Obligations.SetChannelRestarts := by
  intro c ts cs fields s hready hlength hc hts hcs
  have hexec : exec (.setChannel .addressed fields) s = .next (beginService 0x11
      (setChannel c (takenChannel (fields.drop 1) ts cs) (fields.drop 1) (contact s))) := by
    rw [← serveSetChannel_eq hc hts hcs]
    exact exec_served hready (i := .setChannel .addressed fields) (r := ⟨0x11, false, 42, .addressed, fields⟩) rfl rfl hlength
  refine ⟨fun hheld => ?_, fun hqueued hsession hconsistent => ?_⟩
  · rw [hexec, setChannel, calibrationHolds_contact, if_pos (by simpa using hheld), beginService_refuse]
  · generalize takenChannel (fields.drop 1) ts cs = cfg at hexec hconsistent ⊢
    rw [setChannel_accepted (by rw [calibrationHolds_contact, hqueued, hsession]; rfl)
      (by rwa [consistentChannel_contact]), beginService_answer] at hexec
    obtain ⟨hch, hevq, hcal⟩ := restartChannel_act c cfg (contact s)
    have hparts := (restartChannel_alters c cfg (contact s)).1
    have hfans : (restartChannel c cfg (contact s)).1.fans = s.fans := Eq.trans (hparts .fans (by decide)) (contact_fans s)
    have hrau : (restartChannel c cfg (contact s)).1.rau = s.rau := Eq.trans (hparts .rau (by decide)) (contact_rau s)
    have hvisiting : (contact s).visiting c = s.visiting c := by simp only [State.visiting, contact_scn]
    obtain ⟨hkept, hended⟩ := restartChannel_scn c cfg (contact s)
    rw [contact_cal] at hcal
    rw [hvisiting, contact_scn] at hkept hended
    rw [contact_ch, contact_tb] at hevq
    have hsame := ((restartChannel_alters c cfg (contact s)).runEffect (ps := .scn :: Part.reached) (by decide)).1
    generalize restartChannel c cfg (contact s) = e at hch hevq hfans hrau hcal hkept hended hsame hexec hparts
    have hhanded := runEffect_handedOn e
    refine ⟨runEffect e, hexec, ?_, fun k hk => ?_, fun f => ?_, ?_, ?_, hsame, fun hfree => ?_, fun hstate hvisited => ?_, ?_⟩
    · rw [hhanded.ch, hch, if_pos rfl]
      rfl
    · rw [hhanded.ch, hch, if_neg hk, contact_ch]
    · rw [hhanded.fan, State.fan, hfans, State.fan]
    · rw [hhanded.rau, hrau]
    · rw [hhanded.cal, hcal]
    · exact hhanded.scn.trans (hkept hfree)
    · have hvisit := hended (by simp [State.visiting, hvisited, hstate]) hvisited
      rw [hhanded.scn]
      refine visitEnded_congr (fun k => ?_) hvisit
      have hfixed := (hhanded.ch k).symm
      exact ⟨(congrArg Channel.state hfixed :), (congrArg Channel.cfg hfixed :)⟩
    · exact hevq ▸ hhanded.2

end Sys2Proof.Machine

end

/-! PROOFS. The hand-overs of a command as equations, one for each hand-over at the front: the bound of assumption 6 is spent here
once and for all. -/

section

namespace Sys2Proof.Machine

/-! ### Running hand-overs one by one -/

/-- A cascade that has come to its end does not use a larger bound. -/
theorem cascade_add {n : Nat} (k : Nat) {ws : List Work} {s : State} (h : (cascade n ws s).2 = []) :
    cascade (n + k) ws s = cascade n ws s := by
  induction n generalizing ws s with
  | zero =>
    cases ws with
    | nil => cases k <;> rfl
    | cons w rest => exact absurd h (List.cons_ne_nil w rest)
  | succ n ih =>
    cases ws with
    | nil => rw [Nat.add_right_comm]; rfl
    | cons w rest =>
      rw [Nat.add_right_comm, cascade, cascade]
      rw [cascade] at h
      split
      · next hlater => exact ih (by rwa [if_pos hlater] at h)
      · next hlater => exact ih (by rwa [if_neg hlater] at h)

theorem cascade_run {n : Nat} {ws : List Work} {s : State} (h : cascadeFuel ws s ≤ n) : (cascade n ws s).1 = run ws s := by
  obtain ⟨k, rfl⟩ := Nat.exists_eq_add_of_le h
  rw [cascade_add k (handOversComeToAnEnd ws s), run]

theorem cascadeFuel_eq (ws : List Work) (s : State) : cascadeFuel ws s = weightOf ws + s.cal.potential := rfl

/-- An evaluation of DEMAND SHORT before fans that wait for their hand-overs is left to the one after them. -/
theorem run_postponed {w : Work} {rest : List Work} (h : w.postponed rest = true) (s : State) :
    run (w :: rest) s = run rest s := by
  have hpos := w.weight_pos
  obtain ⟨n, hn⟩ : ∃ n, cascadeFuel (w :: rest) s = n + 1 :=
    Nat.exists_eq_add_one.mpr (by simp only [cascadeFuel_eq, weightOf_cons]; omega)
  rw [run, hn, cascade, if_pos h]
  refine cascade_run ?_
  simp only [cascadeFuel_eq, weightOf_cons] at hn ⊢
  omega

/-- The hand-over at the front is carried out, and those that it asks for stand before the others. -/
theorem run_cons {w : Work} {rest : List Work} (h : w.postponed rest = false) (s : State) :
    run (w :: rest) s = run ((perform w s).2 ++ rest) (perform w s).1 := by
  have hpos := w.weight_pos
  have hless := perform_weight w s
  obtain ⟨n, hn⟩ : ∃ n, cascadeFuel (w :: rest) s = n + 1 :=
    Nat.exists_eq_add_one.mpr (by simp only [cascadeFuel_eq, weightOf_cons]; omega)
  rw [run, hn, cascade, if_neg (by simp [h])]
  refine cascade_run ?_
  simp only [cascadeFuel_eq, weightOf_cons, weightOf_append] at hn ⊢
  omega

theorem postponed_of_ne {w : Work} (h : w ≠ .demandShort) (rest : List Work) : w.postponed rest = false := by
  simp [Work.postponed, h]

theorem postponed_of_handsNone (w : Work) {rest : List Work} (h : rest.any Work.handsFan = false) : w.postponed rest = false := by
  simp [Work.postponed, h]

/-- Hand-overs behind which no fan waits for its own come to their end before the others begin. -/
theorem run_append (ws : List Work) {vs : List Work} (h : vs.any Work.handsFan = false) (s : State) :
    run (ws ++ vs) s = run vs (run ws s) := by
  have hall : ∀ (n : Nat) (ws : List Work) (s : State), cascadeFuel ws s ≤ n → run (ws ++ vs) s = run vs (run ws s) := by
    intro n
    induction n with
    | zero =>
      intro ws s hn
      cases ws with
      | nil => rw [run_nil]; rfl
      | cons w rest =>
        have := w.weight_pos
        simp only [cascadeFuel_eq, weightOf_cons] at hn
        omega
    | succ n ih =>
      intro ws s hn
      cases ws with
      | nil => rw [run_nil]; rfl
      | cons w rest =>
        have hpos := w.weight_pos
        have hless := perform_weight w s
        simp only [cascadeFuel_eq, weightOf_cons] at hn
        have hsame : w.postponed (rest ++ vs) = w.postponed rest := by simp [Work.postponed, h]
        rw [List.cons_append]
        cases hlater : w.postponed rest with
        | true =>
          rw [run_postponed (hsame.trans hlater), run_postponed hlater]
          exact ih rest s (by rw [cascadeFuel_eq]; omega)
        | false =>
          rw [run_cons (hsame.trans hlater), run_cons hlater, ← List.append_assoc]
          exact ih _ _ (by simp only [cascadeFuel_eq, weightOf_append]; omega)
  exact hall _ ws s (Nat.le_refl _)

/-- One hand-over alone. -/
theorem run_singleton (w : Work) (s : State) : run [w] s = run (perform w s).2 (perform w s).1 := by
  rw [run_cons (postponed_of_handsNone w rfl), List.append_nil]

/-- Outside AUTO a contribution is all that its hand-over brings. -/
theorem run_contribution {s : State} (h : s.rau.regime ≠ .auto) (c : ChanNo) : run [.contribution c] s = takeContribution c s := by
  rw [run_singleton]
  simp [perform, receiveContribution, h]

/-- What a channel hands on outside AUTO, or without taking part in the demand. -/
theorem run_contributes {c : ChanNo} {s : State} (h : s.rau.regime ≠ .auto ∨ (s.ch c).cfg.participates = false) :
    run (contributes s c) s = if (s.ch c).cfg.participates then takeContribution c s else s := by
  unfold contributes
  split
  · next hpart => exact run_contribution (h.resolve_right (by simp [hpart])) c
  · exact run_nil s

end Sys2Proof.Machine

end

/-! PROOFS. The statement about a good window of a channel that is not under calibration (chapters 3 and 4). -/

section

namespace Sys2Proof.Machine

/-! ### What the value pipeline reads -/

/-- A channel without what a good window changes of it before the publish (R45, R47). -/
def Channel.piped (x : Channel) : Channel := { x with state := .noValue, faulty := 0, window := [] }

/-- The two states give the value pipeline the same to work on. -/
structure PipedAlike (s u : State) : Prop where
  channels : ∀ c : ChanNo, (u.ch c).piped = (s.ch c).piped
  fans : u.fans = s.fans
  cal : u.cal = s.cal

namespace PipedAlike

variable {s u : State} (h : PipedAlike s u)

include h

theorem cfg (c : ChanNo) : (u.ch c).cfg = (s.ch c).cfg := (congrArg Channel.cfg (h.channels c) :)
theorem value (c : ChanNo) : (u.ch c).value = (s.ch c).value := (congrArg Channel.value (h.channels c) :)
theorem flags (c : ChanNo) : (u.ch c).flags = (s.ch c).flags := (congrArg Channel.flags (h.channels c) :)
theorem published (c : ChanNo) : (u.ch c).published = (s.ch c).published := (congrArg Channel.published (h.channels c) :)
theorem filterInit (c : ChanNo) : (u.ch c).filterInit = (s.ch c).filterInit := (congrArg Channel.filterInit (h.channels c) :)
theorem level (c : ChanNo) : (u.ch c).level = (s.ch c).level := (congrArg Channel.level (h.channels c) :)
theorem index (c : ChanNo) : (u.ch c).index = (s.ch c).index := (congrArg Channel.index (h.channels c) :)
theorem countdown (c : ChanNo) : (u.ch c).countdown = (s.ch c).countdown := (congrArg Channel.countdown (h.channels c) :)

theorem fansMoving : u.fansMoving = s.fansMoving := by simp only [State.fansMoving, State.fan, h.fans]

theorem inSession (c : ChanNo) : u.inSession c = s.inSession c := by rw [State.inSession, h.cal, State.inSession]

theorem unlimitedValue (c : ChanNo) (w : Nat) : unlimitedValue u c w = unlimitedValue s c w := by
  have hsource : ∀ src, sourceValue u src = sourceValue s src := fun src => by
    cases src with
    | none => rfl
    | some k => simp only [sourceValue, h.published, h.value]
  simp only [Machine.unlimitedValue, h.cfg, hsource]

theorem transientNow (c : ChanNo) : transientNow u (u.ch c) = transientNow s (s.ch c) := by
  simp only [Machine.transientNow, h.cfg, h.fansMoving, h.countdown]

theorem publishedValue (c : ChanNo) (w : Nat) : publishedValue u c w = publishedValue s c w := by
  simp only [Machine.publishedValue, smoothedValue, h.unlimitedValue, h.cfg, h.filterInit, h.value]

theorem publishedLevel (c : ChanNo) (w : Nat) : publishedLevel u c w = publishedLevel s c w := by
  simp only [Machine.publishedLevel, h.transientNow, h.publishedValue, h.flags, h.cfg, h.level]

theorem publishedIndex (c : ChanNo) (w : Nat) : publishedIndex u c w = publishedIndex s c w := by
  simp only [Machine.publishedIndex, h.publishedValue, h.flags, h.cfg, h.index]

theorem unsettledCount (c : ChanNo) : u.unsettledCount c = s.unsettledCount c := by
  rw [State.unsettledCount, h.cal, State.unsettledCount]

theorem publishedFlags (c : ChanNo) (w : Nat) : publishedFlags u c w = publishedFlags s c w := by
  simp only [Machine.publishedFlags, h.flags, h.transientNow, h.inSession, h.unsettledCount, h.cfg, h.unlimitedValue]

end PipedAlike

/-! ### A good window before its publish (R47) -/

/-- The good window's channel with its window emptied, its count cleared, and SENSOR FAULT ended. -/
def recovered (c : ChanNo) (s : State) : State := goodWindowFirst c (s.setCh c { s.ch c with window := [] })

/-- Its record. -/
def Channel.recovered (x : Channel) : Channel :=
  { x with
    window := [], faulty := 0,
    state := if x.state = .sensorFault then (if x.published then .valid else .noValue) else x.state }

theorem recovered_ch (c : ChanNo) (s : State) (k : ChanNo) :
    (recovered c s).ch k = if k = c then (s.ch c).recovered else s.ch k := by
  by_cases hfault : (s.ch c).state = .sensorFault
  · simp only [recovered, goodWindowFirst, State.ch_setCh_same, hfault, if_true, recoverChannel, ch_appendEvent, State.ch_setCh,
      Channel.recovered]
    split_ifs <;> rfl
  · simp only [recovered, goodWindowFirst, State.ch_setCh_same, hfault, if_false, State.ch_setCh, Channel.recovered]
    split_ifs <;> rfl

theorem recovered_evq (c : ChanNo) (s : State) : (recovered c s).evq = if (s.ch c).state = .sensorFault then
    s.evq.push ⟨s.tb.clock, .channel c, .sensorRecovered, none, none, false⟩ else s.evq := by
  by_cases hfault : (s.ch c).state = .sensorFault <;>
    simp [recovered, goodWindowFirst, recoverChannel, hfault, appendEvent]

theorem recovered_cal_rau (c : ChanNo) (s : State) :
    (recovered c s).cal = s.cal ∧ (recovered c s).rau = s.rau ∧ (recovered c s).tb = s.tb ∧ (recovered c s).fans = s.fans := by
  unfold recovered goodWindowFirst
  split <;> exact ⟨rfl, rfl, rfl, rfl⟩

theorem recovered_piped (c : ChanNo) (s : State) : PipedAlike s (recovered c s) where
  channels k := by
    rw [recovered_ch]
    split
    · next hk => rw [hk]; rfl
    · rfl
  fans := (recovered_cal_rau c s).2.2.2
  cal := (recovered_cal_rau c s).1

/-! ### The publish (R48) -/

theorem lowerUnsettled_cal (c : ChanNo) (s : State) : lowerUnsettled c s = { s with cal := (lowerUnsettled c s).cal } := by
  unfold lowerUnsettled
  split
  · rfl
  · split <;> rfl

theorem alarmEntry_evq (c : ChanNo) (before after : Nat) (f : Int) (s : State) :
    alarmEntry c before after f s = { s with evq := (alarmEntry c before after f s).evq } := by
  unfold alarmEntry
  split
  · rfl
  · split <;> rfl

/-- The publish alters the record, the session's countdown and the event queue. -/
theorem publish_eq (c : ChanNo) (w : Nat) (s : State) : publish c w s = { s.setCh c (publishedChannel s c w) with
    cal := (lowerUnsettled c s).cal, evq := (publish c w s).evq } := by
  have hcal : ∀ x, (lowerUnsettled c (s.setCh c x)).cal = (lowerUnsettled c s).cal := fun x => by
    unfold lowerUnsettled
    rw [State.setCh_cal]
    split
    · rfl
    · split <;> rfl
  rw [← hcal (publishedChannel s c w)]
  calc publish c w s
      = { lowerUnsettled c (s.setCh c (publishedChannel s c w)) with evq := (publish c w s).evq } := alarmEntry_evq _ _ _ _ _
    _ = _ := congrArg (fun v : State => { v with evq := (publish c w s).evq }) (lowerUnsettled_cal c _)

theorem publish_evq (c : ChanNo) (w : Nat) (s : State) : (publish c w s).evq =
    if (s.ch c).level < publishedLevel s c w then
      s.evq.push ⟨s.tb.clock, .channel c, .alarmUp, some (publishedLevel s c w), some (publishedValue s c w), false⟩
    else if publishedLevel s c w < (s.ch c).level then
      s.evq.push ⟨s.tb.clock, .channel c, .alarmDown, some (publishedLevel s c w), some (publishedValue s c w), false⟩
    else s.evq := by
  rw [publish, lowerUnsettled_cal, alarmEntry]
  split_ifs <;> rfl

theorem lowerUnsettled_span (c : ChanNo) (s : State) :
    (s.inSession c = false → (lowerUnsettled c s).cal = s.cal) ∧
      (∀ sp, s.cal.span = some sp → sp.channel = c →
        (lowerUnsettled c s).cal = { s.cal with span := some { sp with countdown := sp.countdown - 1 } }) := by
  refine ⟨fun hsession => ?_, fun sp hspan hsp => ?_⟩
  · unfold lowerUnsettled
    split
    · rfl
    · next sp hspan =>
      have hother : sp.channel ≠ c := by simpa [State.inSession, hspan] using hsession
      rw [if_neg hother]
  · simp [lowerUnsettled, hspan, hsp]

/-- The record published of a good window (R45, R47, R48). -/
theorem publishedChannel_recovered (c : ChanNo) (w : Nat) (s : State) : publishedChannel (recovered c s) c w =
    { publishedChannel s c w with window := [], faulty := 0 } := by
  have halike := recovered_piped c s
  simp only [publishedChannel, halike.publishedValue, halike.publishedFlags, halike.publishedLevel, halike.publishedIndex,
    halike.cfg, halike.countdown]
  rw [recovered_ch, if_pos rfl]
  rfl

/-- The state that the publish leaves before its hand-over. -/
def windowPublished (c : ChanNo) (w : Nat) (s : State) : State := publish c w (recovered c s)

section

variable (c : ChanNo) (w : Nat) (s : State)

theorem windowPublished_ch (k : ChanNo) : (windowPublished c w s).ch k =
    if k = c then { publishedChannel s c w with window := [], faulty := 0 } else s.ch k := by
  have hset : (windowPublished c w s).ch k = ((recovered c s).setCh c (publishedChannel (recovered c s) c w)).ch k := by
    rw [windowPublished, publish_eq]
    rfl
  rw [hset, State.ch_setCh, publishedChannel_recovered, recovered_ch]
  split_ifs <;> rfl

theorem windowPublished_fans : (windowPublished c w s).fans = s.fans := by
  rw [windowPublished, publish_eq]
  exact (recovered_cal_rau c s).2.2.2

theorem windowPublished_rau : (windowPublished c w s).rau = s.rau := by
  rw [windowPublished, publish_eq]
  exact (recovered_cal_rau c s).2.1

theorem windowPublished_span :
    (s.inSession c = false → (windowPublished c w s).cal.span = s.cal.span) ∧
      (∀ sp, s.cal.span = some sp → sp.channel = c →
        (windowPublished c w s).cal.span = some { sp with countdown := sp.countdown - 1 }) := by
  have hcal : (windowPublished c w s).cal = (lowerUnsettled c (recovered c s)).cal := by
    rw [windowPublished, publish_eq]
  have halike := recovered_piped c s
  obtain ⟨hclosed, hopen⟩ := lowerUnsettled_span c (recovered c s)
  rw [halike.inSession] at hclosed
  rw [halike.cal] at hclosed hopen
  rw [hcal]
  exact ⟨fun hsession => congrArg Cal.span (hclosed hsession), fun sp hspan hsp => congrArg Cal.span (hopen sp hspan hsp)⟩

theorem windowPublished_evq : ∀ q : EventQueue, q = (if (s.ch c).state = .sensorFault then
      s.evq.push ⟨s.tb.clock, .channel c, .sensorRecovered, none, none, false⟩ else s.evq) →
    (windowPublished c w s).evq = if (s.ch c).level < publishedLevel s c w then
        q.push ⟨s.tb.clock, .channel c, .alarmUp, some (publishedLevel s c w), some (publishedValue s c w), false⟩
      else if publishedLevel s c w < (s.ch c).level then
        q.push ⟨s.tb.clock, .channel c, .alarmDown, some (publishedLevel s c w), some (publishedValue s c w), false⟩
      else q := by
  rintro q rfl
  have halike := recovered_piped c s
  rw [windowPublished, publish_evq, halike.publishedLevel, halike.publishedValue, halike.level, recovered_evq,
    (recovered_cal_rau c s).2.2.1]

end

theorem exec_conversionComplete_publishes {code : Code} {c : ChanNo} {s : State} (hconverting : s.scn.state = .converting)
    (hdue : s.scn.due ≤ s.scn.ticks) (hvisited : s.scn.visited = some c) (hlength : (s.ch c).window.length = 3)
    (hgood : faultyWindow (s.ch c).cfg ((s.ch c).window ++ [code]) = false) (hpurging : s.cal.inPhase c .purging = false)
    (haccumulating : s.cal.inPhase c .accumulating = false) {v : State}
    (hv : v = windowPublished c (windowSum ((s.ch c).window ++ [code])) s) :
    exec (.conversionComplete code) s = .next (endVisit (run (contributes v c) v)) := by
  subst hv
  have hfree : (s.setCh c { s.ch c with window := [] }).underCalibration c = false := by
    simp [State.underCalibration, hpurging, haccumulating]
  rw [exec_conversionComplete_visits hconverting hdue hvisited]
  simp only [takeSample, List.length_append, hlength, windowDone, State.ch_setCh_same, hgood, goodWindowDone, hfree]
  rfl

theorem ite_takeContribution_apart (b : Bool) (c : ChanNo) (v : State) :
    (if b then takeContribution c v else v).channels = v.channels ∧ (if b then takeContribution c v else v).fans = v.fans := by
  cases b <;> exact ⟨rfl, rfl⟩

theorem nicheIndex_of_contrib {s t : State} (h : t.rau.contrib = s.rau.contrib) : t.nicheIndex = s.nicheIndex := by
  rw [State.nicheIndex, h, State.nicheIndex]

/-- What the RAU makes of a contribution outside AUTO: the niche index anew, and the step that it selects. -/
theorem takeContribution_rau (c : ChanNo) (s : State) :
    (takeContribution c s).rau.contrib = s.rau.contrib.set c (contributionOf s c) ∧
      (takeContribution c s).rau.imax = (takeContribution c s).nicheIndex ∧
      (takeContribution c s).rau.step = selectedStep s.rau (takeContribution c s).rau.imax s.rau.step := by
  have hindex : (takeContribution c s).nicheIndex =
      { s with rau := { s.rau with contrib := s.rau.contrib.set c (contributionOf s c) } : State }.nicheIndex :=
    nicheIndex_of_contrib rfl
  exact ⟨rfl, hindex.symm, rfl⟩

/-- Settles O22: the window's channel is published, its contribution handed on, and the visit ends beside them. -/
theorem goodWindowPublishes : Obligations.GoodWindowPublishes := by
  intro code c s hconverting hdue hvisited hlength hgood hpurging haccumulating w hw
  have hexec := exec_conversionComplete_publishes hconverting hdue hvisited hlength hgood hpurging haccumulating (v := _) rfl
  rw [← hw] at hexec
  have hparts := (converted_alters code s).1
  rw [Host.Outcome.next.inj ((exec_conversionComplete code s).symm.trans hexec)] at hparts
  have hch := windowPublished_ch c w s
  have hfans := windowPublished_fans c w s
  have hrau := windowPublished_rau c w s
  obtain ⟨hclosed, hopen⟩ := windowPublished_span c w s
  have hevq := windowPublished_evq c w s
  generalize windowPublished c w s = v at hexec hparts hch hfans hrau hclosed hopen hevq
  have hhanded := run_handedOn (contributes v c) v
  have hfixed := hhanded.ch c
  have hspan : (run (contributes v c) v).cal.span = v.cal.span := (congrArg Cal.span hhanded.cal :)
  have hcfg : (v.ch c).cfg = (s.ch c).cfg := by rw [hch, if_pos rfl]; rfl
  have hrun : s.rau.regime ≠ .auto ∨ (s.ch c).cfg.participates = false →
      run (contributes v c) v = if (s.ch c).cfg.participates then takeContribution c v else v := fun h => by
    rw [← hcfg]
    exact run_contributes (by rwa [hrau, hcfg])
  have hapart := ite_takeContribution_apart (s.ch c).cfg.participates c v
  have hstands : s.rau.regime ≠ .auto ∨ (s.ch c).cfg.participates = false →
      ∀ k, (run (contributes v c) v).ch k = v.ch k := fun h k => by
    rw [hrun h, State.ch, hapart.1, State.ch]
  rw [hch, if_pos rfl] at hfixed
  refine ⟨_, hexec, ?_⟩
  rw [ch_endVisit, endVisit_cal, endVisit_evq, hspan]
  refine ⟨(congrArg Channel.state hfixed :), (congrArg Channel.published hfixed :), (congrArg Channel.window hfixed :),
    (congrArg Channel.faulty hfixed :), (congrArg Channel.cfg hfixed :), (congrArg Channel.value hfixed :),
    (congrArg Channel.level hfixed :), (congrArg Channel.index hfixed :), (congrArg (·.flags.fresh) hfixed :),
    (congrArg (·.flags.overwritten) hfixed :), (congrArg (·.flags.transient) hfixed :), (congrArg (·.flags.atLimit) hfixed :),
    fun hsession => ⟨?_, hclosed hsession⟩, fun sp hsp hchannel => ⟨?_, hopen sp hsp hchannel⟩, fun k hk => ?_, fun f => ?_,
    hparts, fun q hq => ?_, fun h => ⟨?_, fun k hk => ?_, ?_⟩, fun h => ?_, fun hregime hpart => ?_⟩
  · have hunsettled : _ = _ := (congrArg (·.flags.unsettled) hfixed :)
    simpa [publishedChannel, publishedFlags, hsession, Channel.fixed] using hunsettled
  · have hunsettled : _ = _ := (congrArg (·.flags.unsettled) hfixed :)
    simpa [publishedChannel, publishedFlags, State.inSession, State.unsettledCount, hsp, hchannel, Channel.fixed] using hunsettled
  · rw [ch_endVisit, hhanded.ch, hch, if_neg hk]
  · rw [endVisit_eq]
    exact (hhanded.fan f).trans (by rw [State.fan, hfans, State.fan])
  · exact hevq q hq ▸ hhanded.2
  · rw [hstands h, hch, if_pos rfl]
    rfl
  · rw [ch_endVisit, hstands h, hch, if_neg hk]
  · rw [endVisit_eq]
    exact (congrArg State.fans (hrun h)).trans (hapart.2.trans hfans)
  · rw [endVisit_eq]
    exact (congrArg State.rau ((hrun (.inr h)).trans (if_neg (by simp [h])))).trans hrau
  · have htaken : (endVisit (run (contributes v c) v)).rau = (takeContribution c v).rau := by
      rw [endVisit_eq]
      have htakes : run (contributes v c) v = takeContribution c v := (hrun (.inl hregime)).trans (if_pos hpart)
      exact (congrArg State.rau htakes :)
    obtain ⟨hcontrib, himax, hstep⟩ := takeContribution_rau c v
    rw [nicheIndex_of_contrib (congrArg Rau.contrib htaken), htaken, ← hrau]
    refine ⟨?_, himax, hstep⟩
    rw [hcontrib, hstands (.inl hregime), contributionOf, hch, if_pos rfl]
    simp only [publishedChannel, hpart, reduceCtorEq, if_false]
    rfl

end Sys2Proof.Machine

end

/-! PROOFS. The commands in which acts and hand-overs alternate, as chains of acts with their hand-overs: what a chain's acts alter is
said tightly, so that an invariant of other components needs nothing more of these commands. -/

section

namespace Sys2Proof.Machine

/-- A chain of acts on these components, each with its hand-overs. -/
def Linked (ps : List Part) : State → State → Prop := Relation.ReflTransGen (Acts ps)

namespace Linked

variable {ps qs : List Part} {s t u : State}

theorem refl (ps : List Part) (s : State) : Linked ps s s := Relation.ReflTransGen.refl

theorem trans (h : Linked ps s t) (k : Linked ps t u) : Linked ps s u := Relation.ReflTransGen.trans h k

theorem of_acts (h : Acts ps s t) : Linked ps s t := .single h

theorem of_alters (h : Alters qs s t) (hqs : qs ⊆ ps := by decide) : Linked ps s t := .of_acts (h.mono hqs).acts

theorem mono (h : Linked qs s t) (hqs : qs ⊆ ps) : Linked ps s t := by
  induction h with
  | refl => exact .refl ps s
  | tail _ hact ih =>
    obtain ⟨v, ws, hv, heq⟩ := hact
    exact ih.trans (.of_acts ⟨v, ws, hv.mono hqs, heq⟩)

theorem run (ps : List Part) (ws : List Work) (s : State) : Linked ps s (run ws s) := .of_acts ((Alters.refl ps s).actsRun ws)

theorem guarded {c : Prop} [Decidable c] (h : c → Linked ps s t) : Linked ps s (if c then t else s) := by
  split
  · next hc => exact h hc
  · exact .refl ps s

theorem foldl {α : Type} {g : State → α → State} (h : ∀ s a, Linked ps s (g s a)) (l : List α) (s : State) :
    Linked ps s (l.foldl g s) := by
  induction l generalizing s with
  | nil => exact .refl ps s
  | cons a l ih => exact (h s a).trans (ih (g s a))

/-- What every act on these components keeps, with its hand-overs, a chain of them keeps. -/
theorem keeps {P : State → Prop} (hacts : ∀ s t, Acts ps s t → P s → P t) (h : Linked ps s t) (hs : P s) : P t := by
  induction h with
  | refl => exact hs
  | tail _ hact ih => exact hacts _ _ hact ih

end Linked

/-! ### SET NODE -/

abbrev nodeParts : List Part := [.lif, .evq, .rau]

theorem setNode_linked (n : NodeSettings) (s : State) : Linked nodeParts s (setNode n s) := by
  have hcap : ∀ old new u, Linked nodeParts u (actDoorCap old new u) := fun old new u => by
    unfold actDoorCap
    split
    · exact .refl _ u
    · exact .run _ _ u
  have hfault : ∀ old new u, Linked nodeParts u (actFaultIndex old new u) := fun old new u => by
    unfold actFaultIndex
    split
    · exact .refl _ u
    · exact .run _ _ u
  exact (Linked.of_alters (storeNode_alters n s)).trans
    ((hcap _ _ _).trans ((hfault _ _ _).trans (.guarded fun _ => .run _ _ _)))

theorem serveSetNode_linked (fields : List Byte) (s : State) : Linked nodeParts s (serveSetNode fields s).state := setNode_linked _ s

/-! ### The doors -/

theorem runEffect_linked {ps : List Part} {s : State} {e : Effect} (h : Alters ps s e.1) : Linked ps s (runEffect e) :=
  .of_acts h.actsEffect

theorem placeDoor_linked (d : DoorNo) (cfg : DoorConfig) (s : State) : Linked doorParts s (placeDoor d cfg s) := by
  have hcfg : Alters doorParts s (s.modDoor d (·.withCfg cfg)) := modDoor_alters d _ s
  simp only [placeDoor]
  split
  · exact .of_alters hcfg
  · exact .of_acts ((hcfg.trans ((moveDoor_alters d _ _).trans ((modDoor_alters d _ _).trans (followUp_alters d _)))).actsRun _)
  · exact ((Linked.of_alters hcfg).trans (runEffect_linked (holdExpiry_alters d _))).trans (runEffect_linked (waitExpiry_alters d _))
  · exact .of_acts ((hcfg.trans ((modDoor_alters d _ _).trans (handDoor_alters _))).actsRun _)

theorem serveSetDoor_linked (fields : List Byte) (s : State) : Linked doorParts s (serveSetDoor fields s).state := by
  unfold serveSetDoor setDoorConfig
  split
  · split
    · exact .refl _ s
    · split
      · exact placeDoor_linked _ _ s
      · exact .refl _ s
  · exact .refl _ s

theorem doorAction_linked (d : DoorNo) (action : Nat) (s : State) : Linked doorParts s (doorAction d action s) := by
  simp only [doorAction]
  split
  · exact .refl _ s
  · exact .of_acts (((modDoor_alters d _ s).trans (followUp_alters d _)).actsRun _)

theorem serveDoorCommand_linked (fields : List Byte) (s : State) : Linked doorParts s (serveDoorCommand fields s).state :=
  (doorAction_linked 0 _ s).trans ((doorAction_linked 1 _ _).trans (.of_alters (silence_alters _ _)))

/-! ### OUTPUT INHIBIT -/

abbrev inhibitParts : List Part := [.evq, .fans, .inhibit, .choices]

theorem inFreeOrder_linked {g : State → FanNo → State} (h : ∀ s f, Linked inhibitParts s (g s f)) (fans : List FanNo)
    (s : State) : Linked inhibitParts s (inFreeOrder fans g s) :=
  (Linked.of_alters (qs := [.choices]) ⟨sameBut_choices s (freeOrder s.choices fans).2, .refl _⟩).trans (.foldl h _ _)

theorem settleInhibit_linked (code : EventCode) (s : State) : Linked inhibitParts s (settleInhibit code s) :=
  (Linked.of_alters (qs := [.inhibit]) ⟨sameBut_inhibit s s.inhibit.settle, .refl _⟩).trans
    (.of_alters (appendEvent_alters (ps := [.evq]) _ _ _ _ _))

theorem inhibitFan_linked (s : State) (f : FanNo) : Linked inhibitParts s (inhibitFan s f) :=
  .guarded fun _ => runEffect_linked ((moveFan_alters f _ s).mono (by decide))

theorem releaseInhibited_linked (s : State) (f : FanNo) : Linked inhibitParts s (releaseInhibited s f) :=
  .guarded fun _ => runEffect_linked ((moveFan_alters f _ s).mono (by decide))

theorem inhibitActive_linked (s : State) : Linked inhibitParts s (inhibitActive s) :=
  .guarded fun _ => (settleInhibit_linked _ s).trans (inFreeOrder_linked inhibitFan_linked _ _)

theorem inhibitInactive_linked (s : State) : Linked inhibitParts s (inhibitInactive s) :=
  .guarded fun _ => (settleInhibit_linked _ s).trans (inFreeOrder_linked releaseInhibited_linked _ _)

/-! ### The regime -/

theorem setFans_linked (s : State) : Linked rauParts s (setFans s) := by
  have hclosed : ∀ u, Linked rauParts u (evaluateShort (seekDemand u)) := fun u =>
    .of_alters ((seekDemand_alters u).trans (evaluateShort_alters _))
  unfold setFans
  split
  · exact (Linked.of_acts ((setRequests_alters _ s).actsRun _)).trans (hclosed _)
  · exact .of_acts ((autoRecord_alters s).actsRun _)
  · exact (Linked.of_acts ((setRequests_alters _ s).actsRun _)).trans (hclosed _)

theorem silenceExpiry_linked (s : State) : Linked nodeParts s (silenceExpiry s) := by
  refine .guarded fun _ => (Linked.of_alters (loseLine_alters s)).trans (.guarded fun h => Linked.mono (qs := rauParts) ?_ (by decide))
  rw [enterRegime, h.1, handRegime_manual_auto (storeRegime_regime _ _ _)]
  exact (Linked.of_alters (storeRegime_alters _ _ _)).trans ((Linked.of_alters (alters_rau (.refl _) _)).trans (setFans_linked _))

end Sys2Proof.Machine

end

/-! PROOFS. The settle-window countdowns under hand-overs (R52): only a fan's change loads them, and a second load finds them loaded. -/

section

namespace Sys2Proof.Machine

/-- The countdown that a load leaves a channel (R52). -/
def Channel.loadedCountdown (x : Channel) : Nat :=
  if x.cfg.fanSensitive = true ∧ x.state ≠ .disabled then x.cfg.settleWindows else x.countdown

theorem loadCountdown_countdown (x : Channel) : x.loadCountdown.countdown = x.loadedCountdown := by
  simp only [Channel.loadCountdown, Channel.loadedCountdown, Bool.and_eq_true, bne_iff_ne]
  split <;> rfl

theorem loadCountdowns_ch (s : State) (c : ChanNo) : (loadCountdowns s).ch c = (s.ch c).loadCountdown :=
  each_ch Channel.loadCountdown s c

theorem loadCountdowns_loaded (s : State) : CountdownsLoaded s (loadCountdowns s) := fun c => by
  rw [loadCountdowns_ch, loadCountdown_countdown, Channel.loadedCountdown]

/-- From s to t each countdown stands or has been loaded. -/
def CountdownsMayLoad (s t : State) : Prop :=
  ∀ c : ChanNo, (t.ch c).countdown = (s.ch c).countdown ∨ (t.ch c).countdown = (s.ch c).loadedCountdown

/-- From s to t hand-overs have been carried out, and each countdown stands or has been loaded. -/
structure Carried (s t : State) : Prop where
  handed : HandedOn s t
  countdowns : CountdownsMayLoad s t

theorem fixed_loadedCountdown {x y : Channel} (h : y.fixed = x.fixed) :
    y.loadedCountdown = if x.cfg.fanSensitive = true ∧ x.state ≠ .disabled then x.cfg.settleWindows else y.countdown := by
  have hcfg : y.cfg = x.cfg := (congrArg Channel.cfg h :)
  have hstate : y.state = x.state := (congrArg Channel.state h :)
  rw [Channel.loadedCountdown, hcfg, hstate]

namespace Carried

theorem of_kept {s t : State} (h : HandedOn s t) (hkept : CountdownsKept s t) : Carried s t := ⟨h, fun c => .inl (hkept c)⟩

theorem refl (s : State) : Carried s s := of_kept (.refl s) fun _ => rfl

theorem trans {s t u : State} (h : Carried s t) (k : Carried t u) : Carried s u := by
  refine ⟨h.handed.trans k.handed, fun c => ?_⟩
  rcases k.countdowns c with hstands | hloaded
  · rw [hstands]
    exact h.countdowns c
  · rw [hloaded, fixed_loadedCountdown (h.handed.ch c)]
    split
    · next hloads => exact .inr (by rw [Channel.loadedCountdown, if_pos hloads])
    · exact h.countdowns c

/-- A load that hand-overs follow stands as it is. -/
theorem loaded {s t u : State} (hhanded : HandedOn s t) (hloaded : CountdownsLoaded s t) (k : Carried t u) :
    CountdownsLoaded s u := fun c => by
  rcases k.countdowns c with hstands | hagain
  · rw [hstands, hloaded c]
  · rw [hagain, fixed_loadedCountdown (hhanded.ch c), hloaded c]
    split_ifs <;> rfl

end Carried

/-! ### The single hand-overs -/

theorem countdownsKept_of_parts {ps : List Part} {s t : State} (h : sameBut ps s t) (hps : .channels ∉ ps := by decide) :
    CountdownsKept s t := fun c => by
  have hchannels : t.channels = s.channels := h .channels hps
  rw [State.ch, hchannels, State.ch]

theorem countdownsKept_trans {s t u : State} (h : CountdownsKept s t) (k : CountdownsKept t u) : CountdownsKept s u :=
  fun c => (k c).trans (h c)

theorem modCh_countdownsKept {c : ChanNo} {g : Channel → Channel} {s : State} (h : (g (s.ch c)).countdown = (s.ch c).countdown) :
    CountdownsKept s (s.modCh c g) := fun k => by
  rw [State.ch_modCh]
  split
  · next hk => rw [hk, h]
  · rfl

theorem endCalibration_countdownsKept (c : ChanNo) (l : List CalEntry) (s : State) :
    CountdownsKept s (endCalibration c l s).1 :=
  modCh_countdownsKept (g := fun x => { x.setCalibrating false with filterInit := false }) rfl

theorem quietLost_countdownsKept (s : State) : CountdownsKept s (quietLost s).1 := by
  unfold quietLost
  split
  · exact fun _ => rfl
  · split
    · exact endCalibration_countdownsKept _ _ _
    · exact fun _ => rfl

theorem calHears_countdownsKept (a b : Option FanState) (s : State) : CountdownsKept s (calHears a b s).1 := by
  unfold calHears
  split
  · exact quietLost_countdownsKept s
  · exact fun _ => rfl

theorem quietTest_countdownsKept (s : State) : CountdownsKept s (quietTest s).1 := by
  unfold quietTest
  split
  · exact fun _ => rfl
  · split
    · exact modCh_countdownsKept (g := fun x => x.setCalibrating true) rfl
    · exact fun _ => rfl

theorem nextHead_countdownsKept (s : State) : CountdownsKept s (nextHead s).1 := by
  unfold nextHead
  split
  · exact fun _ => rfl
  · split <;> exact fun _ => rfl

/-- A fan's change loads the countdowns, or leaves them (R52). -/
theorem fanMoved_countdowns (a b : Option FanState) (s : State) :
    (loadsCountdown a b = true → CountdownsLoaded s (fanMoved a b s).1) ∧
      (loadsCountdown a b = false → CountdownsKept s (fanMoved a b s).1) := by
  refine ⟨fun h => ?_, fun h => ?_⟩
  · simp only [fanMoved, h, if_true]
    exact fun c => (calHears_countdownsKept a b _ c).trans (loadCountdowns_loaded s c)
  · simp only [fanMoved, h, Bool.false_eq_true, if_false]
    exact calHears_countdownsKept a b s

/-- No hand-over but a fan's change moves a countdown. -/
theorem perform_countdownsKept {w : Work} (h : ∀ f a b, w ≠ .fanMoved f a b) (s : State) : CountdownsKept s (perform w s).1 := by
  cases w with
  | fanMoved f a b => exact absurd rfl (h f a b)
  | startAttempt f | handFan f | handRegime f | grant f =>
    exact countdownsKept_of_parts (perform_act rfl s).alters.1
  | contribution c => exact countdownsKept_of_parts (takeContribution_alters c s).1
  | calEnded c => exact countdownsKept_of_parts (receiveCalEnd_alters c s).1
  | nextHead => exact nextHead_countdownsKept s
  | quietTest => exact quietTest_countdownsKept s
  | availability | grantDue => exact fun _ => rfl
  | reevaluate => exact countdownsKept_of_parts (reevaluate_alters s).1
  | reform => exact fun _ => rfl
  | giveRole f => exact countdownsKept_of_parts (giveRole_alters f s).1
  | demandShort => exact countdownsKept_of_parts (evaluateShort_alters s).1

theorem perform_carried (w : Work) (s : State) : Carried s (perform w s).1 := by
  by_cases h : ∃ f a b, w = .fanMoved f a b
  · obtain ⟨f, a, b, rfl⟩ := h
    refine ⟨perform_handedOn _ s, fun c => ?_⟩
    obtain ⟨hloads, hkeeps⟩ := fanMoved_countdowns a b s
    cases hload : loadsCountdown a b with
    | true => exact .inr (hloads hload c)
    | false => exact .inl (hkeeps hload c)
  · exact .of_kept (perform_handedOn w s) (perform_countdownsKept (fun f a b e => h ⟨f, a, b, e⟩) s)

/-- The hand-overs of a command load countdowns at most. -/
theorem run_carried (ws : List Work) (s : State) : Carried s (run ws s) :=
  run_keeps (Carried s) (fun w t h => h.trans (perform_carried w t)) ws s (.refl s)

theorem Carried.effect {s : State} {e : Effect} (h : Carried s e.1) : Carried s (runEffect e) := h.trans (run_carried e.2 e.1)

end Sys2Proof.Machine

end

/-! PROOFS. The channels' bounds, the visit and the session's span factors, kept by every step. -/

section

namespace Sys2Proof.Machine

/-! ### What keeps the bounds -/

/-- The open session's span factors are such as a channel may have. -/
abbrev Cal.spanOk (k : Cal) : Prop :=
  ∀ sp ∈ k.span, 2048 ≤ sp.entryG ∧ sp.entryG ≤ 8191 ∧ 2048 ≤ sp.currentG ∧ sp.currentG ≤ 8191

/-- A change of a channel's record within its bounds, that leaves whether it is enabled. -/
abbrev Channel.stays (x y : Channel) : Prop := y.bounded ∧ y.cfg.enabled = x.cfg.enabled

theorem State.channelsOk.of_stays {s t : State} (h : s.channelsOk) (hscn : t.scn = s.scn)
    (hch : ∀ c, (s.ch c).stays (t.ch c)) (hspan : t.cal.spanOk) : t.channelsOk := by
  refine ⟨fun c => (hch c).1, ?_, hspan⟩
  rw [State.visitOk, hscn]
  intro hvisit
  obtain ⟨c, hc, henabled⟩ := h.2.1 hvisit
  exact ⟨c, hc, (hch c).2.trans henabled⟩

theorem State.channelsOk.setCh {s : State} (h : s.channelsOk) {c : ChanNo} {x : Channel} (hx : (s.ch c).stays x) :
    (s.setCh c x).channelsOk := by
  refine h.of_stays rfl (fun k => ?_) h.2.2
  rw [State.ch_setCh]
  split
  · next hk => rwa [hk]
  · exact ⟨h.1 k, rfl⟩

theorem State.channelsOk.modCh {s : State} (h : s.channelsOk) {c : ChanNo} {g : Channel → Channel}
    (hx : (s.ch c).stays (g (s.ch c))) : (s.modCh c g).channelsOk := h.setCh hx

theorem State.channelsOk.setCal {s : State} (h : s.channelsOk) {k : Cal} (hk : k.spanOk) : ({ s with cal := k } : State).channelsOk :=
  ⟨h.1, h.2.1, hk⟩

/-- A new scan record, with the visit that it is in. -/
theorem State.channelsOk.setScn {s : State} (h : s.channelsOk) {k : Scan} (hk : ({ s with scn := k } : State).visitOk) :
    ({ s with scn := k } : State).channelsOk := ⟨h.1, hk, h.2.2⟩

theorem State.channelsOk.of_carried {s t : State} (h : s.channelsOk) (k : Carried s t) : t.channelsOk := by
  have hspan : t.cal.span = s.cal.span := (congrArg Cal.span k.handed.cal :)
  refine h.of_stays k.handed.scn (fun c => ?_) (by rw [Cal.spanOk, hspan]; exact h.2.2)
  have hfixed := k.handed.ch c
  have hcfg : (t.ch c).cfg = (s.ch c).cfg := (congrArg Channel.cfg hfixed :)
  have hfaulty : (t.ch c).faulty = (s.ch c).faulty := (congrArg Channel.faulty hfixed :)
  have hlevel : (t.ch c).level = (s.ch c).level := (congrArg Channel.level hfixed :)
  have hindex : (t.ch c).index = (s.ch c).index := (congrArg Channel.index hfixed :)
  have hwindow : (t.ch c).window = (s.ch c).window := (congrArg Channel.window hfixed :)
  have hstate : (t.ch c).state = (s.ch c).state := (congrArg Channel.state hfixed :)
  obtain ⟨bfaulty, blevel, bindex, bcountdown, bsettle, brest⟩ := h.1 c
  have hcountdown : (t.ch c).countdown ≤ 15 := by
    rcases k.countdowns c with hstands | hloaded
    · omega
    · rw [hloaded, Channel.loadedCountdown]
      split <;> omega
  rw [Channel.stays, Channel.bounded, hcfg, hfaulty, hlevel, hindex, hwindow, hstate]
  exact ⟨⟨bfaulty, blevel, bindex, hcountdown, bsettle, brest⟩, rfl⟩

theorem State.channelsOk.run {s : State} (h : s.channelsOk) (ws : List Work) : (run ws s).channelsOk := h.of_carried (run_carried ws s)

theorem State.channelsOk.runEffect {e : Effect} (h : e.1.channelsOk) : (runEffect e).channelsOk := h.run e.2

/-- An act that leaves the scan, the channels and the calibration unit. -/
theorem State.channelsOk.of_same {s v : State} (h : s.channelsOk)
    (hv : ∀ p ∈ [Part.scn, .channels, .cal], p.same s v) : v.channelsOk := by
  have hchannels : v.channels = s.channels := hv .channels (by decide)
  have hcal : v.cal = s.cal := hv .cal (by decide)
  refine h.of_stays (hv .scn (by decide)) (fun c => ?_) (by rw [hcal]; exact h.2.2)
  have hch : v.ch c = s.ch c := by rw [State.ch, hchannels, State.ch]
  rw [hch]
  exact ⟨h.1 c, rfl⟩

/-- A chain of acts that leave the scan, the channels and the calibration unit. -/
theorem State.channelsOk.of_linked {ps : List Part} {s t : State} (h : s.channelsOk) (hlinked : Linked ps s t)
    (hps : ∀ p ∈ [Part.scn, .channels, .cal], p ∉ ps := by decide) : t.channelsOk :=
  hlinked.keeps (fun _ _ ⟨_, ws, hv, heq⟩ hs => heq ▸ (hs.of_same fun p hp => hv.1 p (hps p hp)).run ws) h

/-! ### The calibration queue -/

theorem enqueue_carried (c : ChanNo) (t : CalType) (s : State) : Carried s (runEffect (enqueue c t s)) :=
  Carried.effect (e := enqueue c t s) (.of_kept (cal_handedOn _ s rfl) fun _ => rfl)

theorem groupZero_carried (s : State) : Carried s (groupZero s) := by
  have hfold : ∀ (l : List ChanNo) (u : State), Carried u (l.foldl groupZeroChannel u) := fun l => by
    induction l with
    | nil => exact .refl
    | cons c l ih =>
      refine fun u => Carried.trans ?_ (ih _)
      unfold groupZeroChannel
      split
      · exact enqueue_carried c _ u
      · exact .refl u
  exact hfold _ s

theorem ite_carried {s : State} {c : Prop} [Decidable c] {a b : Answer} (ha : Carried s a.state) (hb : Carried s b.state) :
    Carried s (if c then a else b).state := by
  split
  · exact ha
  · exact hb

theorem zeroChannel_carried (c : ChanNo) (code : Nat) (s : State) : Carried s (zeroChannel c code s).state :=
  ite_carried (.refl s) (ite_carried (enqueue_carried c _ s) (.refl s))

theorem serveZero_carried (form : Form) (fields : List Byte) (s : State) : Carried s (serveZero form fields s).state := by
  unfold serveZero
  split
  · split
    · exact .refl s
    · dsimp only [answer]
      exact groupZero_carried s
  · split
    · exact .refl s
    · exact zeroChannel_carried _ _ s

theorem abortHead_carried (e : CalEntry) (a : AbortCause) (s : State) : Carried s (runEffect (abortHead e a s)) :=
  Carried.effect (e := abortHead e a s) (.of_kept ((appendEvent_handedOn _ _ _ _ s).trans (endCalibration_handedOn _ _ _))
    (endCalibration_countdownsKept _ _ _))

theorem removeWaiting_carried (e : CalEntry) (s : State) : Carried s (runEffect (removeWaiting e s)) :=
  Carried.effect (e := removeWaiting e s)
    (.of_kept ((appendEvent_handedOn _ _ _ _ s).trans ((cal_handedOn _ _ rfl).trans (cal_handedOn _ _ rfl))) fun _ => rfl)

theorem cancelZero_carried (c : ChanNo) (s : State) : Carried s (runEffect (cancelZero c s)) := by
  unfold cancelZero
  split
  · rw [runEffect_nil]
    exact .refl s
  · split
    · split
      · exact abortHead_carried _ _ s
      · exact removeWaiting_carried _ s
    · rw [runEffect_nil]
      exact .of_kept (cal_handedOn _ s rfl) fun _ => rfl

theorem serveZeroCancel_carried (fields : List Byte) (s : State) : Carried s (serveZeroCancel fields s).state := by
  unfold serveZeroCancel
  split
  · exact .refl s
  · exact cancelZero_carried _ s

theorem noSamplesAbort_carried (s : State) : Carried s (noSamplesAbort s) := by
  unfold noSamplesAbort
  split
  · exact .refl s
  · split
    · exact abortHead_carried _ _ s
    · exact .refl s

/-! ### The span session -/

theorem Channel.bounded.setSpan {x : Channel} (h : x.bounded) {g : Nat} (hg : 2048 ≤ g ∧ g ≤ 8191) :
    x.stays { x with cfg := { x.cfg with span := g } } := by
  obtain ⟨bfaulty, blevel, bindex, bcountdown, bsettle, -, -, brest⟩ := h
  exact ⟨⟨bfaulty, blevel, bindex, bcountdown, bsettle, hg.1, hg.2, brest⟩, rfl⟩

theorem State.channelsOk.setSpan {s : State} (h : s.channelsOk) (c : ChanNo) {g : Nat} (hg : 2048 ≤ g ∧ g ≤ 8191) :
    (Machine.setSpan c g s).channelsOk :=
  h.modCh (g := fun x => { x with cfg := { x.cfg with span := g } }) ((h.1 c).setSpan hg)

theorem openSession_channelsOk {s : State} (h : s.channelsOk) (c : ChanNo) (step : StepSize) :
    (openSession c step s).1.channelsOk := by
  obtain ⟨-, -, -, -, -, hlow, hhigh, -⟩ := h.1 c
  refine (h.modCh (c := c) (g := Channel.startTrim) ⟨h.1 c, rfl⟩).setCal fun sp hsp => ?_
  obtain rfl := Option.some.inj hsp
  exact ⟨hlow, hhigh, hlow, hhigh⟩

theorem writeSpan_channelsOk {s : State} (h : s.channelsOk) {sp : SpanSession} (hsp : s.cal.span = some sp) {g : Nat}
    (hg : 2048 ≤ g ∧ g ≤ 8191) : (writeSpan sp g s).channelsOk := by
  obtain ⟨hlow, hhigh, -, -⟩ := h.2.2 sp hsp
  refine (h.setSpan sp.channel hg).setCal fun sp' hsp' => ?_
  obtain rfl := Option.some.inj hsp'
  exact ⟨hlow, hhigh, hg.1, hg.2⟩

theorem endSession_channelsOk {s : State} (h : s.channelsOk) (sp : SpanSession) (code : EventCode) {g : Nat}
    (hg : 2048 ≤ g ∧ g ≤ 8191) : (endSession sp code g s).1.channelsOk := by
  have hset := h.setSpan sp.channel hg
  exact (hset.modCh (c := sp.channel) (g := (·.setTrim false)) ⟨hset.1 _, rfl⟩).setCal fun sp' hsp' => nomatch hsp'

theorem withSession_channelsOk {s : State} (h : s.channelsOk) (fields : List Byte) {g : SpanSession → Answer}
    (hg : ∀ sp, s.cal.span = some sp → (g sp).state.channelsOk) : (withSession fields s g).state.channelsOk := by
  unfold withSession
  split
  · exact h
  · split
    · exact h
    · next sp hsp => exact hg sp (Option.filter_eq_some_iff.mp hsp).1

theorem clampInt_toNat_span (x : Int) : 2048 ≤ (clampInt 2048 8191 x).toNat ∧ (clampInt 2048 8191 x).toNat ≤ 8191 := by
  unfold clampInt
  split_ifs <;> omega

theorem clampNat_span (x : Nat) : 2048 ≤ clampNat 2048 8191 x ∧ clampNat 2048 8191 x ≤ 8191 := by
  unfold clampNat
  split_ifs <;> omega

theorem sessionTimedOut_channelsOk {s : State} (h : s.channelsOk) : (sessionTimedOut s).channelsOk := by
  unfold sessionTimedOut
  split
  · exact h
  · next sp hsp =>
    split
    · exact (endSession_channelsOk h sp _ ⟨(h.2.2 sp hsp).1, (h.2.2 sp hsp).2.1⟩).runEffect
    · exact h

/-! ### Results (R87, R88) -/

theorem setZero_channelsOk {s : State} (h : s.channelsOk) (c : ChanNo) {z : Int} (hz : -4096 ≤ z ∧ z ≤ 4095) :
    (setZero c z s).channelsOk := by
  obtain ⟨bfaulty, blevel, bindex, bcountdown, bsettle, blow, bhigh, -, -, brest⟩ := h.1 c
  exact h.modCh (g := fun x => { x with cfg := { x.cfg with zero := z } })
    ⟨⟨bfaulty, blevel, bindex, bcountdown, bsettle, blow, bhigh, hz.1, hz.2, brest⟩, rfl⟩

theorem calEntry_channelsOk {s : State} (h : s.channelsOk) (c : ChanNo) (code : EventCode) (v : Int) :
    (calEntry c code v s).channelsOk := h

theorem longResult_channelsOk {s : State} (h : s.channelsOk) (c : ChanNo) (zt : Nat) : (longResult c zt s).channelsOk := by
  unfold longResult
  split
  · exact (setZero_channelsOk h c ⟨by omega, by omega⟩).setCal h.2.2
  · exact h

theorem shortResult_channelsOk {s : State} (h : s.channelsOk) (c : ChanNo) (zt : Nat) : (shortResult c zt s).channelsOk := by
  obtain ⟨-, -, -, -, -, -, -, hlow, hhigh, -⟩ := h.1 c
  simp only [shortResult]
  split
  · exact h
  · split
    · exact calEntry_channelsOk (setZero_channelsOk h c ⟨by omega, by omega⟩) _ _ _
    · refine calEntry_channelsOk (calEntry_channelsOk (setZero_channelsOk h c ?_) _ _ _) _ _ _
      split <;> omega

theorem finishCalibration_channelsOk {s : State} (h : s.channelsOk) (e : CalEntry) (total : Nat) :
    (finishCalibration e total s).1.channelsOk := by
  have hends : ∀ u : State, u.channelsOk → (endCalibration e.channel [] u).1.channelsOk := fun u hu =>
    hu.of_carried (.of_kept (endCalibration_handedOn _ _ u) (endCalibration_countdownsKept _ _ u))
  rw [finishCalibration_eq]
  refine hends _ ?_
  split
  · exact longResult_channelsOk h _ _
  · exact shortResult_channelsOk h _ _

theorem receiveSum_channelsOk {s : State} (h : s.channelsOk) (e : CalEntry) (w : Nat) : (receiveSum e w s).1.channelsOk := by
  have hsum : ({ s with cal := s.cal.summed w s.tb.uptime } : State).channelsOk :=
    h.setCal (show (s.cal.summed w s.tb.uptime).spanOk from h.2.2)
  by_cases hlast : e.type.sums ≤ s.cal.received + 1
  · have hfinish := finishCalibration_channelsOk hsum e (s.cal.total + w)
    rw [receiveSum]
    dsimp only
    rw [if_pos hlast]
    exact hfinish
  · rw [receiveSum_goesOn rfl (Nat.not_le.mp hlast)]
    exact hsum

theorem routeHead_channelsOk {s : State} (h : s.channelsOk) (c : ChanNo) (w : Nat) : (routeHead c w s).1.channelsOk := by
  unfold routeHead
  split
  · exact h
  · split
    · exact receiveSum_channelsOk h _ w
    · exact h

/-! ### The completed window -/

theorem judgedLevel_le (cfg : ChanConfig) (f : Int) (level : Nat) : judgedLevel cfg f level ≤ 3 := by
  unfold judgedLevel riseLevel keepLevel
  split_ifs <;> simp

theorem publishedLevel_le {s : State} (c : ChanNo) (w : Nat) (h : (s.ch c).level ≤ 3) : publishedLevel s c w ≤ 3 := by
  unfold publishedLevel
  split
  · exact h
  · exact judgedLevel_le _ _ _

theorem publishedIndex_le {s : State} (c : ChanNo) (w : Nat) (h : (s.ch c).index ≤ 250) : publishedIndex s c w ≤ 250 := by
  unfold publishedIndex channelIndex
  split
  · exact Nat.min_le_left _ _
  · exact h

theorem publishedChannel_stays {s : State} (c : ChanNo) (w : Nat) (h : (s.ch c).bounded) (henabled : (s.ch c).cfg.enabled = true) :
    (s.ch c).stays (publishedChannel s c w) := by
  obtain ⟨bfaulty, blevel, bindex, bcountdown, bsettle, blow, bhigh, bzlow, bzhigh, bwindow, -⟩ := h
  refine ⟨⟨bfaulty, publishedLevel_le c w blevel, publishedIndex_le c w bindex, ?_, bsettle, blow, bhigh, bzlow, bzhigh, bwindow,
    ?_⟩, rfl⟩
  · simp only [publishedChannel]
    split <;> omega
  · simp [publishedChannel, henabled]

theorem alarmEntry_channelsOk {s : State} (h : s.channelsOk) (c : ChanNo) (before after : Nat) (f : Int) :
    (alarmEntry c before after f s).channelsOk := by
  unfold alarmEntry
  split
  · exact h
  · split <;> exact h

theorem lowerUnsettled_channelsOk {s : State} (h : s.channelsOk) (c : ChanNo) : (lowerUnsettled c s).channelsOk := by
  unfold lowerUnsettled
  split
  · exact h
  · next sp hsp =>
    split
    · refine h.setCal fun sp' hsp' => ?_
      obtain rfl := Option.some.inj hsp'
      exact h.2.2 sp hsp
    · exact h

theorem publish_channelsOk {s : State} (h : s.channelsOk) {c : ChanNo} (henabled : (s.ch c).cfg.enabled = true) (w : Nat) :
    (publish c w s).channelsOk :=
  alarmEntry_channelsOk (lowerUnsettled_channelsOk (h.setCh (publishedChannel_stays c w (h.1 c) henabled)) c) _ _ _ _

/-- A channel in SENSOR FAULT or VALID is enabled. -/
theorem Channel.bounded.setState {x y : Channel} (h : x.bounded) (henabled : x.cfg.enabled = true) (hstate : y.state ≠ .disabled)
    (hfaulty : y.faulty ≤ 2) (hy : { y with state := x.state, faulty := x.faulty } = x) : x.stays y := by
  have hcfg : y.cfg = x.cfg := (congrArg Channel.cfg hy :)
  have hlevel : y.level = x.level := (congrArg Channel.level hy :)
  have hindex : y.index = x.index := (congrArg Channel.index hy :)
  have hcountdown : y.countdown = x.countdown := (congrArg Channel.countdown hy :)
  have hwindow : y.window = x.window := (congrArg Channel.window hy :)
  obtain ⟨-, blevel, bindex, bcountdown, bsettle, blow, bhigh, bzlow, bzhigh, bwindow, -⟩ := h
  rw [Channel.stays, Channel.bounded, hcfg, hlevel, hindex, hcountdown, hwindow]
  exact ⟨⟨hfaulty, blevel, bindex, bcountdown, bsettle, blow, bhigh, bzlow, bzhigh, bwindow, by simp [hstate, henabled]⟩, rfl⟩

theorem faultyWindowDone_channelsOk {s : State} (h : s.channelsOk) {c : ChanNo} (henabled : (s.ch c).cfg.enabled = true) :
    (faultyWindowDone c s).1.channelsOk := by
  simp only [faultyWindowDone]
  split
  · exact h.setCh ((h.1 c).setState henabled (y := { s.ch c with state := .sensorFault, faulty := 2 }) (by simp) (by simp) rfl)
  · obtain ⟨-, brest⟩ := h.1 c
    exact h.setCh (x := { s.ch c with faulty := min 2 ((s.ch c).faulty + 1) }) ⟨⟨Nat.min_le_left _ _, brest⟩, rfl⟩

theorem goodWindowFirst_channelsOk {s : State} (h : s.channelsOk) {c : ChanNo} (henabled : (s.ch c).cfg.enabled = true) :
    (goodWindowFirst c s).channelsOk ∧ ((goodWindowFirst c s).ch c).cfg = (s.ch c).cfg := by
  unfold goodWindowFirst
  split
  · refine ⟨h.setCh ((h.1 c).setState henabled
      (y := { s.ch c with state := if (s.ch c).published then .valid else .noValue, faulty := 0 }) ?_ (by simp) rfl), ?_⟩
    · dsimp only
      split <;> decide
    · simp [recoverChannel]
  · obtain ⟨-, brest⟩ := h.1 c
    exact ⟨h.setCh (x := { s.ch c with faulty := 0 }) ⟨⟨Nat.zero_le _, brest⟩, rfl⟩, by simp⟩

theorem goodWindowDone_channelsOk {s : State} (h : s.channelsOk) {c : ChanNo} (henabled : (s.ch c).cfg.enabled = true) (w : Nat) :
    (goodWindowDone c w s).channelsOk := by
  obtain ⟨hfirst, hcfg⟩ := goodWindowFirst_channelsOk h henabled
  unfold goodWindowDone
  split
  · exact (routeHead_channelsOk (hfirst.run _) c w).runEffect
  · exact State.channelsOk.runEffect (e := publishWindow c w _) (publish_channelsOk hfirst (by rwa [hcfg]) w)

theorem takeSample_channelsOk {s : State} (h : s.channelsOk) {c : ChanNo} (henabled : (s.ch c).cfg.enabled = true) (code : Code) :
    (takeSample c code s).channelsOk := by
  obtain ⟨bfaulty, blevel, bindex, bcountdown, bsettle, blow, bhigh, bzlow, bzhigh, -, bdisabled⟩ := h.1 c
  have hwindow : ∀ l : List Code, l.length < 4 → (s.setCh c { s.ch c with window := l }).channelsOk := fun l hl =>
    h.setCh ⟨⟨bfaulty, blevel, bindex, bcountdown, bsettle, blow, bhigh, bzlow, bzhigh, hl, bdisabled⟩, rfl⟩
  simp only [takeSample]
  split
  · next hlength => exact hwindow _ hlength
  · have hempty := hwindow [] (by simp)
    have hstill : ((s.setCh c { s.ch c with window := [] }).ch c).cfg.enabled = true := by simp [henabled]
    unfold windowDone
    split
    · exact (faultyWindowDone_channelsOk hempty hstill).runEffect
    · exact goodWindowDone_channelsOk hempty hstill _

/-! ### The scan -/

/-- The channels and the session within their bounds, whatever the scan visits. -/
abbrev State.channelsBounded (s : State) : Prop := (∀ c : ChanNo, (s.ch c).bounded) ∧ s.cal.spanOk

theorem State.channelsOk.bounded {s : State} (h : s.channelsOk) : s.channelsBounded := ⟨h.1, h.2.2⟩

/-- The scan has come to the visit of an enabled channel, or to none. -/
theorem channelsOk_of_settled {s : State} (h : s.channelsBounded) {k : Scan} (hk : k.settled s) :
    ({ s with scn := k } : State).channelsOk := by
  refine ⟨h.1, fun hvisit => ?_, h.2⟩
  rcases hk with hidle | hpausing | ⟨-, c, hc, hstate⟩
  · exact absurd (show k.state = _ ∨ k.state = _ from hvisit) (by simp [hidle])
  · exact absurd (show k.state = _ ∨ k.state = _ from hvisit) (by simp [hpausing])
  · obtain ⟨-, -, -, -, -, -, -, -, -, -, hdisabled⟩ := h.1 c
    exact ⟨c, hc, show (s.ch c).cfg.enabled = true by simpa [hdisabled] using hstate⟩

theorem endVisit_channelsOk {s : State} (h : s.channelsBounded) : (endVisit s).channelsOk := by
  rw [endVisit_eq]
  exact channelsOk_of_settled h (endVisit_settled s)

theorem beginVisit_channelsOk {s : State} (h : s.channelsBounded) : (beginVisit s).channelsOk := by
  have hsettled := beginVisit_settled s
  rw [beginVisit] at hsettled ⊢
  rw [beginVisits_eq]
  exact channelsOk_of_settled h hsettled

theorem Channel.bounded.emptied {x : Channel} (h : x.bounded) : x.stays { x with window := [] } := by
  obtain ⟨bfaulty, blevel, bindex, bcountdown, bsettle, blow, bhigh, bzlow, bzhigh, -, bdisabled⟩ := h
  exact ⟨⟨bfaulty, blevel, bindex, bcountdown, bsettle, blow, bhigh, bzlow, bzhigh, Nat.zero_lt_succ _, bdisabled⟩, rfl⟩

theorem serveScanStart_channelsOk {s : State} (h : s.channelsOk) (fields : List Byte) : (serveScanStart fields s).state.channelsOk := by
  have hstart : ∀ entry, (startScan entry s).channelsOk := fun entry =>
    beginVisit_channelsOk ⟨fun c => (emptyWindows_ch s c ▸ (h.1 c).emptied.1 : ((emptyWindows s).ch c).bounded), h.2.2⟩
  simp only [serveScanStart]
  split_ifs
  · exact h
  · exact h
  · exact h
  · exact hstart _

theorem serveScanStop_channelsOk {s : State} (h : s.channelsOk) (fields : List Byte) : (serveScanStop fields s).state.channelsOk := by
  have hstopped : ({ s with scn := s.scn.stopped } : State).channelsOk := by
    refine h.setScn ?_
    unfold Scan.stopped
    split
    · exact h.2.1
    · rintro (hn | hn) <;> exact nomatch hn
    · exact fun _ => h.2.1 (by simp [*])
    · exact fun _ => h.2.1 (by simp [*])
  unfold serveScanStop
  split_ifs
  · exact h
  · exact hstopped

theorem serveSetScan_channelsOk {s : State} (h : s.channelsOk) (fields : List Byte) : (serveSetScan fields s).state.channelsOk := by
  have hreplaced : s.scn.state = .idle → ∀ list mode pause, ({ s with scn := s.scn.replaced list mode pause } : State).channelsOk :=
    fun hidle list mode pause => channelsOk_of_settled h.bounded (.inl hidle)
  unfold serveSetScan setScan
  split
  · exact h
  · split
    · exact h
    · next hfree => exact hreplaced (by simpa using (not_or.mp hfree).1) _ _ _

theorem settled_channelsOk {s : State} (h : s.channelsOk) : (settled s).channelsOk := by
  unfold settled
  split
  · next hover =>
    refine h.setScn fun _ => h.2.1 (.inl ?_)
    simp only [State.settleOver, Bool.and_eq_true, beq_iff_eq] at hover
    exact hover.1
  · exact h

theorem pauseEnded_channelsOk {s : State} (h : s.channelsOk) : (pauseEnded s).channelsOk := by
  unfold pauseEnded
  split
  · exact beginVisit_channelsOk h.bounded
  · exact h

theorem converted_channelsOk {s : State} (h : s.channelsOk) (code : Code) : (converted code s).channelsOk := by
  unfold converted
  split
  · next hover =>
    refine endVisit_channelsOk (State.channelsOk.bounded ?_)
    simp only [State.conversionOver, Bool.and_eq_true, beq_iff_eq] at hover
    obtain ⟨c, hc, henabled⟩ := h.2.1 (.inr hover.1)
    rw [sampleTaken, hc]
    exact takeSample_channelsOk h henabled code
  · exact h

/-! ### SET CHANNEL and READ VALUES -/

theorem takenChannel_bounded (fs : List Byte) (ts cs : Option ChanNo) : (restartedChannel (takenChannel fs ts cs)).bounded := by
  have hspan := clampNat_span (u16 fs 15)
  have hzero : -4096 ≤ clampInt (-4096) 4095 (s16 fs 13) ∧ clampInt (-4096) 4095 (s16 fs 13) ≤ 4095 := by
    unfold clampInt
    split_ifs <;> omega
  refine ⟨Nat.zero_le _, Nat.zero_le _, Nat.zero_le _, Nat.zero_le _, Nat.min_le_right _ _, hspan.1, hspan.2, hzero.1, hzero.2,
    Nat.zero_lt_succ _, ?_⟩
  simp only [restartedChannel]
  cases (takenChannel fs ts cs).enabled <;> simp

theorem restartChannel_channelsOk {s : State} (h : s.channelsOk) {c : ChanNo} {cfg : ChanConfig} (hcfg : (restartedChannel cfg).bounded) :
    (restartChannel c cfg s).1.channelsOk := by
  obtain ⟨hscn, hcal⟩ := restarted_scn_cal c cfg s
  have hbounded : (restarted c cfg s).channelsBounded := by
    refine ⟨fun k => ?_, by rw [hcal]; exact h.2.2⟩
    rw [restarted_ch]
    split
    · exact hcfg
    · exact h.1 k
  rw [restartChannel_fst]
  split
  · exact endVisit_channelsOk hbounded
  · next hother =>
    refine ⟨hbounded.1, ?_, hbounded.2⟩
    rw [State.visitOk, hscn]
    intro hvisit
    obtain ⟨k, hk, henabled⟩ := h.2.1 hvisit
    refine ⟨k, hk, ?_⟩
    have hne : k ≠ c := fun e => hother (by simp [State.visiting, hvisit, hk, e])
    rwa [restarted_ch, if_neg hne]

theorem serveSetChannel_channelsOk {s : State} (h : s.channelsOk) (fields : List Byte) :
    (serveSetChannel fields s).state.channelsOk := by
  unfold serveSetChannel setChannel
  split
  · split
    · exact h
    · split
      · exact State.channelsOk.runEffect (e := restartChannel _ _ s) (restartChannel_channelsOk h (takenChannel_bounded _ _ _))
      · exact h
  · exact h

theorem clearRead_channelsOk {s : State} (h : s.channelsOk) (mask : Nat) : (clearRead mask s).channelsOk := by
  refine h.of_stays rfl (fun c => ?_) h.2.2
  have hch : (clearRead mask s).ch c = if mask.testBit c.val then (s.ch c).readOut else s.ch c := by
    simp [clearRead, State.ch]
  rw [hch]
  split
  · exact ⟨h.1 c, rfl⟩
  · exact ⟨h.1 c, rfl⟩

theorem serveReadValues_channelsOk {s : State} (h : s.channelsOk) (fields : List Byte) :
    (serveReadValues fields s).state.channelsOk := by
  simp only [serveReadValues]
  split_ifs
  · exact h
  · exact clearRead_channelsOk h _

theorem serveSpanEnter_channelsOk {s : State} (h : s.channelsOk) (fields : List Byte) :
    (serveSpanEnter fields s).state.channelsOk := by
  unfold serveSpanEnter enterSpan
  split
  · exact h
  · split_ifs
    · exact h
    · exact State.channelsOk.runEffect (e := openSession _ _ s) (openSession_channelsOk h _ _)
    · exact h

theorem purged_channelsOk {s : State} (h : s.channelsOk) : (purged s).channelsOk := by
  unfold purged
  split
  · exact h.setCal (show Cal.spanOk { s.cal with phase := .accumulating, received := 0, total := 0, lastSum := s.tb.uptime } from h.2.2)
  · exact h

/-! ### An entry into INCIDENT -/

theorem clearForIncident_carried (s : State) : Carried s (clearForIncident s) := by
  have hclosed : ∀ c u, Carried u (closeCalibration c u) := fun c u =>
    .of_kept ((modCh_handedOn c _ u rfl).trans (cal_handedOn _ _ rfl))
      (modCh_countdownsKept (g := fun x => { x.setCalibrating false with filterInit := false }) rfl)
  have hemptied : ∀ u : State, Carried u { u with cal := { u.cal with queue := [], phase := .none } } := fun u =>
    .of_kept (cal_handedOn _ u rfl) fun _ => rfl
  have hentry : ∀ c, Carried s (abortEntry c .incident false s) := fun c =>
    .of_kept (appendEvent_handedOn _ _ _ _ s) fun _ => rfl
  unfold clearForIncident
  split
  · exact .refl s
  · next e _ =>
    refine ((hentry e.channel).trans ?_).trans (hemptied _)
    split
    · exact hclosed _ _
    · exact .refl _

theorem takeContribution_carried (c : ChanNo) (s : State) : Carried s (takeContribution c s) :=
  .of_kept (takeContribution_handedOn c s) fun _ => rfl

theorem clearQueue_carried (s : State) : Carried s (clearQueue s) := by
  unfold clearQueue
  split
  · exact clearForIncident_carried s
  · split
    · exact (clearForIncident_carried s).trans (takeContribution_carried _ _)
    · exact clearForIncident_carried s

theorem clearSession_channelsOk {s : State} (h : s.channelsOk) : (clearSession s).channelsOk := by
  unfold clearSession
  split
  · exact h
  · next sp hsp =>
    have hended := endSession_channelsOk h sp .spanAborted ⟨(h.2.2 sp hsp).1, (h.2.2 sp hsp).2.1⟩
    split
    · exact hended.of_carried (takeContribution_carried _ _)
    · exact hended

theorem handRegime_channelsOk {s : State} (h : s.channelsOk) (before : Regime) : (handRegime before s).channelsOk := by
  have hcal : (handedToCal s).channelsOk := by
    unfold handedToCal
    split
    · rw [clearWork_eq]
      have hmark : ({ s with rau := { s.rau with fallWaiting := false } } : State).channelsOk := h
      exact clearSession_channelsOk (hmark.of_carried (clearQueue_carried _))
    · exact h
  rw [handRegime_eq]
  split
  · exact hcal
  · exact hcal.of_linked (.of_alters (regimeDoors_alters _) : Linked doorParts _ _)

theorem enterRegime_channelsOk {s : State} (h : s.channelsOk) (r : Regime) (params : Rau → Rau) :
    (enterRegime r params s).channelsOk :=
  State.channelsOk.of_linked (handRegime_channelsOk (s := storeRegime r params s) h _) (setFans_linked _)

/-! ### The resets -/

theorem initial_bounded : Channel.initial.bounded := by decide

theorem fullReset_channelsOk (straps : Straps) (s : State) : (fullReset straps s).channelsOk := by
  have hch : ∀ c, (fullReset straps s).ch c = Channel.initial := fun c => by simp [State.ch, fullReset]
  exact ⟨fun c => hch c ▸ initial_bounded, fun h => absurd h (by rintro (hn | hn) <;> exact nomatch hn), fun sp hsp => nomatch hsp⟩

theorem restartedChannel_bounded {x : Channel} (h : x.bounded) : (restartedChannel x.cfg).bounded := by
  obtain ⟨-, -, -, -, bsettle, blow, bhigh, bzlow, bzhigh, -, -⟩ := h
  refine ⟨Nat.zero_le _, Nat.zero_le _, Nat.zero_le _, Nat.zero_le _, bsettle, blow, bhigh, bzlow, bzhigh, Nat.zero_lt_succ _, ?_⟩
  simp only [restartedChannel]
  cases x.cfg.enabled <;> simp

theorem abortSession_channelsOk {s : State} (h : s.channelsOk) : (abortSession s).channelsOk := by
  unfold abortSession
  split
  · exact h
  · next sp hsp => exact calEntry_channelsOk (h.setSpan sp.channel ⟨(h.2.2 sp hsp).1, (h.2.2 sp hsp).2.1⟩) _ _ _

theorem nodeReset_channelsOk {s : State} (h : s.channelsOk) : (nodeReset s).channelsOk := by
  have haborted := abortSession_channelsOk (s := resetLif (appendEvent .node .nodeReset none none s)) h
  refine ⟨fun c => ?_, fun hvisit => absurd hvisit (by rintro (hn | hn) <;> exact nomatch hn), fun sp hsp => nomatch hsp⟩
  rw [nodeReset, ch_reset]
  exact restartedChannel_bounded (haborted.1 c)

/-! ### Every step -/

theorem channelsOk_invariant : PlantInvariant State.channelsOk := by
  refine plantInvariant_of_acts [.scn, .channels, .cal] (fun s lif tb evq choices pending hs => hs)
    (fun s v ws hv hs => (hs.of_same hv).run ws) (fun i r s0 s fields hi hmeets hs => ?_) (fun i s t hi htb hmeets hs hexec => ?_)
    (fun s hs => ?_) (fun straps s _ => fullReset_channelsOk straps s) (fun s hs => nodeReset_channelsOk hs)
  · cases i
    case readValues => exact serveReadValues_channelsOk hs fields
    case setNode => exact hs.of_linked (serveSetNode_linked fields s)
    case setDoor => exact hs.of_linked (serveSetDoor_linked fields s)
    case doorCommand => exact hs.of_linked (serveDoorCommand_linked fields s)
    case setChannel => exact serveSetChannel_channelsOk hs fields
    case setScan => exact serveSetScan_channelsOk hs fields
    case scanStart => exact serveScanStart_channelsOk hs fields
    case scanStop => exact serveScanStop_channelsOk hs fields
    case zero form _ => exact hs.of_carried (serveZero_carried form fields s)
    case zeroCancel => exact hs.of_carried (serveZeroCancel_carried fields s)
    case spanEnter => exact serveSpanEnter_channelsOk hs fields
    case spanStep => exact withSession_channelsOk hs fields fun sp hsp => writeSpan_channelsOk hs hsp (clampInt_toNat_span _)
    case spanSet => exact withSession_channelsOk hs fields fun sp hsp => writeSpan_channelsOk hs hsp (clampNat_span _)
    case spanExit =>
      exact withSession_channelsOk hs fields fun sp hsp =>
        State.channelsOk.runEffect (e := endSession sp .spanExit sp.currentG s)
          (endSession_channelsOk hs sp _ (hs.2.2 sp hsp).2.2)
    case regime => exact enterRegime_channelsOk hs _ _
    all_goals simp [Instr.request, actParts] at hi hmeets
  · cases i
    all_goals simp only [Instr.request, reduceCtorEq] at hi
    all_goals obtain rfl := Host.Outcome.next.inj hexec
    case settleTimeExpiry => exact settled_channelsOk hs
    case passPauseExpiry => exact pauseEnded_channelsOk hs
    case conversionComplete code => exact converted_channelsOk hs code
    case purgeTimeExpiry => exact purged_channelsOk hs
    case noSamples => exact hs.of_carried (noSamplesAbort_carried s)
    case spanTimeout => exact sessionTimedOut_channelsOk hs
    case inhibitOn => exact hs.of_linked (inhibitActive_linked s)
    case inhibitOff => exact hs.of_linked (inhibitInactive_linked s)
    case silenceTimeout => exact hs.of_linked (silenceExpiry_linked s)
    all_goals simp [actParts, eventParts] at hmeets htb
  · exact ⟨hs.1, hs.2.1, hs.2.2⟩

/-- Settles O58: hand-overs keep a channel's bounds, and so does every act on a channel, the scan or the session. -/
theorem channelBoundsKept : Obligations.ChannelBoundsKept := fun _ _ hs hstep => channelsOk_invariant.step hs hstep

end Sys2Proof.Machine

end

/-! PROOFS. The calibration queue and the session, with hand-overs still to come: an entry that waits for the next head is taken by the
hand-over that names it, and every other hand-over leaves the queue's order, or ends the head's phase. -/

section

namespace Sys2Proof.Machine

/-! ### The queue while hand-overs wait -/

/-- The channel is that of a head in PURGING or ACCUMULATING. -/
def State.headOn (s : State) (c : ChanNo) : Bool := s.cal.phase.airOn && s.cal.queue.head?.map (·.channel) == some c

/-- The calibration queue with these hand-overs still to come: a queue without a head waits for one. -/
structure State.queueHeld (ws : List Work) (s : State) : Prop where
  nodup : (s.cal.queue.map (·.channel)).Nodup
  filled : s.cal.phase ≠ .none → s.cal.queue ≠ []
  next : s.cal.phase = .none → s.cal.queue ≠ [] → .nextHead ∈ ws
  valve : s.cal.valve = s.cal.phase.airOn
  calibrating : ∀ c : ChanNo, (s.ch c).flags.calibrating = s.headOn c

theorem State.queueOk.held {s : State} (h : s.queueOk) (ws : List Work) : s.queueHeld ws := by
  obtain ⟨hnodup, hempty, hvalve, hcalibrating⟩ := h
  exact ⟨hnodup, fun hphase hqueue => hphase (hempty.mpr hqueue), fun hphase hqueue => absurd (hempty.mp hphase) hqueue, hvalve,
    hcalibrating⟩

theorem State.queueHeld.ok {s : State} (h : s.queueHeld []) : s.queueOk := by
  refine ⟨h.nodup, ⟨fun hphase => ?_, fun hqueue => ?_⟩, h.valve, h.calibrating⟩
  · by_contra hqueue
    exact nomatch h.next hphase hqueue
  · by_contra hphase
    exact h.filled hphase hqueue

/-- What the calibration invariants read of a channel. -/
def Channel.calMarks (x : Channel) : Bool × Bool × Nat := (x.flags.calibrating, x.flags.trim, x.cfg.span)

/-- What they read of the calibration unit. -/
def Cal.seen (k : Cal) : List CalEntry × CalPhase × Bool × Option (ChanNo × Nat) :=
  (k.queue, k.phase, k.valve, k.span.map fun sp => (sp.channel, sp.currentG))

/-- The two states look alike to the calibration invariants. -/
structure CalSeen (s t : State) : Prop where
  marks : ∀ c : ChanNo, (t.ch c).calMarks = (s.ch c).calMarks
  cal : t.cal.seen = s.cal.seen

namespace CalSeen

theorem refl (s : State) : CalSeen s s := ⟨fun _ => rfl, rfl⟩

theorem trans {s t u : State} (h : CalSeen s t) (k : CalSeen t u) : CalSeen s u :=
  ⟨fun c => (k.marks c).trans (h.marks c), k.cal.trans h.cal⟩

theorem of_same {s t : State} (hchannels : t.channels = s.channels) (hcal : t.cal = s.cal) : CalSeen s t :=
  ⟨fun c => by rw [State.ch, hchannels, State.ch], by rw [hcal]⟩

theorem of_parts {ps : List Part} {s t : State} (h : sameBut ps s t) (hps : .channels ∉ ps ∧ .cal ∉ ps := by decide) : CalSeen s t :=
  .of_same (h .channels hps.1) (h .cal hps.2)

theorem setCh {s : State} {c : ChanNo} {x : Channel} (h : x.calMarks = (s.ch c).calMarks) : CalSeen s (s.setCh c x) := by
  refine ⟨fun k => ?_, rfl⟩
  rw [State.ch_setCh]
  split
  · next hk => rw [hk, h]
  · rfl

variable {s t : State} (h : CalSeen s t)

include h

theorem queue : t.cal.queue = s.cal.queue := congrArg (·.1) h.cal
theorem phase : t.cal.phase = s.cal.phase := congrArg (·.2.1) h.cal
theorem valve : t.cal.valve = s.cal.valve := congrArg (·.2.2.1) h.cal
theorem calibrating (c : ChanNo) : (t.ch c).flags.calibrating = (s.ch c).flags.calibrating := congrArg (·.1) (h.marks c)
theorem trim (c : ChanNo) : (t.ch c).flags.trim = (s.ch c).flags.trim := congrArg (·.2.1) (h.marks c)
theorem span (c : ChanNo) : (t.ch c).cfg.span = (s.ch c).cfg.span := congrArg (·.2.2) (h.marks c)

theorem headOn (c : ChanNo) : t.headOn c = s.headOn c := by rw [State.headOn, h.phase, h.queue, State.headOn]

theorem queueHeld {ws : List Work} (hs : s.queueHeld ws) : t.queueHeld ws := by
  obtain ⟨hnodup, hfilled, hnext, hvalve, hcalibrating⟩ := hs
  rw [← h.phase, ← h.queue] at hnext hfilled
  rw [← h.queue] at hnodup
  rw [← h.valve, ← h.phase] at hvalve
  exact ⟨hnodup, hfilled, hnext, hvalve, fun c => by rw [h.calibrating, h.headOn, hcalibrating]⟩

theorem session : t.cal.span.map (fun sp => (sp.channel, sp.currentG)) = s.cal.span.map fun sp => (sp.channel, sp.currentG) :=
  congrArg (·.2.2.2) h.cal

theorem inSession (c : ChanNo) : t.inSession c = s.inSession c := by
  have hchannel : ∀ u : State, u.inSession c = (u.cal.span.map fun sp => (sp.channel, sp.currentG)).any (·.1 == c) := fun u => by
    unfold State.inSession
    cases u.cal.span <;> rfl
  rw [hchannel, hchannel, h.session]

theorem sessionOk (hs : s.sessionOk) : t.sessionOk := by
  refine ⟨fun c => by rw [h.trim, h.inSession]; exact hs.1 c, fun sp hsp => ?_⟩
  have hmap := h.session
  rw [Option.mem_def.mp hsp, Option.map_some] at hmap
  obtain ⟨sp', hsp', heq⟩ := Option.map_eq_some_iff.mp hmap.symm
  obtain ⟨hspan, hqueued⟩ := hs.2 sp' hsp'
  obtain ⟨hchannel, hg⟩ := Prod.mk.inj heq
  rw [h.span, Cal.queued, h.queue, ← hchannel, ← hg]
  exact ⟨hspan, hqueued⟩

end CalSeen

/-! ### The hand-overs (R82, R83, R89, R90) -/

theorem State.queueHeld.tail {s : State} {w : Work} {rest : List Work} (h : s.queueHeld (w :: rest)) (hw : w ≠ .nextHead)
    (ws : List Work) : s.queueHeld (ws ++ rest) :=
  { h with next := fun hphase hqueue => List.mem_append.mpr (.inr ((List.mem_cons.mp (h.next hphase hqueue)).resolve_left hw.symm)) }

/-- A head that leaves its phase, and the queue, or stands at its tail again. -/
theorem State.queueHeld.endCalibration {s : State} {ws : List Work} (h : s.queueHeld ws) {e : CalEntry} (hhead : s.cal.head = some e)
    {requeued : List CalEntry} (hrequeued : requeued = [] ∨ ∃ x : CalEntry, requeued = [x] ∧ x.channel = e.channel)
    (rest : List Work) : (endCalibration e.channel requeued s).1.queueHeld ((Machine.endCalibration e.channel requeued s).2 ++ rest) := by
  obtain ⟨tail, hqueue⟩ : ∃ tail, s.cal.queue = e :: tail := List.head?_eq_some_iff.mp hhead
  have hnodup := h.nodup
  rw [hqueue, List.map_cons, List.nodup_cons] at hnodup
  have hafter : (Machine.endCalibration e.channel requeued s).1.cal.queue = tail ++ requeued := by
    simp [Machine.endCalibration, dropHead, closeCalibration, hqueue]
  refine ⟨?_, fun hphase => absurd rfl hphase, fun _ _ => by simp [Machine.endCalibration], rfl, fun c => ?_⟩
  · rw [hafter]
    rcases hrequeued with rfl | ⟨x, rfl, hx⟩
    · rw [List.append_nil]
      exact hnodup.2
    · rw [List.map_append, List.map_singleton, hx]
      exact List.nodup_append_comm.mp (List.nodup_cons.mpr hnodup)
  · have hflags : ((Machine.endCalibration e.channel requeued s).1.ch c).flags.calibrating =
        if c = e.channel then false else (s.ch c).flags.calibrating := by
      change ((s.modCh e.channel fun x => { x.setCalibrating false with filterInit := false }).ch c).flags.calibrating = _
      rw [State.ch_modCh]
      split <;> rfl
    have hquiet : (Machine.endCalibration e.channel requeued s).1.headOn c = false := rfl
    rw [hflags, hquiet]
    split
    · rfl
    · next hc => simp [h.calibrating, State.headOn, hqueue, Ne.symm hc]

theorem appendEvent_calSeen (src : Source) (code : EventCode) (l : Option Nat) (v : Option Int) (s : State) :
    CalSeen s (appendEvent src code l v s) := .of_same rfl rfl

theorem loadCountdowns_calSeen (s : State) : CalSeen s (loadCountdowns s) := by
  refine ⟨fun c => ?_, rfl⟩
  rw [loadCountdowns_ch, Channel.loadCountdown]
  split <;> rfl

/-- More hand-overs can only help a queue that waits for its head. -/
theorem State.queueHeld.mono {s : State} {ws vs : List Work} (h : s.queueHeld ws) (hsub : ws ⊆ vs) : s.queueHeld vs :=
  { h with next := fun hphase hqueue => hsub (h.next hphase hqueue) }

theorem quietLost_queueHeld {s : State} {ws : List Work} (h : s.queueHeld ws) :
    (quietLost s).1.queueHeld ((quietLost s).2 ++ ws) := by
  unfold quietLost
  split
  · exact h
  · next e hhead =>
    split
    · refine State.queueHeld.endCalibration (s := abortEntry e.channel .quietLost (!e.retried) s)
        ((appendEvent_calSeen _ _ _ _ s).queueHeld h) hhead ?_ _
      cases e.retried
      · exact .inr ⟨_, rfl, rfl⟩
      · exact .inl rfl
    · exact h

theorem calHears_queueHeld {s : State} {ws : List Work} (a b : Option FanState) (h : s.queueHeld ws) :
    (calHears a b s).1.queueHeld ((calHears a b s).2 ++ ws) := by
  unfold calHears
  split
  · exact quietLost_queueHeld h
  · exact h.mono (List.subset_append_right _ _)

theorem fanMoved_queueHeld {s : State} {ws : List Work} (a b : Option FanState) (h : s.queueHeld ws) :
    (fanMoved a b s).1.queueHeld ((fanMoved a b s).2 ++ ws) := by
  have hloaded : (if loadsCountdown a b then loadCountdowns s else s).queueHeld ws := by
    split
    · exact (loadCountdowns_calSeen s).queueHeld h
    · exact h
  refine (calHears_queueHeld a b hloaded).mono ?_
  rw [fanMoved, List.append_assoc]
  exact ((List.Sublist.refl _).append (List.sublist_append_right _ _)).subset

theorem quietTest_queueHeld {s : State} {ws : List Work} (h : s.queueHeld ws) :
    (quietTest s).1.queueHeld ((quietTest s).2 ++ ws) := by
  unfold quietTest
  split
  · exact h
  · next e hhead =>
    split
    · next hquiet =>
      refine ⟨h.nodup, fun _ => h.filled (by simp [hquiet.1]), fun hphase => (nomatch hphase), rfl, fun c => ?_⟩
      have hflags : ((enterPurging e s).ch c).flags.calibrating =
          if c = e.channel then true else (s.ch c).flags.calibrating := by
        change ((s.modCh e.channel (·.setCalibrating true)).ch c).flags.calibrating = _
        rw [State.ch_modCh]
        split <;> rfl
      have hhead' : s.cal.queue.head? = some e := hhead
      have hon : (enterPurging e s).headOn c = (some e.channel == some c) := by
        change (CalPhase.airOn .purging && s.cal.queue.head?.map (·.channel) == some c) = _
        rw [hhead']
        rfl
      rw [hflags, hon, h.calibrating]
      by_cases hc : c = e.channel
      · simp [hc]
      · simp [hc, Ne.symm hc, State.headOn, hquiet.1, CalPhase.airOn]
    · exact h

theorem nextHead_queueHeld {s : State} {rest : List Work} (h : s.queueHeld (.nextHead :: rest)) :
    (nextHead s).1.queueHeld ((nextHead s).2 ++ rest) := by
  unfold nextHead
  split
  · next hhead =>
    have hempty : s.cal.queue = [] := List.head?_eq_none_iff.mp hhead
    exact { h with next := fun _ hqueue => absurd hempty hqueue }
  · next e hhead =>
    split
    · next hnone =>
      have hfull : s.cal.queue ≠ [] := fun hnil => by simp [Cal.head, hnil] at hhead
      refine ⟨h.nodup, fun _ => hfull, fun hphase => (nomatch hphase), ?_, fun c => ?_⟩
      · rw [h.valve, hnone]
        rfl
      · refine (h.calibrating c).trans ?_
        rw [State.headOn, hnone]
        rfl
    · next hphase => exact { h with next := fun hnone => absurd hnone hphase }

/-- Every hand-over keeps the queue, with those that it asks for. -/
theorem perform_queueHeld {w : Work} {rest : List Work} {s : State} (h : s.queueHeld (w :: rest)) :
    (perform w s).1.queueHeld ((perform w s).2 ++ rest) := by
  have hseen : ∀ {ps : List Part} {t : State} (ws : List Work), w ≠ .nextHead → sameBut ps s t →
      .channels ∉ ps ∧ .cal ∉ ps → t.queueHeld (ws ++ rest) :=
    fun ws hw hsame hps => (CalSeen.of_parts hsame hps).queueHeld (h.tail hw ws)
  cases w with
  | fanMoved f a b => exact fanMoved_queueHeld a b (h.tail (by simp) [])
  | nextHead => exact nextHead_queueHeld h
  | quietTest => exact quietTest_queueHeld (h.tail (by simp) [])
  | startAttempt f | handFan f | handRegime f | grant f =>
    exact hseen _ (by simp) (perform_act rfl s).alters.1 (by decide)
  | contribution c => exact hseen _ (by simp) (takeContribution_alters c s).1 (by decide)
  | calEnded c => exact hseen _ (by simp) (receiveCalEnd_alters c s).1 (by decide)
  | availability | grantDue => exact h.tail (by simp) _
  | reevaluate => exact hseen _ (by simp) (reevaluate_alters s).1 (by decide)
  | reform => exact hseen (t := formEffective s) _ (by simp) (alters_rau (.refl _) _).1 (by decide)
  | giveRole f => exact hseen _ (by simp) (giveRole_alters f s).1 (by decide)
  | demandShort => exact hseen _ (by simp) (evaluateShort_alters s).1 (by decide)

theorem run_queueOk {ws : List Work} {s : State} (h : s.queueHeld ws) : (run ws s).queueOk :=
  State.queueHeld.ok (run_induction (J := fun ws t => t.queueHeld ws) (fun rest t ht => ht.tail (by simp) [])
    (fun w rest t ht => perform_queueHeld ht) h)

/-! ### The session under hand-overs -/

theorem State.sessionOk.run {s : State} (h : s.sessionOk) (ws : List Work) : (run ws s).sessionOk := by
  have hhanded := run_handedOn ws s
  have hspan : (Machine.run ws s).cal.span = s.cal.span := (congrArg Cal.span hhanded.cal :)
  refine ⟨fun c => ?_, fun sp hsp => ?_⟩
  · have htrim : ((Machine.run ws s).ch c).flags.trim = (s.ch c).flags.trim := (congrArg (·.flags.trim) (hhanded.ch c) :)
    rw [htrim, State.inSession, hspan]
    exact h.1 c
  · rw [hspan] at hsp
    obtain ⟨hg, hqueued⟩ := h.2 sp hsp
    have hcfg : ((Machine.run ws s).ch sp.channel).cfg = (s.ch sp.channel).cfg := (congrArg Channel.cfg (hhanded.ch sp.channel) :)
    exact ⟨by rw [hcfg, hg], run_queued_eq_false ws hqueued⟩

end Sys2Proof.Machine

end

/-! PROOFS. The calibration queue, the session and INCIDENT, kept by every step. -/

section

namespace Sys2Proof.Machine

/-- The queue and the session. -/
abbrev State.workOk (s : State) : Prop := s.queueOk ∧ s.sessionOk

namespace State.workOk

variable {s t : State} (h : s.workOk)

include h

theorem of_seen (k : CalSeen s t) : t.workOk := ⟨(k.queueHeld (h.1.held [])).ok, k.sessionOk h.2⟩

theorem run (ws : List Work) : (run ws s).workOk := ⟨run_queueOk (h.1.held ws), h.2.run ws⟩

theorem of_linked {ps : List Part} (hlinked : Linked ps s t) (hps : .channels ∉ ps ∧ .cal ∉ ps := by decide) : t.workOk :=
  hlinked.keeps (fun _ _ ⟨_, ws, hv, heq⟩ hs => heq ▸ (hs.of_seen (.of_parts hv.1 hps)).run ws) h

end State.workOk

/-- An act and the hand-overs that it asks for. -/
theorem runEffect_workOk {e : Effect} (hqueue : e.1.queueHeld e.2) (hsession : e.1.sessionOk) : (runEffect e).workOk :=
  ⟨run_queueOk hqueue, hsession.run e.2⟩

theorem runEffect_workOk_of_seen {s : State} {e : Effect} (h : s.workOk) (k : CalSeen s e.1) : (runEffect e).workOk :=
  (h.of_seen k).run e.2

/-! ### The queue's requests and timers -/

theorem enqueue_queueHeld {s : State} (h : s.queueOk) {c : ChanNo} (hqueued : s.cal.queued c = false) (t : CalType) :
    (enqueue c t s).1.queueHeld (enqueue c t s).2 := by
  obtain ⟨hnodup, hempty, hvalve, hcalibrating⟩ := h
  have hnew : ∀ e ∈ s.cal.queue, e.channel ≠ c := by simpa [Cal.queued] using hqueued
  refine ⟨?_, fun _ => by simp [enqueue], fun hphase _ => ?_, hvalve, fun k => ?_⟩
  · simpa [enqueue, List.nodup_append, hnodup] using hnew
  · have hnil : s.cal.queue = [] := hempty.mp hphase
    simp [enqueue, hnil]
  · refine (hcalibrating k).trans ?_
    cases hqueue : s.cal.queue with
    | nil =>
      have hphase : s.cal.phase = .none := hempty.mpr hqueue
      simp [State.headOn, enqueue, hphase, CalPhase.airOn]
    | cons e rest => simp [State.headOn, enqueue, hqueue]

theorem enqueue_workOk {s : State} (h : s.workOk) {c : ChanNo} (hqueued : s.cal.queued c = false) (hsession : s.inSession c = false)
    (t : CalType) : (runEffect (enqueue c t s)).workOk := by
  obtain ⟨hqueue, htrim, hspan⟩ := h
  refine runEffect_workOk (enqueue_queueHeld hqueue hqueued t) ⟨htrim, fun sp hsp => ?_⟩
  obtain ⟨hg, hfree⟩ := hspan sp hsp
  refine ⟨hg, ?_⟩
  have hne : c ≠ sp.channel := by
    have hsp' : s.cal.span = some sp := hsp
    rintro rfl
    simp [State.inSession, hsp'] at hsession
  simp only [enqueue, Cal.queued, List.any_append, Bool.or_eq_false_iff]
  exact ⟨hfree, by simpa using hne⟩

theorem zeroBarred_false {s : State} {c : ChanNo} (h : zeroBarred s c = false) :
    s.rau.regime ≠ .incident ∧ s.cal.queued c = false ∧ s.inSession c = false := by
  simp only [zeroBarred, Bool.or_eq_false_iff, beq_eq_false_iff_ne] at h
  exact ⟨h.1.1.1.1, h.1.1.1.2, h.1.1.2⟩

theorem groupZeroChannel_workOk {s : State} (h : s.workOk) (c : ChanNo) : (groupZeroChannel s c).workOk := by
  unfold groupZeroChannel
  split
  · next heligible =>
    simp only [zeroEligible, Bool.and_eq_true, Bool.not_eq_true'] at heligible
    obtain ⟨-, hqueued, hsession⟩ := zeroBarred_false heligible.1
    exact enqueue_workOk h hqueued hsession _
  · exact h

/-- What each of a list of acts keeps, all of them keep. -/
theorem foldl_keeps {α : Type} {P : State → Prop} {g : State → α → State} (hg : ∀ s a, P s → P (g s a)) (l : List α) {s : State}
    (h : P s) : P (l.foldl g s) := by
  induction l generalizing s with
  | nil => exact h
  | cons a l ih => exact ih (hg s a h)

theorem groupZero_workOk {s : State} (h : s.workOk) : (groupZero s).workOk := by
  rw [groupZero]
  exact foldl_keeps (P := State.workOk) (fun u c hu => groupZeroChannel_workOk hu c) allChans h

theorem zeroChannel_workOk {s : State} (h : s.workOk) (c : ChanNo) (code : Nat) : (zeroChannel c code s).state.workOk := by
  unfold zeroChannel
  split
  · exact h
  · next hfree =>
    obtain ⟨-, hqueued, hsession⟩ := zeroBarred_false (Bool.eq_false_iff.mpr hfree)
    split
    · exact enqueue_workOk h hqueued hsession _
    · exact h

theorem serveZero_workOk {s : State} (h : s.workOk) (form : Form) (fields : List Byte) : (serveZero form fields s).state.workOk := by
  unfold serveZero
  split
  · split
    · exact h
    · dsimp only [answer]
      exact groupZero_workOk h
  · split
    · exact h
    · exact zeroChannel_workOk h _ _

/-- An ending does not queue the session's channel. -/
theorem endCalibration_sessionOk {s : State} (h : s.sessionOk) (e : CalEntry) :
    (endCalibration e.channel [] s).1.sessionOk := by
  refine ⟨fun c => ?_, fun sp hsp => ?_⟩
  · have htrim : ((endCalibration e.channel [] s).1.ch c).flags.trim = (s.ch c).flags.trim := by
      change ((s.modCh e.channel fun x => { x.setCalibrating false with filterInit := false }).ch c).flags.trim = _
      rw [State.ch_modCh]
      split
      · next hc => rw [hc]; rfl
      · rfl
    exact htrim.trans (h.1 c)
  · obtain ⟨hg, hqueued⟩ := h.2 sp hsp
    have hcfg : ((endCalibration e.channel [] s).1.ch sp.channel).cfg = (s.ch sp.channel).cfg := by
      change ((s.modCh e.channel fun x => { x.setCalibrating false with filterInit := false }).ch sp.channel).cfg = _
      rw [State.ch_modCh]
      split
      · next hc => rw [hc]; rfl
      · rfl
    refine ⟨by rw [hcfg, hg], ?_⟩
    rw [Cal.queued, endCalibration_queue]
    simp only [Cal.queued, List.any_eq_false] at hqueued ⊢
    exact fun x hx => hqueued x (List.mem_of_mem_drop hx)

theorem endHead_queueHeld {s : State} (h : s.queueOk) {e : CalEntry} (hhead : s.cal.head = some e) :
    (endCalibration e.channel [] s).1.queueHeld (endCalibration e.channel [] s).2 := by
  have hqueue := State.queueHeld.endCalibration (h.held []) hhead (.inl rfl) []
  rwa [List.append_nil] at hqueue

/-- The head leaves the queue, with its entry appended. -/
theorem endHead_workOk {s : State} (h : s.workOk) {e : CalEntry} (hhead : s.cal.head = some e) :
    (runEffect (endCalibration e.channel [] s)).workOk :=
  runEffect_workOk (endHead_queueHeld h.1 hhead) (endCalibration_sessionOk h.2 e)

theorem abortHead_workOk {s : State} (h : s.workOk) {e : CalEntry} (hhead : s.cal.head = some e) (a : AbortCause) :
    (runEffect (abortHead e a s)).workOk :=
  endHead_workOk (h.of_seen (appendEvent_calSeen _ _ _ _ s)) hhead

theorem noSamplesAbort_workOk {s : State} (h : s.workOk) : (noSamplesAbort s).workOk := by
  unfold noSamplesAbort
  split
  · exact h
  · next e hhead =>
    split
    · exact abortHead_workOk h hhead _
    · exact h

/-- A head that only waits is removed. -/
theorem removeWaiting_queue {s : State} {e : CalEntry} {tail : List CalEntry} (hqueue : s.cal.queue = e :: tail) :
    (removeWaiting e s).1.cal.queue = tail := by
  simp [removeWaiting, dropHead, abortEntry, hqueue]

theorem removeWaiting_queueHeld {s : State} (h : s.queueOk) {e : CalEntry} (hhead : s.cal.head = some e)
    (hair : s.cal.phase.airOn = false) : (removeWaiting e s).1.queueHeld (removeWaiting e s).2 := by
  obtain ⟨hnodup, hempty, hvalve, hcalibrating⟩ := h
  obtain ⟨tail, hqueue⟩ : ∃ tail, s.cal.queue = e :: tail := List.head?_eq_some_iff.mp hhead
  rw [hqueue, List.map_cons, List.nodup_cons] at hnodup
  refine ⟨by rw [removeWaiting_queue hqueue]; exact hnodup.2, fun hphase => absurd rfl hphase, fun _ _ => by simp [removeWaiting], ?_,
    fun c => ?_⟩
  · exact (hvalve.trans hair :)
  · refine (hcalibrating c).trans ?_
    rw [hair]
    rfl

theorem removeWaiting_workOk {s : State} (h : s.workOk) {e : CalEntry} (hhead : s.cal.head = some e)
    (hair : s.cal.phase.airOn = false) : (runEffect (removeWaiting e s)).workOk := by
  obtain ⟨hok, htrim, hspan⟩ := h
  refine runEffect_workOk (removeWaiting_queueHeld hok hhead hair) ⟨htrim, fun sp hsp => ?_⟩
  obtain ⟨hg, hqueued⟩ := hspan sp hsp
  refine ⟨hg, ?_⟩
  obtain ⟨tail, hqueue⟩ : ∃ tail, s.cal.queue = e :: tail := List.head?_eq_some_iff.mp hhead
  rw [Cal.queued, hqueue, List.any_cons, Bool.or_eq_false_iff] at hqueued
  rw [Cal.queued, removeWaiting_queue hqueue]
  exact hqueued.2

/-- An entry behind the head is removed. -/
theorem filterQueue_queueOk {s : State} (h : s.queueOk) {e : CalEntry} (hhead : s.cal.head = some e) {c : ChanNo} (hc : e.channel ≠ c) :
    ({ s with cal := { s.cal with queue := s.cal.queue.filter (·.channel != c) } } : State).queueOk := by
  obtain ⟨hnodup, hempty, hvalve, hcalibrating⟩ := h
  obtain ⟨tail, hqueue⟩ : ∃ tail, s.cal.queue = e :: tail := List.head?_eq_some_iff.mp hhead
  have hkept : s.cal.queue.filter (·.channel != c) = e :: tail.filter (·.channel != c) := by simp [hqueue, hc]
  refine ⟨?_, ?_, hvalve, fun k => ?_⟩
  · exact hnodup.sublist (List.filter_sublist.map _)
  · rw [hempty, hkept, hqueue]
    simp
  · refine (hcalibrating k).trans ?_
    rw [hkept, hqueue]
    rfl

theorem filterQueue_workOk {s : State} (h : s.workOk) {e : CalEntry} (hhead : s.cal.head = some e) {c : ChanNo} (hc : e.channel ≠ c) :
    ({ s with cal := { s.cal with queue := s.cal.queue.filter (·.channel != c) } } : State).workOk := by
  obtain ⟨hok, htrim, hspan⟩ := h
  refine ⟨filterQueue_queueOk hok hhead hc, htrim, fun sp hsp => ?_⟩
  obtain ⟨hg, hqueued⟩ := hspan sp hsp
  refine ⟨hg, ?_⟩
  simp only [Cal.queued, List.any_eq_false] at hqueued ⊢
  exact fun x hx => hqueued x (List.mem_of_mem_filter hx)

theorem serveZeroCancel_workOk {s : State} (h : s.workOk) (fields : List Byte) : (serveZeroCancel fields s).state.workOk := by
  have hcancel : ∀ c, (runEffect (cancelZero c s)).workOk := fun c => by
    unfold cancelZero
    split
    · rw [runEffect_nil]
      exact h
    · next e hhead =>
      split
      · split
        · exact abortHead_workOk h hhead _
        · next hair => exact removeWaiting_workOk h hhead (Bool.eq_false_iff.mpr hair)
      · next hc =>
        rw [runEffect_nil]
        exact filterQueue_workOk h hhead hc
  unfold serveZeroCancel
  split
  · exact h
  · exact hcancel _

theorem purged_queueOk {s : State} (h : s.queueOk) : (purged s).queueOk := by
  unfold purged
  split
  · next hover =>
    have hphase : s.cal.phase = .purging := by
      simp only [State.purgeOver, Bool.and_eq_true, beq_iff_eq] at hover
      exact hover.1
    obtain ⟨hnodup, hempty, hvalve, hcalibrating⟩ := h
    rw [hphase] at hempty hvalve hcalibrating
    exact ⟨hnodup, ⟨fun hn => (nomatch hn), fun hnil => (nomatch hempty.mpr hnil)⟩, hvalve, hcalibrating⟩
  · exact h

theorem purged_workOk {s : State} (h : s.workOk) : (purged s).workOk := by
  have hsession : (purged s).sessionOk := by
    unfold purged
    split
    · exact h.2
    · exact h.2
  exact ⟨purged_queueOk h.1, hsession⟩

/-! ### The session -/

theorem queueOk_of_marks {s t : State} (h : s.queueOk) (hqueue : t.cal.queue = s.cal.queue) (hphase : t.cal.phase = s.cal.phase)
    (hvalve : t.cal.valve = s.cal.valve) (hcalibrating : ∀ c, (t.ch c).flags.calibrating = (s.ch c).flags.calibrating) :
    t.queueOk := by
  obtain ⟨hnodup, hempty, hvalves, hmarks⟩ := h
  refine ⟨by rwa [hqueue], by rwa [hqueue, hphase], by rwa [hvalve, hphase], fun c => ?_⟩
  rw [hcalibrating, hmarks, hphase, hqueue]

/-- A session opened, moved or closed: the queue is not touched. -/
theorem workOk_of_session {s t : State} (h : s.workOk) (hqueue : t.cal.queue = s.cal.queue) (hphase : t.cal.phase = s.cal.phase)
    (hvalve : t.cal.valve = s.cal.valve) (hcalibrating : ∀ c, (t.ch c).flags.calibrating = (s.ch c).flags.calibrating)
    (hsession : t.sessionOk) : t.workOk :=
  ⟨queueOk_of_marks h.1 hqueue hphase hvalve hcalibrating, hsession⟩

theorem openSession_workOk {s : State} (h : s.workOk) {c : ChanNo} (hclosed : s.cal.span = none) (hqueued : s.cal.queued c = false)
    (step : StepSize) : (openSession c step s).1.workOk := by
  have hch : ∀ k, (openSession c step s).1.ch k = if k = c then (s.ch k).startTrim else s.ch k := fun k => by
    change (s.modCh c Channel.startTrim).ch k = _
    rw [State.ch_modCh]
    split
    · next hk => rw [hk]
    · rfl
  refine workOk_of_session h rfl rfl rfl (fun k => ?_) ⟨fun k => ?_, fun sp hsp => ?_⟩
  · rw [hch]
    split <;> rfl
  · have hnone := h.2.1 k
    rw [State.inSession, hclosed] at hnone
    rw [hch]
    change _ = (c == k)
    split
    · next hk => simp [hk, Channel.startTrim]
    · next hk => simp [hnone, Ne.symm hk]
  · obtain rfl := Option.some.inj hsp
    exact ⟨by rw [hch]; split <;> rfl, hqueued⟩

theorem writeSpan_workOk {s : State} (h : s.workOk) {sp : SpanSession} (hsp : s.cal.span = some sp) (g : Nat) :
    (writeSpan sp g s).workOk := by
  have hch : ∀ k, (writeSpan sp g s).ch k =
      if k = sp.channel then { s.ch k with cfg := { (s.ch k).cfg with span := g } } else s.ch k := fun k => by
    change (setSpan sp.channel g s).ch k = _
    rw [setSpan, State.ch_modCh]
    split
    · next hk => rw [hk]
    · rfl
  refine workOk_of_session h rfl rfl rfl (fun k => ?_) ⟨fun k => ?_, fun sp' hsp' => ?_⟩
  · rw [hch]
    split <;> rfl
  · have htrim := h.2.1 k
    rw [State.inSession, hsp] at htrim
    rw [hch]
    split <;> exact htrim
  · obtain rfl := Option.some.inj hsp'
    exact ⟨by rw [hch, if_pos rfl], (h.2.2 sp hsp).2⟩

theorem endSession_ch (sp : SpanSession) (code : EventCode) (g : Nat) (s : State) (k : ChanNo) :
    (endSession sp code g s).1.ch k = if k = sp.channel then
      { s.ch k with
        cfg := { (s.ch k).cfg with span := g }
        flags := { (s.ch k).flags with trim := false, unsettled := false } } else s.ch k := by
  rw [endSession_eq, ch_appendEvent]
  change (s.setCh sp.channel _).ch k = _
  rw [State.ch_setCh]
  split
  · next hk => rw [hk]
  · rfl

theorem endSession_workOk {s : State} (h : s.workOk) {sp : SpanSession} (hsp : s.cal.span = some sp) (code : EventCode) (g : Nat) :
    (endSession sp code g s).1.workOk := by
  refine workOk_of_session h rfl rfl rfl (fun k => ?_) ⟨fun k => ?_, fun sp' hsp' => nomatch hsp'⟩
  · rw [endSession_ch]
    split <;> rfl
  · have htrim := h.2.1 k
    rw [State.inSession, hsp] at htrim
    rw [endSession_ch]
    change _ = false
    split
    · rfl
    · next hk => rw [htrim, beq_eq_false_iff_ne]; exact Ne.symm hk

theorem sessionTimedOut_workOk {s : State} (h : s.workOk) : (sessionTimedOut s).workOk := by
  unfold sessionTimedOut
  split
  · exact h
  · next sp hsp =>
    split
    · exact State.workOk.run (endSession_workOk h hsp _ _) _
    · exact h

theorem withSession_workOk {s : State} (h : s.workOk) (fields : List Byte) {g : SpanSession → Answer}
    (hg : ∀ sp, s.cal.span = some sp → (g sp).state.workOk) : (withSession fields s g).state.workOk := by
  unfold withSession
  split
  · exact h
  · split
    · exact h
    · next sp hsp => exact hg sp (Option.filter_eq_some_iff.mp hsp).1

theorem spanBarred_false {s : State} {c : ChanNo} (h : spanBarred s c = false) :
    s.cal.span = none ∧ s.rau.regime ≠ .incident ∧ s.cal.queued c = false := by
  simp only [spanBarred, Bool.or_eq_false_iff, beq_eq_false_iff_ne, Option.isSome_eq_false_iff, Option.isNone_iff_eq_none] at h
  exact ⟨h.1.1.1.1, h.1.1.1.2, h.1.1.2⟩

theorem serveSpanEnter_workOk {s : State} (h : s.workOk) (fields : List Byte) : (serveSpanEnter fields s).state.workOk := by
  unfold serveSpanEnter enterSpan
  split
  · exact h
  · split
    · exact h
    · next hfree =>
      obtain ⟨hclosed, -, hqueued⟩ := spanBarred_false (Bool.eq_false_iff.mpr hfree)
      split
      · exact State.workOk.run (openSession_workOk h hclosed hqueued _) _
      · exact h

/-! ### The channels and the scan -/

theorem head_ne_of_queued {k : Cal} {c : ChanNo} (h : k.queued c = false) : (k.queue.head?.map (·.channel) == some c) = false := by
  cases hqueue : k.queue with
  | nil => rfl
  | cons e rest =>
    rw [Cal.queued, hqueue, List.any_cons, Bool.or_eq_false_iff] at h
    simpa using h.1

/-- A channel that is not queued is not under calibration, and stays so where it restarts. -/
theorem restartChannel_calibrating {s : State} (h : s.queueOk) {c : ChanNo} (hqueued : s.cal.queued c = false) (cfg : ChanConfig)
    (k : ChanNo) : ((restartChannel c cfg s).1.ch k).flags.calibrating = (s.ch k).flags.calibrating := by
  rw [(restartChannel_act c cfg s).1]
  split
  · next hk =>
    have hclear := h.2.2.2 k
    rw [hk, head_ne_of_queued hqueued, Bool.and_false] at hclear
    rw [hk, hclear]
    rfl
  · rfl

/-- A channel that is neither queued nor in the session restarts with its marks clear. -/
theorem restartChannel_workOk {s : State} (h : s.workOk) {c : ChanNo} (hqueued : s.cal.queued c = false)
    (hsession : s.inSession c = false) (cfg : ChanConfig) : (restartChannel c cfg s).1.workOk := by
  obtain ⟨hch, -, hcal⟩ := restartChannel_act c cfg s
  refine workOk_of_session h (by rw [hcal]) (by rw [hcal]) (by rw [hcal]) (restartChannel_calibrating h.1 hqueued cfg)
    ⟨fun k => ?_, fun sp hsp => ?_⟩
  · have hstill : (restartChannel c cfg s).1.inSession k = s.inSession k := by rw [State.inSession, hcal, State.inSession]
    rw [hch, hstill]
    split
    · next hk => rw [hk, hsession]; rfl
    · exact h.2.1 k
  · rw [hcal] at hsp ⊢
    have hne : sp.channel ≠ c := by
      have hsp' : s.cal.span = some sp := hsp
      simpa [State.inSession, hsp'] using hsession
    rw [hch, if_neg hne]
    exact h.2.2 sp hsp

theorem serveSetChannel_workOk {s : State} (h : s.workOk) (fields : List Byte) : (serveSetChannel fields s).state.workOk := by
  unfold serveSetChannel setChannel
  split
  · split
    · exact h
    · next hfree =>
      split
      · have hheld := Bool.or_eq_false_iff.mp (Bool.eq_false_iff.mpr hfree)
        exact State.workOk.run (restartChannel_workOk h hheld.1 hheld.2 _) _
      · exact h
  · exact h

theorem clearRead_calSeen (mask : Nat) (s : State) : CalSeen s (clearRead mask s) := by
  refine ⟨fun c => ?_, rfl⟩
  have hch : (clearRead mask s).ch c = if mask.testBit c.val then (s.ch c).readOut else s.ch c := by
    simp [clearRead, State.ch]
  rw [hch]
  split <;> rfl

theorem startScan_calSeen (entry : Nat) (s : State) : CalSeen s (startScan entry s) := by
  rw [startScan_eq]
  refine ⟨fun c => ?_, rfl⟩
  change ((emptyWindows s).ch c).calMarks = _
  rw [emptyWindows_ch]
  rfl

theorem endVisit_calSeen (s : State) : CalSeen s (endVisit s) := .of_parts (endVisit_alters s).1

/-! ### The completed window -/

theorem faultyWindowDone_calSeen (c : ChanNo) (s : State) : CalSeen s (faultyWindowDone c s).1 := by
  simp only [faultyWindowDone]
  split
  · exact (CalSeen.setCh (x := { s.ch c with state := .sensorFault, faulty := 2 }) rfl).trans (appendEvent_calSeen _ _ _ _ _)
  · exact .setCh rfl

theorem goodWindowFirst_calSeen (c : ChanNo) (s : State) : CalSeen s (goodWindowFirst c s) := by
  unfold goodWindowFirst
  split
  · exact (CalSeen.setCh (x := { s.ch c with state := if (s.ch c).published then .valid else .noValue, faulty := 0 }) rfl).trans
      (appendEvent_calSeen _ _ _ _ _)
  · exact .setCh rfl

theorem lowerUnsettled_calSeen (c : ChanNo) (s : State) : CalSeen s (lowerUnsettled c s) := by
  unfold lowerUnsettled
  split
  · exact .refl s
  · next sp hsp =>
    split
    · exact ⟨fun _ => rfl, by simp [Cal.seen, hsp]⟩
    · exact .refl s

theorem publish_calSeen (c : ChanNo) (w : Nat) (s : State) : CalSeen s (publish c w s) := by
  have hentry : ∀ before after f u, CalSeen u (alarmEntry c before after f u) := fun before after f u => by
    unfold alarmEntry
    split
    · exact appendEvent_calSeen _ _ _ _ u
    · split
      · exact appendEvent_calSeen _ _ _ _ u
      · exact .refl u
  exact (CalSeen.setCh (x := publishedChannel s c w) rfl).trans ((lowerUnsettled_calSeen c _).trans (hentry _ _ _ _))

theorem setZero_calSeen (c : ChanNo) (z : Int) (s : State) : CalSeen s (setZero c z s) := CalSeen.setCh rfl

theorem longResult_calSeen (c : ChanNo) (zt : Nat) (s : State) : CalSeen s (longResult c zt s) := by
  unfold longResult
  split
  · exact ⟨(setZero_calSeen c zt s).marks, rfl⟩
  · exact appendEvent_calSeen _ _ _ _ s

theorem shortResult_calSeen (c : ChanNo) (zt : Nat) (s : State) : CalSeen s (shortResult c zt s) := by
  simp only [shortResult]
  split
  · exact appendEvent_calSeen _ _ _ _ s
  · split
    · exact (setZero_calSeen c _ s).trans (appendEvent_calSeen _ _ _ _ _)
    · exact (setZero_calSeen c _ s).trans ((appendEvent_calSeen _ _ _ _ _).trans (appendEvent_calSeen _ _ _ _ _))

theorem finishCalibration_workOk {s : State} (h : s.workOk) {e : CalEntry} (hhead : s.cal.head = some e) (total : Nat) :
    (runEffect (finishCalibration e total s)).workOk := by
  rw [finishCalibration_eq]
  have hresult : CalSeen s (if e.type = .long then longResult e.channel (targetZero total e.type) s
      else shortResult e.channel (targetZero total e.type) s) := by
    split
    · exact longResult_calSeen _ _ s
    · exact shortResult_calSeen _ _ s
  exact endHead_workOk (h.of_seen hresult) (by rw [Cal.head, hresult.queue]; exact hhead)

theorem routeHead_workOk {s : State} (h : s.workOk) (c : ChanNo) (w : Nat) : (runEffect (routeHead c w s)).workOk := by
  unfold routeHead
  split
  · rwa [runEffect_nil]
  · next e hhead =>
    split
    · have hsum : ({ s with cal := s.cal.summed w s.tb.uptime } : State).workOk := h.of_seen ⟨fun _ => rfl, rfl⟩
      by_cases hlast : e.type.sums ≤ s.cal.received + 1
      · have hfinish := finishCalibration_workOk hsum (e := e) hhead (s.cal.total + w)
        rw [receiveSum]
        dsimp only
        rw [if_pos hlast]
        exact hfinish
      · rw [receiveSum_goesOn rfl (Nat.not_le.mp hlast), runEffect_nil]
        exact hsum
    · rwa [runEffect_nil]

theorem goodWindowDone_workOk {s : State} (h : s.workOk) (c : ChanNo) (w : Nat) : (goodWindowDone c w s).workOk := by
  have hfirst := h.of_seen (goodWindowFirst_calSeen c s)
  unfold goodWindowDone
  split
  · exact routeHead_workOk (hfirst.run _) c w
  · exact runEffect_workOk_of_seen (e := publishWindow c w _) hfirst (publish_calSeen c w _)

theorem takeSample_workOk {s : State} (h : s.workOk) (c : ChanNo) (code : Code) : (takeSample c code s).workOk := by
  have hwindow : ∀ l : List Code, (s.setCh c { s.ch c with window := l }).workOk := fun l => h.of_seen (.setCh rfl)
  simp only [takeSample]
  split
  · exact hwindow _
  · unfold windowDone
    split
    · exact runEffect_workOk_of_seen (hwindow []) (faultyWindowDone_calSeen c _)
    · exact goodWindowDone_workOk (hwindow []) c _

theorem converted_workOk {s : State} (h : s.workOk) (code : Code) : (converted code s).workOk := by
  unfold converted sampleTaken
  split
  · refine State.workOk.of_seen ?_ (endVisit_calSeen _)
    split
    · exact h
    · exact takeSample_workOk h _ code
  · exact h

/-! ### An entry into INCIDENT -/

theorem closeCalibration_ch (c : ChanNo) (s : State) (k : ChanNo) : (closeCalibration c s).ch k =
    if k = c then { (s.ch k).setCalibrating false with filterInit := false } else s.ch k := by
  change (s.modCh c fun x => { x.setCalibrating false with filterInit := false }).ch k = _
  rw [State.ch_modCh]
  split
  · next hk => rw [hk]
  · rfl

theorem clearForIncident_phase (s : State) : (clearForIncident s).cal.phase = if s.cal.head.isSome then .none else s.cal.phase := by
  unfold clearForIncident
  split
  · next hhead => rw [hhead]; rfl
  · next e hhead => rw [hhead]; rfl

/-- The calibration unit closed for INCIDENT is as it would be without a queue (R89, R92). -/
theorem clearForIncident_queueOk {s : State} (h : s.queueOk) : (clearForIncident s).queueOk := by
  obtain ⟨hnodup, hempty, hvalve, hcalibrating⟩ := h
  unfold clearForIncident
  split
  · exact ⟨hnodup, hempty, hvalve, hcalibrating⟩
  · next e hhead =>
    have hhead' : s.cal.queue.head? = some e := hhead
    dsimp only
    split
    · refine ⟨List.nodup_nil, iff_of_true rfl rfl, rfl, fun c => ?_⟩
      change ((closeCalibration e.channel (abortEntry e.channel .incident false s)).ch c).flags.calibrating = false
      rw [closeCalibration_ch]
      split
      · rfl
      · next hc =>
        have hother : (some e.channel == some c) = false := by simpa using Ne.symm hc
        exact (hcalibrating c).trans (by rw [hhead', Option.map_some, hother, Bool.and_false])
    · next hquiet =>
      rw [Bool.not_eq_true] at hquiet
      rw [hquiet] at hvalve hcalibrating
      exact ⟨List.nodup_nil, iff_of_true rfl rfl, hvalve, hcalibrating⟩

theorem clearForIncident_sessionOk {s : State} (h : s.sessionOk) : (clearForIncident s).sessionOk := by
  obtain ⟨htrim, hspan⟩ := h
  unfold clearForIncident
  split
  · exact ⟨htrim, hspan⟩
  · next e hhead =>
    dsimp only
    split
    · refine ⟨fun c => ?_, fun sp hsp => ⟨?_, rfl⟩⟩
      · change ((closeCalibration e.channel (abortEntry e.channel .incident false s)).ch c).flags.trim = s.inSession c
        rw [closeCalibration_ch, ← htrim]
        split <;> rfl
      · change ((closeCalibration e.channel (abortEntry e.channel .incident false s)).ch sp.channel).cfg.span = sp.currentG
        rw [closeCalibration_ch, ← (hspan sp hsp).1]
        split <;> rfl
    · exact ⟨htrim, fun sp hsp => ⟨(hspan sp hsp).1, rfl⟩⟩

/-- INCIDENT leaves the queue empty and closed (R92). -/
theorem clearForIncident_workOk {s : State} (h : s.workOk) : (clearForIncident s).workOk :=
  ⟨clearForIncident_queueOk h.1, clearForIncident_sessionOk h.2⟩

theorem takeContribution_calSeen (c : ChanNo) (s : State) : CalSeen s (takeContribution c s) :=
  .of_parts (takeContribution_alters c s).1

theorem clearQueue_workOk {s : State} (h : s.workOk) : (clearQueue s).workOk := by
  unfold clearQueue
  split
  · exact clearForIncident_workOk h
  · split
    · exact (clearForIncident_workOk h).of_seen (takeContribution_calSeen _ _)
    · exact clearForIncident_workOk h

theorem clearSession_workOk {s : State} (h : s.workOk) : (clearSession s).workOk := by
  unfold clearSession
  split
  · exact h
  · next sp hsp =>
    have hended := endSession_workOk h hsp .spanAborted sp.entryG
    split
    · exact hended.of_seen (takeContribution_calSeen _ _)
    · exact hended

theorem handRegime_workOk {s : State} (h : s.workOk) (before : Regime) : (handRegime before s).workOk := by
  have hcal : (handedToCal s).workOk := by
    have hmark : ({ s with rau := { s.rau with fallWaiting := false } } : State).workOk := h
    unfold handedToCal
    split
    · rw [clearWork_eq]
      exact clearSession_workOk (clearQueue_workOk hmark)
    · exact hmark
  rw [handRegime_eq]
  split
  · exact hcal
  · exact hcal.of_seen (.of_parts (regimeDoors_alters _).1)

theorem enterRegime_workOk {s : State} (h : s.workOk) (r : Regime) (params : Rau → Rau) : (enterRegime r params s).workOk :=
  State.workOk.of_linked (handRegime_workOk (s := storeRegime r params s) h _) (setFans_linked _)

/-! ### The resets -/

theorem fullReset_workOk (straps : Straps) (s : State) : (fullReset straps s).workOk := by
  have hch : ∀ c, (fullReset straps s).ch c = Channel.initial := fun c => by simp [State.ch, fullReset]
  refine ⟨⟨List.nodup_nil, iff_of_true rfl rfl, rfl, fun c => ?_⟩, fun c => ?_, fun sp hsp => nomatch hsp⟩
  · rw [hch]
    rfl
  · rw [hch]
    rfl

theorem nodeReset_workOk (s : State) : (nodeReset s).workOk := by
  refine ⟨⟨List.nodup_nil, iff_of_true rfl rfl, rfl, fun c => ?_⟩, fun c => ?_, fun sp hsp => nomatch hsp⟩
  · rw [nodeReset, ch_reset]
    rfl
  · rw [nodeReset, ch_reset]
    rfl

/-! ### Every step -/

theorem workOk_invariant : PlantInvariant State.workOk := by
  refine plantInvariant_of_acts [.channels, .cal] (fun s lif tb evq choices pending hs => hs)
    (fun s v ws hv hs => (hs.of_seen (.of_same (hv .channels (by decide)) (hv .cal (by decide)))).run ws)
    (fun i r s0 s fields hi hmeets hs => ?_) (fun i s t hi htb hmeets hs hexec => ?_)
    (fun s hs => hs) (fun straps s _ => fullReset_workOk straps s) (fun s _ => nodeReset_workOk s)
  · cases i
    case readValues =>
      have hread : (serveReadValues fields s).state.workOk := by
        simp only [serveReadValues]
        split_ifs
        · exact hs
        · exact hs.of_seen (clearRead_calSeen _ s)
      exact hread
    case setNode => exact hs.of_linked (serveSetNode_linked fields s)
    case setDoor => exact hs.of_linked (serveSetDoor_linked fields s)
    case doorCommand => exact hs.of_linked (serveDoorCommand_linked fields s)
    case setChannel => exact serveSetChannel_workOk hs fields
    case scanStart =>
      have hstart : (serveScanStart fields s).state.workOk := by
        simp only [serveScanStart]
        split_ifs
        · exact hs
        · exact hs
        · exact hs
        · exact hs.of_seen (startScan_calSeen _ s)
      exact hstart
    case zero form _ => exact serveZero_workOk hs form fields
    case zeroCancel => exact serveZeroCancel_workOk hs fields
    case spanEnter => exact serveSpanEnter_workOk hs fields
    case spanStep => exact withSession_workOk hs fields fun sp hsp => writeSpan_workOk hs hsp _
    case spanSet => exact withSession_workOk hs fields fun sp hsp => writeSpan_workOk hs hsp _
    case spanExit =>
      exact withSession_workOk hs fields fun sp hsp =>
        State.workOk.run (endSession_workOk hs hsp .spanExit sp.currentG) (endSession sp .spanExit sp.currentG s).2
    case regime => exact enterRegime_workOk hs _ _
    all_goals simp [Instr.request, actParts] at hi hmeets
  · cases i
    all_goals simp only [Instr.request, reduceCtorEq] at hi
    all_goals obtain rfl := Host.Outcome.next.inj hexec
    case conversionComplete code => exact converted_workOk hs code
    case purgeTimeExpiry => exact purged_workOk hs
    case noSamples => exact noSamplesAbort_workOk hs
    case spanTimeout => exact sessionTimedOut_workOk hs
    case inhibitOn => exact hs.of_linked (inhibitActive_linked s)
    case inhibitOff => exact hs.of_linked (inhibitInactive_linked s)
    case silenceTimeout => exact hs.of_linked (silenceExpiry_linked s)
    all_goals simp [actParts, eventParts] at hmeets htb

end Sys2Proof.Machine

end

/-! PROOFS. INCIDENT leaves no calibration and no session, and the calibration invariants together. -/

section

namespace Sys2Proof.Machine

/-! ### What of the RAU's record a door changes -/

/-- From s to t the RAU's record has changed in the door open condition alone. -/
def DoorRau (s t : State) : Prop := t.rau = { s.rau with doorOpen := t.rau.doorOpen }

namespace DoorRau

theorem refl (s : State) : DoorRau s s := rfl

theorem trans {s t u : State} (h : DoorRau s t) (k : DoorRau t u) : DoorRau s u := by
  have hrau : t.rau = { s.rau with doorOpen := t.rau.doorOpen } := h
  have krau : u.rau = { t.rau with doorOpen := u.rau.doorOpen } := k
  rw [hrau] at krau
  exact krau

theorem of_rau {s t : State} (h : t.rau = s.rau) : DoorRau s t := by
  rw [DoorRau, h]

theorem regime {s t : State} (h : DoorRau s t) : t.rau.regime = s.rau.regime := (congrArg Rau.regime h :)

end DoorRau

theorem handDoor_doorRau (s : State) : DoorRau s (handDoor s) := by
  rw [DoorRau, handDoor_rau]

theorem moveDoor_doorRau (d : DoorNo) (m : Door × Option Int) (s : State) : DoorRau s (moveDoor d m s) :=
  DoorRau.trans (.of_rau rfl) (handDoor_doorRau _)

theorem modDoor_doorRau (d : DoorNo) (g : Door → Door) (s : State) : DoorRau s (s.modDoor d g) := .of_rau rfl

theorem followUp_doorRau (d : DoorNo) (s : State) : DoorRau s (followUp d s) := by
  unfold followUp
  dsimp only
  split
  · exact (modDoor_doorRau d _ s).trans (moveDoor_doorRau _ _ _)
  · exact modDoor_doorRau d _ s

theorem contactActs_doorRau (d : DoorNo) (c : Contact) (level : Bool) (s : State) : DoorRau s (contactActs d c level s) := by
  unfold contactActs
  dsimp only
  split
  · exact .refl s
  · split
    · exact moveDoor_doorRau _ _ s
    · exact .refl s
  · split
    · exact modDoor_doorRau d _ s
    · exact (modDoor_doorRau d _ s).trans (moveDoor_doorRau _ _ _)

theorem contactDebounced_doorRau (d : DoorNo) (c : Contact) (s : State) : DoorRau s (contactDebounced d c s).1 := by
  have hdrive : ∀ u, DoorRau u (contactDrive d c u) := fun u => by
    unfold contactDrive
    split
    · exact (modDoor_doorRau d _ u).trans (followUp_doorRau d _)
    · exact .refl u
  exact (modDoor_doorRau d _ s).trans ((contactActs_doorRau d c _ _).trans ((followUp_doorRau d _).trans (hdrive _)))

theorem regimeDoors_doorRau (s : State) : DoorRau s (regimeDoors s) := by
  have hdoor : ∀ d u, DoorRau u (regimeDoor d u) := fun d u => (modDoor_doorRau d _ u).trans (followUp_doorRau d _)
  exact (hdoor 0 s).trans ((hdoor 1 _).trans (.of_rau rfl))

theorem holdExpiry_doorRau (d : DoorNo) (s : State) : DoorRau s (holdExpiry d s).1 := by
  unfold holdExpiry
  split
  · exact moveDoor_doorRau _ _ s
  · exact .refl s

theorem waitExpiry_doorRau (d : DoorNo) (s : State) : DoorRau s (waitExpiry d s).1 := by
  unfold waitExpiry
  split
  · exact moveDoor_doorRau _ _ s
  · exact .refl s

theorem faultExpiry_doorRau (d : DoorNo) (s : State) : DoorRau s (faultExpiry d s).1 := by
  unfold faultExpiry
  split
  · exact moveDoor_doorRau _ _ s
  · exact .refl s

theorem silence_doorRau (asked : Bool) (s : State) : DoorRau s (silence asked s) := by
  unfold silence
  split
  · exact .of_rau rfl
  · exact .refl s

/-! ### The regime under the doors' requests -/

theorem run_regime (ws : List Work) (s : State) : (run ws s).rau.regime = s.rau.regime := (run_handedOn ws s).regime

theorem runEffect_regime {s : State} {e : Effect} (h : DoorRau s e.1) : (runEffect e).rau.regime = s.rau.regime :=
  (run_regime e.2 e.1).trans h.regime

theorem placeDoor_regime (d : DoorNo) (cfg : DoorConfig) (s : State) : (placeDoor d cfg s).rau.regime = s.rau.regime := by
  simp only [placeDoor]
  split
  · rfl
  · rw [run_regime]
    exact ((modDoor_doorRau d _ s).trans ((moveDoor_doorRau d _ _).trans ((modDoor_doorRau d _ _).trans (followUp_doorRau d _)))).regime
  · rw [runEffect_regime (waitExpiry_doorRau d _), runEffect_regime (holdExpiry_doorRau d _)]
    rfl
  · rw [run_regime]
    exact ((modDoor_doorRau d _ s).trans ((modDoor_doorRau d _ _).trans (handDoor_doorRau _))).regime

theorem serveSetDoor_regime (fields : List Byte) (s : State) : (serveSetDoor fields s).state.rau.regime = s.rau.regime := by
  unfold serveSetDoor setDoorConfig
  split
  · split
    · rfl
    · split
      · exact placeDoor_regime _ _ s
      · rfl
  · rfl

theorem doorAction_regime (d : DoorNo) (action : Nat) (s : State) : (doorAction d action s).rau.regime = s.rau.regime := by
  simp only [doorAction]
  split
  · rfl
  · rw [run_regime]
    exact ((modDoor_doorRau d _ s).trans (followUp_doorRau d _)).regime

theorem serveDoorCommand_regime (fields : List Byte) (s : State) : (serveDoorCommand fields s).state.rau.regime = s.rau.regime :=
  (silence_doorRau _ _).regime.trans ((doorAction_regime 1 _ _).trans (doorAction_regime 0 _ s))

theorem contactExpiry_regime (d : DoorNo) (c : Contact) (s : State) : (contactExpiry d c s).rau.regime = s.rau.regime := by
  unfold contactExpiry
  split
  · exact runEffect_regime (contactDebounced_doorRau d c s)
  · rfl

/-- An entry into a regime leaves the part in it, as far as INCIDENT goes. -/
theorem enterRegime_incident (r : Regime) (params : Rau → Rau) (s : State) :
    (enterRegime r params s).rau.regime = .incident ↔ r = .incident := by
  have hcal := (handedToCal_sameDoors (storeRegime r params s)).incident
  rw [enterRegime, (setFans_sameDoors _).incident, handRegime_eq]
  split
  · exact hcal
  · rw [(regimeDoors_doorRau _).regime]
    exact hcal

/-! ### No work -/

/-- The calibration queue is empty, and no session is open. -/
abbrev State.workless (s : State) : Prop := s.cal.queue = [] ∧ s.cal.span = none

theorem CalMove.queue_nil {s t : State} (h : CalMove s t) (hs : s.cal.queue = []) : t.cal.queue = [] := by
  cases h with
  | kept hcal => rwa [hcal]
  | waits hne | purges hne => exact absurd hs hne
  | lost e rest hcons => simp [hs] at hcons

theorem run_queue_nil (ws : List Work) {s : State} (hs : s.cal.queue = []) : (run ws s).cal.queue = [] :=
  run_keeps (fun t => t.cal.queue = []) (fun w t => (perform_calMove w t).queue_nil) ws s hs

namespace State.workless

variable {s t : State} (h : s.workless)

include h

theorem run (ws : List Work) : (run ws s).workless :=
  ⟨run_queue_nil ws h.1, (congrArg Cal.span (run_handedOn ws s).cal :).trans h.2⟩

theorem of_linked {ps : List Part} (hlinked : Linked ps s t) (hps : .cal ∉ ps := by decide) : t.workless :=
  hlinked.keeps (fun _ v ⟨w, ws, hw, heq⟩ hs => by
    have hcal : w.cal = _ := hw.1 .cal hps
    exact heq ▸ State.workless.run (s := w) (by rw [State.workless, hcal]; exact hs) ws) h

theorem of_seen (k : CalSeen s t) : t.workless := by
  refine ⟨k.queue.trans h.1, ?_⟩
  have hmap := k.session
  rw [h.2, Option.map_none] at hmap
  exact Option.map_eq_none_iff.mp hmap

theorem head : s.cal.head = none := by rw [Cal.head, h.1]; rfl

end State.workless

/-! ### INCIDENT leaves none -/

/-- An act that neither leaves INCIDENT for good nor brings work. -/
theorem State.incidentClear.mono {s t : State} (h : s.incidentClear) (hregime : t.rau.regime = .incident → s.rau.regime = .incident)
    (hwork : s.rau.regime = .incident → s.workless → t.workless) : t.incidentClear :=
  fun ht => hwork (hregime ht) (h (hregime ht))

namespace State.incidentClear

variable {s t : State} (h : s.incidentClear)

include h

theorem run (ws : List Work) : (run ws s).incidentClear :=
  h.mono (fun ht => (run_regime ws s).symm.trans ht) fun _ hs => State.workless.run hs ws

theorem of_linked {ps : List Part} (hsame : SameDoors s t) (hlinked : Linked ps s t) (hps : .cal ∉ ps := by decide) :
    t.incidentClear :=
  h.mono hsame.incident.mp fun _ hs => State.workless.of_linked hs hlinked hps

theorem of_doors {ps : List Part} (hregime : t.rau.regime = s.rau.regime) (hlinked : Linked ps s t) (hps : .cal ∉ ps := by decide) :
    t.incidentClear :=
  h.mono (fun ht => hregime.symm.trans ht) fun _ hs => State.workless.of_linked hs hlinked hps

/-- An answer that, in INCIDENT, leaves the state alone. -/
theorem of_idle (hsame : SameDoors s t) (hidle : s.rau.regime = .incident → s.workless → t = s) : t.incidentClear :=
  h.mono hsame.incident.mp fun hr hs => (hidle hr hs).symm ▸ hs

end State.incidentClear

/-! ### The requests of the calibration unit -/

theorem acts_sameDoors {ps : List Part} {s t : State} (h : Acts ps s t)
    (hps : .doors ∉ ps ∧ .vestibule ∉ ps ∧ .rau ∉ ps := by decide) : SameDoors s t := by
  obtain ⟨v, ws, hv, rfl⟩ := h
  exact (sameDoors_of_parts hv.1 hps).trans (run_sameDoors ws v)

/-- No channel is zeroed in INCIDENT (R77, R80). -/
theorem serveZero_incident {s : State} (h : s.rau.regime = .incident) (form : Form) (fields : List Byte) :
    (serveZero form fields s).state = s := by
  have hbarred : ∀ c, zeroBarred s c = true := fun c => by simp [zeroBarred, h]
  unfold serveZero
  split
  · rw [if_pos h]
    rfl
  · split
    · rfl
    · rw [zeroChannel, if_pos (hbarred _)]
      rfl

theorem serveZeroCancel_workless {s : State} (h : s.workless) (fields : List Byte) : (serveZeroCancel fields s).state = s := by
  unfold serveZeroCancel
  split
  · rfl
  · change runEffect (cancelZero _ s) = s
    rw [cancelZero, State.workless.head h, runEffect_nil]

/-- No session is opened in INCIDENT (R95). -/
theorem serveSpanEnter_incident {s : State} (h : s.rau.regime = .incident) (fields : List Byte) :
    (serveSpanEnter fields s).state = s := by
  have hbarred : ∀ c, spanBarred s c = true := fun c => by simp [spanBarred, h]
  unfold serveSpanEnter
  split
  · rfl
  · rw [enterSpan, if_pos (hbarred _)]
    rfl

theorem withSession_workless {s : State} (h : s.workless) (fields : List Byte) (g : SpanSession → Answer) :
    (withSession fields s g).state = s := by
  unfold withSession
  split
  · rfl
  · rw [State.sessionOf, h.2]
    rfl

theorem restartChannel_incidentClear {s : State} (h : s.incidentClear) (c : ChanNo) (cfg : ChanConfig) :
    (runEffect (restartChannel c cfg s)).incidentClear := by
  obtain ⟨-, -, hcal⟩ := restartChannel_act c cfg s
  have hrau : (restartChannel c cfg s).1.rau = s.rau := (restartChannel_alters c cfg s).1 .rau (by decide)
  exact State.incidentClear.run (h.mono (fun ht => (congrArg Rau.regime hrau).symm.trans ht) fun _ hs => by
    rwa [State.workless, hcal]) _

theorem serveSetChannel_incidentClear {s : State} (h : s.incidentClear) (fields : List Byte) :
    (serveSetChannel fields s).state.incidentClear := by
  unfold serveSetChannel setChannel
  split
  · split
    · exact h
    · split
      · exact restartChannel_incidentClear h _ _
      · exact h
  · exact h

/-! ### The completed window -/

theorem routeHead_workless {s : State} (h : s.workless) (c : ChanNo) (w : Nat) : (runEffect (routeHead c w s)).workless := by
  rw [routeHead, State.workless.head h, runEffect_nil]
  exact h

theorem goodWindowDone_workless {s : State} (h : s.workless) (c : ChanNo) (w : Nat) : (goodWindowDone c w s).workless := by
  have hfirst := State.workless.of_seen h (goodWindowFirst_calSeen c s)
  unfold goodWindowDone
  split
  · exact routeHead_workless (State.workless.run hfirst _) c w
  · exact State.workless.run (State.workless.of_seen hfirst (publish_calSeen c w _)) _

theorem takeSample_workless {s : State} (h : s.workless) (c : ChanNo) (code : Code) : (takeSample c code s).workless := by
  simp only [takeSample]
  split
  · exact h
  · unfold windowDone
    split
    · exact State.workless.run (State.workless.of_seen (s := s.setCh c { s.ch c with window := [] }) h (faultyWindowDone_calSeen c _)) _
    · exact goodWindowDone_workless (s := s.setCh c { s.ch c with window := [] }) h c _

theorem converted_workless {s : State} (h : s.workless) (code : Code) : (converted code s).workless := by
  unfold converted sampleTaken
  split
  · refine State.workless.of_seen ?_ (endVisit_calSeen _)
    split
    · exact h
    · exact takeSample_workless h _ code
  · exact h

/-! ### An entry into INCIDENT -/

theorem clearForIncident_queue (s : State) : (clearForIncident s).cal.queue = [] := by
  unfold clearForIncident
  split
  · next hhead => exact List.head?_eq_none_iff.mp hhead
  · rfl

theorem clearQueue_queue (s : State) : (clearQueue s).cal.queue = [] := by
  unfold clearQueue
  split
  · exact clearForIncident_queue s
  · split
    · exact (takeContribution_calSeen _ _).queue.trans (clearForIncident_queue s)
    · exact clearForIncident_queue s

/-- The session's end leaves the queue as it is and no session. -/
theorem clearSession_workless {s : State} (h : s.cal.queue = []) : (clearSession s).workless := by
  unfold clearSession
  split
  · next hspan => exact ⟨h, hspan⟩
  · next sp _ =>
    have hended : (endSession sp .spanAborted sp.entryG s).1.workless := ⟨h, rfl⟩
    split
    · exact State.workless.of_seen hended (takeContribution_calSeen _ _)
    · exact hended

theorem clearWork_workless (s : State) : (clearWork s).workless := clearSession_workless (clearQueue_queue s)

theorem enterRegime_incidentClear (r : Regime) (params : Rau → Rau) (s : State) : (enterRegime r params s).incidentClear := by
  intro hincident
  obtain rfl := (enterRegime_incident r params s).mp hincident
  have hcal : (handedToCal (storeRegime .incident params s)).workless := by
    rw [handedToCal, if_pos (storeRegime_regime _ _ _)]
    exact clearWork_workless _
  refine State.workless.of_linked ?_ (setFans_linked _)
  rw [handRegime_eq]
  split
  · exact hcal
  · exact State.workless.of_seen hcal (.of_parts (regimeDoors_alters _).1)

theorem silenceExpiry_incidentClear {s : State} (h : s.incidentClear) : (silenceExpiry s).incidentClear := by
  unfold silenceExpiry fallBack
  split
  · split
    · exact enterRegime_incidentClear _ _ _
    · exact h
  · exact h

/-! ### Every step -/

theorem noSamplesAbort_workless {s : State} (h : s.workless) : noSamplesAbort s = s := by
  rw [noSamplesAbort, State.workless.head h]

theorem sessionTimedOut_workless {s : State} (h : s.workless) : sessionTimedOut s = s := by
  rw [sessionTimedOut, h.2]

theorem purged_incidentClear {s : State} (h : s.incidentClear) : (purged s).incidentClear := by
  unfold purged
  split
  · exact h
  · exact h

theorem expireStamps_incidentClear {s : State} (h : s.incidentClear) : (expireStamps s).incidentClear := h

theorem incidentClear_invariant : PlantInvariant State.incidentClear := by
  refine plantInvariant_of_acts [.cal, .rau] (fun s lif tb evq choices pending hs => hs)
    (fun s v ws hv hs => State.incidentClear.run (hs.mono
      (fun ht => (congrArg Rau.regime (show v.rau = s.rau from hv .rau (by decide))).symm.trans ht)
      fun _ hw => by rwa [State.workless, show v.cal = s.cal from hv .cal (by decide)]) ws)
    (fun i r s0 s fields hi hmeets hs => ?_) (fun i s t hi htb hmeets hs hexec => ?_)
    (fun s hs => hs) (fun straps s _ _ => ⟨rfl, rfl⟩) (fun s _ _ => ⟨rfl, rfl⟩)
  · cases i
    case setNode => exact hs.of_linked (setNode_sameDoors _ s) (serveSetNode_linked fields s)
    case setDoor => exact hs.of_doors (serveSetDoor_regime fields s) (serveSetDoor_linked fields s)
    case doorCommand => exact hs.of_doors (serveDoorCommand_regime fields s) (serveDoorCommand_linked fields s)
    case setChannel => exact serveSetChannel_incidentClear hs fields
    case setDemand => exact hs.of_linked (serveSetDemand_sameDoors fields s) (.of_acts (serveSetDemand_acts fields s))
    case fanCommand => exact hs.of_linked (serveFanCommand_sameDoors fields s) (.of_acts (serveFanCommand_acts fields s))
    case zero form _ => exact hs.of_idle (serveZero_sameDoors form fields s) fun hr _ => serveZero_incident hr form fields
    case zeroCancel =>
      exact hs.of_idle (acts_sameDoors (serveZeroCancel_acts fields s)) fun _ hw => serveZeroCancel_workless hw fields
    case spanEnter => exact hs.of_idle (acts_sameDoors (serveSpanEnter_acts fields s)) fun hr _ => serveSpanEnter_incident hr fields
    case spanStep =>
      exact hs.of_idle (acts_sameDoors (withSession_acts fields s fun sp => (writeSpan_alters_cal sp _ s).acts))
        fun _ hw => withSession_workless hw fields _
    case spanSet =>
      exact hs.of_idle (acts_sameDoors (withSession_acts fields s fun sp => (writeSpan_alters_cal sp _ s).acts))
        fun _ hw => withSession_workless hw fields _
    case spanExit =>
      exact hs.of_idle (acts_sameDoors (withSession_acts fields s fun sp => (endSession_alters sp _ _ s).actsEffect))
        fun _ hw => withSession_workless hw fields _
    case regime => exact enterRegime_incidentClear _ _ s
    all_goals simp [Instr.request, actParts] at hi hmeets
  · cases i
    all_goals simp only [Instr.request, reduceCtorEq] at hi
    all_goals obtain rfl := Host.Outcome.next.inj hexec
    case conversionComplete code =>
      exact hs.mono (converted_sameDoors code s).incident.mp fun _ hw => converted_workless hw code
    case purgeTimeExpiry => exact purged_incidentClear hs
    case noSamples => exact hs.of_idle (acts_sameDoors (noSamplesAbort_acts s)) fun _ hw => noSamplesAbort_workless hw
    case spanTimeout => exact hs.of_idle (acts_sameDoors (sessionTimedOut_acts s)) fun _ hw => sessionTimedOut_workless hw
    case stampExpiry => exact expireStamps_incidentClear hs
    case inhibitOn => exact hs.of_linked (inhibitActive_sameDoors s) (inhibitActive_linked s)
    case inhibitOff => exact hs.of_linked (inhibitInactive_sameDoors s) (inhibitInactive_linked s)
    case silenceTimeout => exact silenceExpiry_incidentClear hs
    case doorContactDebounced d c =>
      exact hs.of_doors (contactExpiry_regime d c s)
        (Linked.of_acts (ps := doorParts) (event_acts (i := .doorContactDebounced d c) rfl rfl ⟨pending_notMem_eventParts _, htb⟩))
    case holdLimitExpiry d => exact hs.of_doors (runEffect_regime (holdExpiry_doorRau d s)) (runEffect_linked (holdExpiry_alters d s))
    case openWaitExpiry d => exact hs.of_doors (runEffect_regime (waitExpiry_doorRau d s)) (runEffect_linked (waitExpiry_alters d s))
    case doorFaultTimeout d => exact hs.of_doors (runEffect_regime (faultExpiry_doorRau d s)) (runEffect_linked (faultExpiry_alters d s))
    all_goals simp [actParts, eventParts] at hmeets htb

/-- Settles O55: the queue with the session, and INCIDENT's word, are invariants of their own. -/
theorem calibrationKept : Obligations.CalibrationKept := by
  intro s t hs hstep
  obtain ⟨hqueue, hsession, hclear⟩ := hs
  have hwork := workOk_invariant.step ⟨hqueue, hsession⟩ hstep
  exact ⟨hwork.1, hwork.2, incidentClear_invariant.step hclear hstep⟩

end Sys2Proof.Machine

end

/-! PROOFS. The fans' commands as acts of one fan with their hand-overs: whatever such a command does, it alters this fan alone and
hands on the move that it makes. -/

section

namespace Sys2Proof.Machine

theorem mem_allFans (f : FanNo) : f ∈ allFans := by
  revert f
  decide

/-! ### Acts of one fan -/

theorem FanAct.then_change {f : FanNo} {s : State} {e : Effect} (h : FanAct f s e) {g : Fan → Fan}
    (hg : ∀ x : Fan, (g x).state = x.state) : FanAct f s (e.1.modFan f g, e.2) where
  alters := h.alters.trans (modFan_alters f g e.1)
  others k hk := by rw [State.fan_modFan, if_neg hk, h.others k hk]
  works := by simpa only [State.fan_modFan_same, hg] using h.works

theorem stopFan_act (f : FanNo) (s : State) : FanAct f s (stopFan f s) := .event_move f _ _ _ _ _ s

theorem endCoast_act (f : FanNo) (s : State) : FanAct f s (endCoast f s) := by
  unfold endCoast
  split
  · exact budgetAttempt_act f s
  · exact stopFan_act f s

theorem saturate_act (f : FanNo) (s : State) : FanAct f s (saturate f s) := by
  simp only [saturate]
  split
  · exact .after_change rfl (endCoast_act f _)
  · exact .change f rfl

theorem reachSpeed_act (f : FanNo) (p : Nat) (s : State) : FanAct f s (reachSpeed f p s) := .event_move f _ _ _ _ _ s

theorem endTests_act (f : FanNo) (p : Nat) (s : State) : FanAct f s (endTests f p s) := by
  have hreach : FanAct f s (if withinBand (s.fan f).cfg (s.fan f).effStage p then reachSpeed f p s else (s, [])) := by
    split
    · exact reachSpeed_act f p s
    · exact .none f s
  unfold endTests
  dsimp only
  split
  · exact hreach
  · exact hreach
  · split
    · exact endCoast_act f s
    · exact .none f s
  · exact .none f s

theorem measure_act (f : FanNo) (p : Nat) (s : State) : FanAct f s (measure f p s) := .after_change rfl (endTests_act f p _)

theorem risingEdge_act (f : FanNo) (s : State) : FanAct f s (risingEdge f s) := by
  unfold risingEdge
  split
  · exact .change f rfl
  · split
    · exact measure_act f _ s
    · exact (saturate_act f s).then_change fun _ => rfl

theorem speedOff_act (f : FanNo) (s : State) : FanAct f s (speedOff f s) := .event_move f _ _ _ _ _ s

theorem tripFan_act (f : FanNo) (cause : TripCause) (s : State) : FanAct f s (tripFan f cause s) := by
  unfold tripFan
  split
  · exact .event_move f _ _ _ _ _ s
  · exact .none f s

theorem raiseStall_act (f : FanNo) (s : State) : FanAct f s (raiseStall f s) := by
  unfold raiseStall
  split
  · exact tripFan_act f _ s
  · exact .none f s

theorem sourceActive_act (f : FanNo) (cause : TripCause) (s : State) : FanAct f s (sourceActive f cause s) := by
  unfold sourceActive
  split
  · exact tripFan_act f _ s
  · exact .none f s

theorem startTimedOut_act (f : FanNo) (s : State) : FanAct f s (startTimedOut f s) := by
  unfold startTimedOut
  split
  · exact speedOff_act f s
  · exact tripFan_act f _ s

theorem stallTimedOut_act (f : FanNo) (s : State) : FanAct f s (stallTimedOut f s) := .after_change rfl (raiseStall_act f _)

/-! ### Acts with further hand-overs -/

/-- An act of the fan f: it alters this fan alone, and either keeps its state or hands its move on, among other hand-overs. -/
structure FanLed (f : FanNo) (s : State) (e : Effect) : Prop where
  alters : Alters (.choices :: fanParts) s e.1
  others : ∀ g : FanNo, g ≠ f → e.1.fan g = s.fan g
  moved : (e.1.fan f).state = (s.fan f).state ∨ .fanMoved f (s.fan f).state (e.1.fan f).state ∈ e.2

theorem FanAct.led {f : FanNo} {s : State} {e : Effect} (h : FanAct f s e) : FanLed f s e where
  alters := h.alters.mono (by decide)
  others := h.others
  moved := by
    rcases h.works with ⟨-, hstate⟩ | hmoved
    · exact .inl hstate
    · exact .inr (by simp [hmoved])

namespace FanLed

variable {f : FanNo} {s : State}

theorem append {e : Effect} (h : FanLed f s e) (ws : List Work) : FanLed f s (e.1, e.2 ++ ws) where
  alters := h.alters
  others := h.others
  moved := h.moved.imp_right (List.mem_append_left ws)

theorem after_change {g : Fan → Fan} {e : Effect} (hg : (g (s.fan f)).state = (s.fan f).state) (h : FanLed f (s.modFan f g) e) :
    FanLed f s e where
  alters := ((modFan_alters f g s).mono (by decide)).trans h.alters
  others k hk := by rw [h.others k hk, State.fan_modFan, if_neg hk]
  moved := by simpa only [State.fan_modFan_same, hg] using h.moved

end FanLed

theorem recheckBudget_led (f : FanNo) (s : State) : FanLed f s (recheckBudget f s) := by
  simp only [recheckBudget]
  split
  · exact (FanAct.change f (g := fun x => { x with history := s.windowStamps f, startDue := true }) rfl).led.append [.grantDue]
  · exact FanLed.after_change (e := (_, [])) rfl (FanAct.none f _).after_event.led

theorem clearTrip_led (f : FanNo) (level count : Nat) (s : State) : FanLed f s (clearTrip f level count s) := by
  have hmove := (FanAct.event_move f (·.releasedTo s.inhibit.level) (.fan f) .tripCleared (some level) (some count)
    (s.modFan f (·.clearLatch count))).led.append [.startAttempt f]
  exact .after_change rfl hmove

theorem retryTrip_led (f : FanNo) (s : State) : FanLed f s (retryTrip f s) := by
  unfold retryTrip
  split
  · exact clearTrip_led f 2 _ s
  · exact (FanAct.change f rfl).led

theorem tripOrMove_led (f : FanNo) (g : Fan → Fan) (s : State) : FanLed f s (tripOrMove f g s) := by
  unfold tripOrMove
  split
  · exact (FanAct.move f g s).led
  · next cause n _ =>
    have htrip := (FanAct.event_move f (·.toTripped cause s.tb.uptime) (.fan f) .fanTrip (some cause.code) none
      { s with choices := n }).led
    exact ⟨Alters.trans ⟨fun p hp => sameBut_choices s n p (by simp_all), .refl _⟩ htrip.alters, htrip.others, htrip.moved⟩

theorem placeFan_led (f : FanNo) (cfg : FanConfig) (s : State) : FanLed f s (placeFan f cfg s) := by
  simp only [placeFan]
  split
  · exact (FanAct.change f rfl).led
  · exact .after_change rfl ((tripOrMove_led f _ _).append (joinWork f))
  · exact .after_change rfl (FanAct.change f (g := fun x => { x with retryDue := x.dueRetry s.tb.uptime }) rfl).led
  · split
    · exact (FanAct.change f rfl).led
    · exact .after_change rfl (tripOrMove_led f id _)
  · exact .after_change rfl (FanAct.move f (fun x => { x.powerOff with state := none }) _).led

/-! ### The commands of the fans -/

/-- From s to t a command has been an act of the fan f with its hand-overs. -/
def FanStep (f : FanNo) (s t : State) : Prop := ∃ e, FanLed f s e ∧ t = runEffect e

namespace FanStep

variable {f : FanNo} {s t : State}

theorem of_led {e : Effect} (h : FanLed f s e) : FanStep f s (runEffect e) := ⟨e, h, rfl⟩

theorem of_act {e : Effect} (h : FanAct f s e) : FanStep f s (runEffect e) := .of_led h.led

theorem refl (f : FanNo) (s : State) : FanStep f s s := ⟨(s, []), (FanAct.none f s).led, (runEffect_nil s).symm⟩

theorem of_change {g : Fan → Fan} (hg : (g (s.fan f)).state = (s.fan f).state) : FanStep f s (s.modFan f g) :=
  ⟨(s.modFan f g, []), (FanAct.change f hg).led, (runEffect_nil _).symm⟩

theorem guarded {c : Prop} [Decidable c] (h : FanStep f s t) : FanStep f s (if c then t else s) := by
  split
  · exact h
  · exact .refl f s

end FanStep

/-- A command is an act of some fan, or leaves the fans' state alone. -/
abbrev OfOneFan (s t : State) : Prop := ∃ f, FanStep f s t

theorem serveSetFan_step (fields : List Byte) (s : State) : OfOneFan s (serveSetFan fields s).state := by
  unfold serveSetFan setFanConfig
  split
  · exact ⟨0, .refl 0 s⟩
  · next f _ =>
    refine ⟨f, ?_⟩
    split
    · exact .refl f s
    · split
      · exact .of_led (placeFan_led f _ s)
      · exact .refl f s

theorem serveTripReset_step (fields : List Byte) (s : State) : OfOneFan s (serveTripReset fields s).state := by
  unfold serveTripReset resetTrip
  split
  · exact ⟨0, .refl 0 s⟩
  · next f _ =>
    refine ⟨f, ?_⟩
    split
    · split
      · exact .of_led (clearTrip_led f 1 0 s)
      · exact .refl f s
    · exact .refl f s

theorem tachEdge_step (f : FanNo) (edge : TachEdge) (s : State) : FanStep f s (tachEdge f edge s) := by
  cases edge with
  | rising => exact .of_act (.after_change rfl (risingEdge_act f _))
  | falling => exact .of_change (g := fun x => { x with tachLevel := false }) rfl

theorem changeOvercurrent_step (f : FanNo) (level : Bool) (s : State) : FanStep f s (changeOvercurrent f level s) := by
  simp only [changeOvercurrent]
  split
  · exact .of_act (.after_change rfl (sourceActive_act f _ _))
  · exact .of_change (g := fun x => { x with overcurrent := level }) rfl

theorem setTripInput_state (x : Fan) (i : TripInput) (d : Debounced) : (x.setTripInput i d).state = x.state := by
  cases i <;> rfl

/-- Every command whose own components are the fans alone is an act of one fan. -/
theorem event_fanStep {i : Instr} {s t : State} (hrequest : i.request = none) (hparts : i ≠ .stampExpiry)
    (hfans : .fans ∈ actParts i) (hall : actParts i ≠ Part.every) (h : exec i s = .next t) : OfOneFan s t := by
  cases i
  all_goals simp only [Instr.request, reduceCtorEq] at hrequest
  all_goals obtain rfl := Host.Outcome.next.inj h
  case tachMeasurement f edge => exact ⟨f, tachEdge_step f edge s⟩
  case tachSaturation f => exact ⟨f, .guarded (.of_act (saturate_act f s))⟩
  case startTimeout f => exact ⟨f, .guarded (.of_act (startTimedOut_act f s))⟩
  case changeTimeout f => exact ⟨f, .guarded (.of_act (speedOff_act f s))⟩
  case coastTimeout f => exact ⟨f, .guarded (.of_act (.after_event (endCoast_act f _)))⟩
  case stallWatchExpiry f => exact ⟨f, .guarded (.of_act (stallTimedOut_act f s))⟩
  case budgetRecheck f => exact ⟨f, .guarded (.of_led (recheckBudget_led f s))⟩
  case overcurrentChange f level => exact ⟨f, changeOvercurrent_step f level s⟩
  case tripInputChange f i level => exact ⟨f, .of_change (setTripInput_state _ _ _)⟩
  case tripSourceDebounced f i =>
    exact ⟨f, .guarded (.of_act (.after_change (setTripInput_state _ _ _) (sourceActive_act f _ _)))⟩
  case autoRetry f => exact ⟨f, .guarded (.of_led (retryTrip_led f s))⟩
  case retryCountClear f => exact ⟨f, .guarded (.of_change (g := fun x => { x with retryCount := 0, runSince := none }) rfl)⟩
  case stampExpiry => exact absurd rfl hparts
  all_goals simp [actParts] at hfans hall

theorem inhibitFan_step (s : State) (f : FanNo) : FanStep f s (inhibitFan s f) := .guarded (.of_act (.move f _ s))

theorem releaseInhibited_step (s : State) (f : FanNo) : FanStep f s (releaseInhibited s f) :=
  .guarded (.of_led ((FanAct.move f Fan.toStopped s).led.append [.startAttempt f]))

end Sys2Proof.Machine

end

/-! PROOFS. The purged air stays quiet: a fan that begins to move while a head is PURGING or ACCUMULATING has handed on a move that will
end the phase. -/

section

namespace Sys2Proof.Machine

/-! ### Quiet air while hand-overs wait -/

/-- A move that disturbs the air waits to be handed on. -/
abbrev disturbance (ws : List Work) (f : FanNo) : Prop := ∃ b a, .fanMoved f b a ∈ ws ∧ disturbs b a = true

/-- The queue and the air with these hand-overs still to come. -/
structure State.calm (ws : List Work) (s : State) : Prop where
  queue : s.queueHeld ws
  air : s.cal.phase.airOn = true → ∀ f, movingState (s.fan f).state = true → disturbance ws f

theorem fansMoving_false {s : State} : s.fansMoving = false ↔ ∀ f, movingState (s.fan f).state = false := by
  simp [State.fansMoving, mem_allFans]

/-- The two invariants of O56. -/
abbrev State.airOk (s : State) : Prop := s.queueOk ∧ s.airQuiet

theorem State.airOk.calm {s : State} (h : s.airOk) (ws : List Work) : s.calm ws := by
  refine ⟨h.1.held ws, fun hair f hmoving => ?_⟩
  rw [fansMoving_false.mp (h.2 hair) f] at hmoving
  exact absurd hmoving (by decide)

theorem State.calm.ok {s : State} (h : s.calm []) : s.airOk := by
  refine ⟨h.queue.ok, fun hair => fansMoving_false.mpr fun f => Bool.eq_false_iff.mpr fun hmoving => ?_⟩
  obtain ⟨b, a, hmem, -⟩ := h.air hair f hmoving
  exact nomatch hmem

/-- The queue as it then is, the fans as they were, and a phase that is no more than it was. -/
theorem State.calm.of_queue {s t : State} {ws vs : List Work} (h : s.calm ws) (hqueue : t.queueHeld vs) (hfans : t.fans = s.fans)
    (hsub : ∀ f b a, .fanMoved f b a ∈ ws → .fanMoved f b a ∈ vs)
    (hphase : t.cal.phase.airOn = true → s.cal.phase.airOn = true) : t.calm vs := by
  refine ⟨hqueue, fun hair f hmoving => ?_⟩
  have hfan : t.fan f = s.fan f := by rw [State.fan, hfans, State.fan]
  obtain ⟨b, a, hmem, hdisturbs⟩ := h.air (hphase hair) f (by rwa [hfan] at hmoving)
  exact ⟨b, a, hsub f b a hmem, hdisturbs⟩

theorem State.calm.of_closed {t : State} {ws : List Work} (hqueue : t.queueHeld ws) (hphase : t.cal.phase = .none) : t.calm ws :=
  ⟨hqueue, fun hair => by rw [hphase] at hair; exact nomatch hair⟩

theorem State.calm.mono {s : State} {ws vs : List Work} (h : s.calm ws) (hsub : ws ⊆ vs) : s.calm vs :=
  h.of_queue (h.queue.mono hsub) rfl (fun _ _ _ hmem => hsub hmem) id

/-- A fan that newly moves hands on the disturbance. -/
theorem FanLed.calm {f : FanNo} {s : State} {e : Effect} (hact : FanLed f s e) {ws : List Work} (h : s.calm ws) :
    e.1.calm (e.2 ++ ws) := by
  have hseen : CalSeen s e.1 := .of_parts hact.alters.1
  refine ⟨(hseen.queueHeld h.queue).mono (List.subset_append_right _ _), fun hair k hmoving => ?_⟩
  rw [hseen.phase] at hair
  have hbefore : movingState (s.fan k).state = true → disturbance (e.2 ++ ws) k := fun hmoving => by
    obtain ⟨b, a, hmem, hdisturbs⟩ := h.air hair k hmoving
    exact ⟨b, a, List.mem_append_right _ hmem, hdisturbs⟩
  by_cases hk : k = f
  · subst hk
    by_cases hstate : (e.1.fan k).state = (s.fan k).state
    · exact hbefore (hstate ▸ hmoving)
    · refine ⟨_, _, List.mem_append_left _ (hact.moved.resolve_left hstate), ?_⟩
      simp [disturbs, hmoving, Ne.symm hstate]
  · exact hbefore (by rwa [hact.others k hk] at hmoving)

/-! ### The hand-overs -/

theorem State.calm.tail {s : State} {w : Work} {rest : List Work} (h : s.calm (w :: rest)) (hnext : w ≠ .nextHead)
    (hmoved : ∀ f b a, w ≠ .fanMoved f b a) (ws : List Work) : s.calm (ws ++ rest) :=
  h.of_queue (h.queue.tail hnext ws) rfl
    (fun f b a hmem => List.mem_append_right _ ((List.mem_cons.mp hmem).resolve_left (hmoved f b a).symm)) id

/-- QUIET LOST ends the phase. -/
theorem quietLost_phase {s : State} (h : s.cal.phase ≠ .none → s.cal.queue ≠ []) : (quietLost s).1.cal.phase.airOn = false := by
  unfold quietLost
  split
  · next hhead =>
    by_contra hair
    have hnone : s.cal.phase ≠ .none := fun hn => hair (by rw [hn]; rfl)
    exact h hnone (List.head?_eq_none_iff.mp hhead)
  · split
    · rfl
    · next hair => exact Bool.eq_false_iff.mpr hair

theorem calHears_phase (b a : Option FanState) {s : State} (h : s.cal.phase ≠ .none → s.cal.queue ≠ [])
    (hair : (calHears b a s).1.cal.phase.airOn = true) : disturbs b a = false ∧ s.cal.phase.airOn = true := by
  unfold calHears at hair
  split at hair
  · rw [quietLost_phase h] at hair
    exact nomatch hair
  · next hkept =>
    refine ⟨Bool.eq_false_iff.mpr fun hdisturbs => hkept ?_, hair⟩
    rw [hdisturbs, hair]
    rfl

/-- The move that is handed on ends the phase where it disturbs. -/
theorem fanMoved_calm {s : State} {f : FanNo} {b a : Option FanState} {rest : List Work} (h : s.calm (.fanMoved f b a :: rest)) :
    (fanMoved b a s).1.calm ((fanMoved b a s).2 ++ rest) := by
  refine ⟨fanMoved_queueHeld b a (h.queue.tail (by simp) []), fun hair k hmoving => ?_⟩
  have hcal : (if loadsCountdown b a then loadCountdowns s else s).cal = s.cal := by split <;> rfl
  have hquiet := calHears_phase b a (s := if loadsCountdown b a then loadCountdowns s else s)
    (by rw [hcal]; exact h.queue.filled) hair
  rw [hcal] at hquiet
  have hfan : ((fanMoved b a s).1.fan k) = s.fan k := by
    rw [State.fan, (fanMoved_alters b a s).1 .fans (by decide), State.fan]
  obtain ⟨b', a', hmem, hdisturbs⟩ := h.air hquiet.2 k (by rwa [hfan] at hmoving)
  refine ⟨b', a', List.mem_append_right _ ((List.mem_cons.mp hmem).resolve_left fun heq => ?_), hdisturbs⟩
  obtain ⟨-, rfl, rfl⟩ := Work.fanMoved.inj heq
  rw [hquiet.1] at hdisturbs
  exact nomatch hdisturbs

/-- A head begins to purge only in quiet air (R82). -/
theorem quietTest_calm {s : State} {ws : List Work} (h : s.calm ws) : (quietTest s).1.calm ((quietTest s).2 ++ ws) := by
  refine ⟨quietTest_queueHeld h.queue, ?_⟩
  unfold quietTest
  split
  · exact h.air
  · split
    · next hquiet =>
      intro _ f hmoving
      have hstill : movingState (s.fan f).state = false := fansMoving_false.mp hquiet.2 f
      exact absurd hmoving (by rw [← Bool.not_eq_true] at hstill; exact hstill)
    · exact h.air

theorem nextHead_phase {s : State} (hair : (nextHead s).1.cal.phase.airOn = true) : s.cal.phase.airOn = true := by
  unfold nextHead at hair
  split at hair
  · exact hair
  · split at hair
    · exact nomatch hair
    · exact hair

theorem perform_calm {w : Work} {rest : List Work} {s : State} (h : s.calm (w :: rest)) :
    (perform w s).1.calm ((perform w s).2 ++ rest) := by
  have hact : ∀ f, w.actsOn = some f → (perform w s).1.calm ((perform w s).2 ++ rest) := fun f hf => by
    refine (perform_act hf s).led.calm (State.calm.tail (w := w) (ws := []) h ?_ ?_)
    · rintro rfl
      exact nomatch hf
    · rintro k b a rfl
      exact nomatch hf
  have hkept : ∀ {ps : List Part}, w ≠ .nextHead → (∀ f b a, w ≠ .fanMoved f b a) → sameBut ps s (perform w s).1 →
      (.channels ∉ ps ∧ .cal ∉ ps) ∧ .fans ∉ ps → (perform w s).1.calm ((perform w s).2 ++ rest) := fun hw hm hsame hps => by
    have hseen : CalSeen s (perform w s).1 := .of_parts hsame hps.1
    have hrest := h.tail hw hm (perform w s).2
    exact hrest.of_queue (hseen.queueHeld hrest.queue) (hsame .fans hps.2) (fun _ _ _ hmem => hmem) (by rw [hseen.phase]; exact id)
  cases w with
  | fanMoved f a b => exact fanMoved_calm h
  | nextHead =>
    exact State.calm.of_queue h (nextHead_queueHeld h.queue) ((nextHead_alters s).1 .fans (by decide))
      (fun f b a hmem => List.mem_append_right _ ((List.mem_cons.mp hmem).resolve_left nofun)) nextHead_phase
  | quietTest => exact quietTest_calm (h.tail (by simp) (by simp) [])
  | startAttempt f | handFan f | handRegime f | grant f => exact hact f rfl
  | contribution c => exact hkept (by simp) (by simp) (takeContribution_alters c s).1 (by decide)
  | calEnded c => exact hkept (by simp) (by simp) (receiveCalEnd_alters c s).1 (by decide)
  | availability | grantDue => exact h.tail (by simp) (by simp) _
  | reevaluate => exact hkept (by simp) (by simp) (reevaluate_alters s).1 (by decide)
  | reform => exact hkept (ps := rauParts) (by simp) (by simp) (alters_rau (.refl _) _).1 (by decide)
  | giveRole f => exact hkept (by simp) (by simp) (giveRole_alters f s).1 (by decide)
  | demandShort => exact hkept (by simp) (by simp) (evaluateShort_alters s).1 (by decide)

theorem run_airOk {ws : List Work} {s : State} (h : s.calm ws) : (run ws s).airOk :=
  State.calm.ok (run_induction (J := fun ws t => t.calm ws) (fun rest t ht => ht.tail (by simp) (by simp) [])
    (fun w rest t ht => perform_calm ht) h)

namespace State.airOk

variable {s t : State} (h : s.airOk)

include h

theorem run (ws : List Work) : (run ws s).airOk := run_airOk (h.calm ws)

/-- The queue as it then is, the fans as they were, and a phase that is no more than it was. -/
theorem of_queue (hqueue : t.queueOk) (hfans : t.fans = s.fans) (hphase : t.cal.phase.airOn = true → s.cal.phase.airOn = true) :
    t.airOk :=
  State.calm.ok ((h.calm []).of_queue (hqueue.held []) hfans (fun _ _ _ hmem => hmem) hphase)

theorem runEffect_of_queue {e : Effect} (hqueue : e.1.queueHeld e.2) (hfans : e.1.fans = s.fans)
    (hphase : e.1.cal.phase.airOn = true → s.cal.phase.airOn = true) : (runEffect e).airOk :=
  run_airOk ((h.calm []).of_queue hqueue hfans (fun _ _ _ hmem => nomatch hmem) hphase)

theorem of_seen (k : CalSeen s t) (hfans : t.fans = s.fans) : t.airOk :=
  h.of_queue (k.queueHeld (h.1.held [])).ok hfans (by rw [k.phase]; exact id)

theorem of_linked {ps : List Part} (hlinked : Linked ps s t) (hps : (.channels ∉ ps ∧ .cal ∉ ps) ∧ .fans ∉ ps := by decide) :
    t.airOk :=
  hlinked.keeps (fun _ _ ⟨_, ws, hv, heq⟩ hs =>
    heq ▸ State.airOk.run (State.airOk.of_seen hs (.of_parts hv.1 hps.1) (hv.1 .fans hps.2)) ws) h

theorem of_fanStep {f : FanNo} (hstep : FanStep f s t) : t.airOk := by
  obtain ⟨e, hled, rfl⟩ := hstep
  have hcalm := hled.calm (h.calm [])
  rw [List.append_nil] at hcalm
  exact run_airOk hcalm

/-- The calibration marks of a session's or a channel's change stand. -/
theorem of_marks (hcal : t.cal.queue = s.cal.queue ∧ t.cal.phase = s.cal.phase ∧ t.cal.valve = s.cal.valve)
    (hcalibrating : ∀ c, (t.ch c).flags.calibrating = (s.ch c).flags.calibrating) (hfans : t.fans = s.fans) : t.airOk :=
  h.of_queue (queueOk_of_marks h.1 hcal.1 hcal.2.1 hcal.2.2 hcalibrating) hfans (by rw [hcal.2.1]; exact id)

end State.airOk

end Sys2Proof.Machine

end

/-! PROOFS. The quiet of purged air, kept by every step. -/

section

namespace Sys2Proof.Machine

/-! ### The queue's requests and timers -/

theorem enqueue_airOk {s : State} (h : s.airOk) {c : ChanNo} (hqueued : s.cal.queued c = false) (t : CalType) :
    (runEffect (enqueue c t s)).airOk := h.runEffect_of_queue (enqueue_queueHeld h.1 hqueued t) rfl id

theorem groupZero_airOk {s : State} (h : s.airOk) : (groupZero s).airOk := by
  have hchannel : ∀ u c, State.airOk u → (groupZeroChannel u c).airOk := fun u c hu => by
    unfold groupZeroChannel
    split
    · next heligible =>
      simp only [zeroEligible, Bool.and_eq_true, Bool.not_eq_true'] at heligible
      exact enqueue_airOk hu (zeroBarred_false heligible.1).2.1 _
    · exact hu
  rw [groupZero]
  exact foldl_keeps (P := State.airOk) hchannel allChans h

theorem serveZero_airOk {s : State} (h : s.airOk) (form : Form) (fields : List Byte) : (serveZero form fields s).state.airOk := by
  have hchannel : ∀ c code, (zeroChannel c code s).state.airOk := fun c code => by
    unfold zeroChannel
    split
    · exact h
    · next hfree =>
      split
      · exact enqueue_airOk h (zeroBarred_false (Bool.eq_false_iff.mpr hfree)).2.1 _
      · exact h
  unfold serveZero
  split
  · split
    · exact h
    · dsimp only [answer]
      exact groupZero_airOk h
  · split
    · exact h
    · exact hchannel _ _

/-- The head leaves its phase: there is no air to keep quiet. -/
theorem endHead_airOk {s : State} (h : s.queueOk) {e : CalEntry} (hhead : s.cal.head = some e) :
    (runEffect (endCalibration e.channel [] s)).airOk := run_airOk (.of_closed (endHead_queueHeld h hhead) rfl)

theorem abortHead_airOk {s : State} (h : s.airOk) {e : CalEntry} (hhead : s.cal.head = some e) (a : AbortCause) :
    (runEffect (abortHead e a s)).airOk := endHead_airOk (h.of_seen (appendEvent_calSeen _ _ _ _ s) rfl).1 hhead

theorem serveZeroCancel_airOk {s : State} (h : s.airOk) (fields : List Byte) : (serveZeroCancel fields s).state.airOk := by
  have hcancel : ∀ c, (runEffect (cancelZero c s)).airOk := fun c => by
    unfold cancelZero
    split
    · rw [runEffect_nil]
      exact h
    · next e hhead =>
      split
      · split
        · exact abortHead_airOk h hhead _
        · next hair => exact run_airOk (.of_closed (removeWaiting_queueHeld h.1 hhead (Bool.eq_false_iff.mpr hair)) rfl)
      · next hc =>
        rw [runEffect_nil]
        exact h.of_queue (filterQueue_queueOk h.1 hhead hc) rfl id
  unfold serveZeroCancel
  split
  · exact h
  · exact hcancel _

theorem noSamplesAbort_airOk {s : State} (h : s.airOk) : (noSamplesAbort s).airOk := by
  unfold noSamplesAbort
  split
  · exact h
  · next e hhead =>
    split
    · exact abortHead_airOk h hhead _
    · exact h

theorem purged_airOk {s : State} (h : s.airOk) : (purged s).airOk := by
  have hfans : (purged s).fans = s.fans := by unfold purged; split <;> rfl
  refine h.of_queue (purged_queueOk h.1) hfans fun hair => ?_
  unfold purged at hair
  split at hair
  · next hover =>
    simp only [State.purgeOver, Bool.and_eq_true, beq_iff_eq] at hover
    rw [hover.1]
    rfl
  · exact hair

/-! ### The session -/

theorem writeSpan_airOk {s : State} (h : s.airOk) (sp : SpanSession) (g : Nat) : (writeSpan sp g s).airOk := by
  refine h.of_marks ⟨rfl, rfl, rfl⟩ (fun k => ?_) rfl
  change ((setSpan sp.channel g s).ch k).flags.calibrating = _
  rw [setSpan, State.ch_modCh]
  split
  · next hk => rw [hk]
  · rfl

theorem endSession_airOk {s : State} (h : s.airOk) (sp : SpanSession) (code : EventCode) (g : Nat) :
    (endSession sp code g s).1.airOk := by
  refine h.of_marks ⟨rfl, rfl, rfl⟩ (fun k => ?_) rfl
  rw [endSession_ch]
  split <;> rfl

theorem serveSpanEnter_airOk {s : State} (h : s.airOk) (fields : List Byte) : (serveSpanEnter fields s).state.airOk := by
  have hopened : ∀ c step, (openSession c step s).1.airOk := fun c step => by
    refine h.of_marks ⟨rfl, rfl, rfl⟩ (fun k => ?_) rfl
    change ((s.modCh c Channel.startTrim).ch k).flags.calibrating = _
    rw [State.ch_modCh]
    split
    · next hk => rw [hk]; rfl
    · rfl
  unfold serveSpanEnter enterSpan
  split
  · exact h
  · split
    · exact h
    · split
      · exact (hopened _ _).run _
      · exact h

theorem withSession_airOk {s : State} (h : s.airOk) (fields : List Byte) {g : SpanSession → Answer}
    (hg : ∀ sp, (g sp).state.airOk) : (withSession fields s g).state.airOk := by
  unfold withSession
  split
  · exact h
  · split
    · exact h
    · exact hg _

theorem sessionTimedOut_airOk {s : State} (h : s.airOk) : (sessionTimedOut s).airOk := by
  unfold sessionTimedOut
  split
  · exact h
  · split
    · exact (endSession_airOk h _ _ _).run _
    · exact h

/-! ### The channels and the scan -/

theorem serveSetChannel_airOk {s : State} (h : s.airOk) (fields : List Byte) : (serveSetChannel fields s).state.airOk := by
  have hrestarted : ∀ c cfg, s.cal.queued c = false → (restartChannel c cfg s).1.airOk := fun c cfg hqueued => by
    obtain ⟨-, -, hcal⟩ := restartChannel_act c cfg s
    exact h.of_marks (by rw [hcal]; exact ⟨rfl, rfl, rfl⟩) (restartChannel_calibrating h.1 hqueued cfg)
      ((restartChannel_alters c cfg s).1 .fans (by decide))
  unfold serveSetChannel setChannel
  split
  · split
    · exact h
    · next hfree =>
      split
      · exact (hrestarted _ _ (Bool.or_eq_false_iff.mp (Bool.eq_false_iff.mpr hfree)).1).run _
      · exact h
  · exact h

theorem serveReadValues_airOk {s : State} (h : s.airOk) (fields : List Byte) : (serveReadValues fields s).state.airOk := by
  simp only [serveReadValues]
  split_ifs
  · exact h
  · exact h.of_seen (clearRead_calSeen _ s) rfl

theorem serveScanStart_airOk {s : State} (h : s.airOk) (fields : List Byte) : (serveScanStart fields s).state.airOk := by
  simp only [serveScanStart]
  split_ifs
  · exact h
  · exact h
  · exact h
  · exact h.of_seen (startScan_calSeen _ s) (congrArg State.fans (startScan_eq _ s) :)

/-! ### The completed window -/

theorem finishCalibration_airOk {s : State} (h : s.airOk) {e : CalEntry} (hhead : s.cal.head = some e) (total : Nat) :
    (runEffect (finishCalibration e total s)).airOk := by
  rw [finishCalibration_eq]
  have hresult : CalSeen s (if e.type = .long then longResult e.channel (targetZero total e.type) s
      else shortResult e.channel (targetZero total e.type) s) := by
    split
    · exact longResult_calSeen _ _ s
    · exact shortResult_calSeen _ _ s
  exact endHead_airOk (hresult.queueHeld (h.1.held [])).ok (by rw [Cal.head, hresult.queue]; exact hhead)

theorem routeHead_airOk {s : State} (h : s.airOk) (c : ChanNo) (w : Nat) : (runEffect (routeHead c w s)).airOk := by
  unfold routeHead
  split
  · rwa [runEffect_nil]
  · next e hhead =>
    split
    · have hsum : ({ s with cal := s.cal.summed w s.tb.uptime } : State).airOk := h.of_seen ⟨fun _ => rfl, rfl⟩ rfl
      by_cases hlast : e.type.sums ≤ s.cal.received + 1
      · have hfinish := finishCalibration_airOk hsum (e := e) hhead (s.cal.total + w)
        rw [receiveSum]
        dsimp only
        rw [if_pos hlast]
        exact hfinish
      · rw [receiveSum_goesOn rfl (Nat.not_le.mp hlast), runEffect_nil]
        exact hsum
    · rwa [runEffect_nil]

theorem goodWindowDone_airOk {s : State} (h : s.airOk) (c : ChanNo) (w : Nat) : (goodWindowDone c w s).airOk := by
  have hfirst := h.of_seen (goodWindowFirst_calSeen c s) ((goodWindowFirst_alters c s).1 .fans (by decide))
  unfold goodWindowDone
  split
  · exact routeHead_airOk (hfirst.run _) c w
  · exact State.airOk.run (hfirst.of_seen (publish_calSeen c w _) ((publish_alters c w _).1 .fans (by decide))) _

theorem takeSample_airOk {s : State} (h : s.airOk) (c : ChanNo) (code : Code) : (takeSample c code s).airOk := by
  have hwindow : ∀ l : List Code, (s.setCh c { s.ch c with window := l }).airOk := fun l => h.of_seen (.setCh rfl) rfl
  simp only [takeSample]
  split
  · exact hwindow _
  · unfold windowDone
    split
    · exact State.airOk.run ((hwindow []).of_seen (faultyWindowDone_calSeen c _) ((faultyWindowDone_alters c _).1 .fans (by decide))) _
    · exact goodWindowDone_airOk (hwindow []) c _

theorem converted_airOk {s : State} (h : s.airOk) (code : Code) : (converted code s).airOk := by
  unfold converted sampleTaken
  split
  · refine State.airOk.of_seen ?_ (endVisit_calSeen _) ((endVisit_alters _).1 .fans (by decide))
    split
    · exact h
    · exact takeSample_airOk h _ code
  · exact h

/-! ### The regime -/

theorem takeContribution_airOk {s : State} (h : s.airOk) (c : ChanNo) : (takeContribution c s).airOk :=
  h.of_seen (takeContribution_calSeen c s) ((takeContribution_alters c s).1 .fans (by decide))

theorem clearForIncident_airOk {s : State} (h : s.airOk) : (clearForIncident s).airOk := by
  refine h.of_queue (clearForIncident_queueOk h.1) ((clearForIncident_alters s).1 .fans (by decide)) fun hair => ?_
  rw [clearForIncident_phase] at hair
  split at hair
  · exact nomatch hair
  · exact hair

theorem clearWork_airOk {s : State} (h : s.airOk) : (clearWork s).airOk := by
  have hqueue : (clearQueue s).airOk := by
    unfold clearQueue
    split
    · exact clearForIncident_airOk h
    · split
      · exact takeContribution_airOk (clearForIncident_airOk h) _
      · exact clearForIncident_airOk h
  rw [clearWork_eq, clearSession]
  split
  · exact hqueue
  · split
    · exact takeContribution_airOk (endSession_airOk hqueue _ _ _) _
    · exact endSession_airOk hqueue _ _ _

theorem enterRegime_airOk {s : State} (h : s.airOk) (r : Regime) (params : Rau → Rau) : (enterRegime r params s).airOk := by
  have hcal : (handedToCal (storeRegime r params s)).airOk := by
    unfold handedToCal
    split
    · exact clearWork_airOk h
    · exact h
  refine State.airOk.of_linked ?_ (setFans_linked _)
  rw [handRegime_eq]
  split
  · exact hcal
  · exact hcal.of_seen (.of_parts (regimeDoors_alters _).1) ((regimeDoors_alters _).1 .fans (by decide))

/-! ### OUTPUT INHIBIT -/

theorem inFreeOrder_airOk {s : State} (h : s.airOk) {g : State → FanNo → State} (hg : ∀ u f, FanStep f u (g u f))
    (fans : List FanNo) : (inFreeOrder fans g s).airOk :=
  foldl_keeps (P := State.airOk) (fun u f hu => hu.of_fanStep (hg u f)) _ h

theorem inhibitActive_airOk {s : State} (h : s.airOk) : (inhibitActive s).airOk := by
  unfold inhibitActive
  split
  · exact inFreeOrder_airOk (s := settleInhibit .inhibitOn s) h inhibitFan_step _
  · exact h

theorem inhibitInactive_airOk {s : State} (h : s.airOk) : (inhibitInactive s).airOk := by
  unfold inhibitInactive
  split
  · exact inFreeOrder_airOk (s := settleInhibit .inhibitOff s) h releaseInhibited_step _
  · exact h

/-! ### Every step -/

theorem expireStamps_airOk {s : State} (h : s.airOk) : (expireStamps s).airOk := by
  refine ⟨h.1, fun hair => fansMoving_false.mpr fun f => ?_⟩
  have hstate : ((expireStamps s).fan f).state = (s.fan f).state := by simp [State.fan, expireStamps]
  rw [hstate]
  exact fansMoving_false.mp (h.2 hair) f

theorem airOk_invariant : PlantInvariant State.airOk := by
  refine plantInvariant_of_acts [.channels, .cal, .fans] (fun s lif tb evq choices pending hs => hs)
    (fun s v ws hv hs => State.airOk.run
      (hs.of_seen (.of_same (hv .channels (by decide)) (hv .cal (by decide))) (hv .fans (by decide))) ws)
    (fun i r s0 s fields hi hmeets hs => ?_) (fun i s t hi htb hmeets hs hexec => ?_)
    (fun s hs => ⟨hs.1, fun hair => ?_⟩) (fun straps s _ => ⟨(fullReset_workOk straps s).1, nofun⟩)
    (fun s _ => ⟨(nodeReset_workOk s).1, nofun⟩)
  · cases i
    case readValues => exact serveReadValues_airOk hs fields
    case setNode => exact hs.of_linked (serveSetNode_linked fields s)
    case setDoor => exact hs.of_linked (serveSetDoor_linked fields s)
    case doorCommand => exact hs.of_linked (serveDoorCommand_linked fields s)
    case setChannel => exact serveSetChannel_airOk hs fields
    case scanStart => exact serveScanStart_airOk hs fields
    case setFan =>
      obtain ⟨f, hstep⟩ := serveSetFan_step fields s
      exact hs.of_fanStep hstep
    case tripReset =>
      obtain ⟨f, hstep⟩ := serveTripReset_step fields s
      exact hs.of_fanStep hstep
    case zero form _ => exact serveZero_airOk hs form fields
    case zeroCancel => exact serveZeroCancel_airOk hs fields
    case spanEnter => exact serveSpanEnter_airOk hs fields
    case spanStep => exact withSession_airOk hs fields fun sp => writeSpan_airOk hs sp _
    case spanSet => exact withSession_airOk hs fields fun sp => writeSpan_airOk hs sp _
    case spanExit =>
      exact withSession_airOk hs fields fun sp =>
        State.airOk.run (endSession_airOk hs sp .spanExit sp.currentG) (endSession sp .spanExit sp.currentG s).2
    case regime => exact enterRegime_airOk hs _ _
    all_goals simp [Instr.request, actParts] at hi hmeets
  · by_cases hfan : (.fans ∈ actParts i ∧ actParts i ≠ Part.every) ∧ i ≠ .stampExpiry
    · obtain ⟨f, hstep⟩ := event_fanStep hi hfan.2 hfan.1.1 hfan.1.2 hexec
      exact hs.of_fanStep hstep
    cases i
    all_goals simp only [Instr.request, reduceCtorEq] at hi
    all_goals obtain rfl := Host.Outcome.next.inj hexec
    case conversionComplete code => exact converted_airOk hs code
    case purgeTimeExpiry => exact purged_airOk hs
    case noSamples => exact noSamplesAbort_airOk hs
    case spanTimeout => exact sessionTimedOut_airOk hs
    case stampExpiry => exact expireStamps_airOk hs
    case inhibitOn => exact inhibitActive_airOk hs
    case inhibitOff => exact inhibitInactive_airOk hs
    case silenceTimeout => exact hs.of_linked (silenceExpiry_linked s)
    all_goals simp [actParts, eventParts, Part.every] at hmeets htb hfan
  · refine fansMoving_false.mpr fun f => ?_
    have hstate : ((advance s).fan f).state = (s.fan f).state := (congrArg Fan.state (fan_advance s f) :)
    rw [hstate]
    exact fansMoving_false.mp (hs.2 hair) f

/-- Settles O56: every fan that begins to move hands on the move that ends the phase, and a phase begins in quiet air. -/
theorem purgedAirStaysQuiet : Obligations.PurgedAirStaysQuiet := fun _ _ hqueue hair hstep => airOk_invariant.step ⟨hqueue, hair⟩ hstep

end Sys2Proof.Machine

end

/-! PROOFS. A fan's outputs go with its state: every move of a fan gives it the outputs of the state that it enters. -/

section

namespace Sys2Proof.Machine

/-! ### A fan with its outputs -/

/-- The fan's outputs go with its state, within its bounds. -/
abbrev Fan.sound (x : Fan) : Prop := x.ok ∧ x.bounded

/-- The fan keeps to this level of the debounced OUTPUT INHIBIT (R126). -/
abbrev Fan.heeds (level : Bool) (x : Fan) : Prop :=
  if level then availableState x.state = false else x.state ≠ some .inhibited

/-- What the fans' invariant says of one fan. -/
abbrev Fan.kept (level : Bool) (x : Fan) : Prop := x.sound ∧ x.heeds level

theorem fansOk_iff {s : State} : s.fansOk ↔ ∀ f, (s.fan f).kept s.inhibit.level :=
  ⟨fun h f => ⟨h.1 f, h.2 f⟩, fun h => ⟨fun f => (h f).1, fun f => (h f).2⟩⟩

theorem roundDivNat_le {n d b : Nat} (hd : 0 < d) (h : n ≤ d * b) : roundDivNat n d ≤ b := by
  have hspec := (roundDivNat_spec hd n).1
  by_contra hlt
  have hmul : d * (b + 1) ≤ d * roundDivNat n d := Nat.mul_le_mul_left d (by omega)
  rw [Nat.mul_add_one] at hmul
  omega

/-- The feed-forward code lies between the minimum run code and 1023 (R111). -/
theorem feedForward_bounds {x : Fan} (h : x.bounded) (stage : Nat) :
    x.cfg.minCode ≤ x.cfg.feedForward stage ∧ x.cfg.feedForward stage ≤ 1023 := by
  obtain ⟨hmin, h1, h2, h3, -⟩ := h
  have hpermille : x.cfg.permille stage ≤ 1000 := by
    unfold FanConfig.permille
    split <;> omega
  have hround : roundDivNat (1023 * x.cfg.permille stage) 1000 ≤ 1023 := roundDivNat_le (by decide) (by omega)
  unfold FanConfig.feedForward
  omega

/-- The corrected code lies between the minimum run code and 1023 (R114). -/
theorem correctedDrive_bounds {x : Fan} (h : x.bounded) (stage p drive : Nat) :
    x.cfg.minCode ≤ correctedDrive x.cfg stage p drive ∧ correctedDrive x.cfg stage p drive ≤ 1023 := by
  obtain ⟨hmin, -⟩ := h
  simp only [correctedDrive, clampNat]
  split_ifs <;> omega

theorem recordStart_length {l : List Stamp} (h : l.length ≤ 8) (t : Stamp) : (recordStart l t).length ≤ 8 := by
  unfold recordStart
  split <;> simp <;> omega

/-- A present fan without power. -/
theorem Fan.sound_of_off {y : Fan} (hbounded : y.bounded) (hpresent : y.cfg.present = true) {st : FanState}
    (hstate : y.state = some st) (hst : poweredState (some st) = false) (hlatch : st = .tripped ↔ y.latch.isSome = true)
    (hrun : y.run = false) (hdrive : y.drive = 0) : y.sound := by
  refine ⟨⟨?_, fun _ => hdrive, ?_, ?_, ?_⟩, hbounded⟩
  · rw [hrun, hstate, hst]
  · rw [hstate, hst]; exact fun hn => nomatch hn
  · rw [hstate, Option.some.injEq]; exact hlatch
  · rw [hstate, hpresent]; rfl

theorem Fan.bounded_of_cfg {x y : Fan} (h : x.bounded) (hcfg : y.cfg = x.cfg) (hhistory : y.history.length ≤ 8) : y.bounded := by
  obtain ⟨b1, b2, b3, b4, -⟩ := h
  rw [Fan.bounded, hcfg]
  exact ⟨b1, b2, b3, b4, hhistory⟩

namespace Fan.sound

variable {x y : Fan} (h : x.sound)

include h

theorem latch_of_available (hfree : availableState x.state = true) : x.latch = none := by
  obtain ⟨⟨-, -, -, hlatch, -⟩, -⟩ := h
  by_contra hne
  rw [hlatch.mpr (Option.isSome_iff_ne_none.mpr hne)] at hfree
  exact nomatch hfree

/-- A change that leaves the state with its outputs. -/
theorem same (hstate : y.state = x.state) (hrun : y.run = x.run) (hdrive : y.drive = x.drive) (hlatch : y.latch = x.latch)
    (hcfg : y.cfg = x.cfg) (hhistory : y.history.length ≤ 8) : y.sound := by
  refine ⟨?_, Fan.bounded_of_cfg h.2 hcfg hhistory⟩
  rw [Fan.ok, hrun, hstate, hdrive, hlatch, hcfg]
  exact h.1

/-- A powered fan. -/
theorem on (hfree : availableState x.state = true) (hstate : poweredState y.state = true) (hrun : y.run = true)
    (hdrive : y.cfg.minCode ≤ y.drive ∧ y.drive ≤ 1023) (hlatch : y.latch = x.latch) (hcfg : y.cfg = x.cfg)
    (hhistory : y.history.length ≤ 8) : y.sound := by
  have hnone := latch_of_available h hfree
  obtain ⟨⟨-, -, -, -, h5⟩, hbounded⟩ := h
  refine ⟨⟨?_, ?_, fun _ => hdrive, ?_, ?_⟩, Fan.bounded_of_cfg hbounded hcfg hhistory⟩
  · rw [hrun, hstate]
  · rw [hstate]; exact fun hn => nomatch hn
  · rw [hlatch, hnone]
    exact iff_of_false (fun hn => by rw [hn] at hstate; exact nomatch hstate) (by simp)
  · have hpresent : x.state.isSome = true := by cases hx : x.state <;> simp_all [availableState]
    have hsome : y.state.isSome = true := by cases hy : y.state <;> simp_all [poweredState]
    rw [hsome, hcfg, ← h5, hpresent]

theorem present_of_isSome (hsome : x.state.isSome = true) : x.cfg.present = true := by
  obtain ⟨⟨-, -, -, -, h5⟩, -⟩ := h
  rw [← h5, hsome]

/-- An available fan put into a state without power. -/
theorem rests (hfree : availableState x.state = true) {st : FanState} (hstate : y.state = some st)
    (hst : poweredState (some st) = false ∧ st ≠ .tripped) (hrun : y.run = false) (hdrive : y.drive = 0) (hlatch : y.latch = x.latch)
    (hcfg : y.cfg = x.cfg) (hhistory : y.history.length ≤ 8) : y.sound := by
  refine Fan.sound_of_off (Fan.bounded_of_cfg h.2 hcfg hhistory) ?_ hstate hst.1 ?_ hrun hdrive
  · rw [hcfg]
    exact present_of_isSome h (by cases hx : x.state <;> simp_all [availableState])
  · rw [hlatch, latch_of_available h hfree]
    exact iff_of_false hst.2 (by simp)

end Fan.sound

/-! ### The acts of a fan -/

theorem moveFan_fan (f : FanNo) (g : Fan → Fan) (s : State) : (moveFan f g s).1.fan f = g (s.fan f) := State.fan_modFan_same s f g

theorem windowStamps_length {s : State} {f : FanNo} (h : (s.fan f).history.length ≤ 8) : (s.windowStamps f).length ≤ 8 :=
  (List.length_filter_le _ _).trans h

section Acts

variable {f : FanNo} {s : State} (h : (s.fan f).sound)

include h

theorem history_le : (s.fan f).history.length ≤ 8 := by
  obtain ⟨-, -, -, -, -, hhistory⟩ := h
  exact hhistory

theorem budgetAttempt_sound (hfree : availableState (s.fan f).state = true) : ((budgetAttempt f s).1.fan f).sound := by
  have hkept := windowStamps_length (history_le h)
  have hx : ({ s.fan f with history := s.windowStamps f } : Fan).sound := h.same rfl rfl rfl rfl rfl hkept
  simp only [budgetAttempt]
  split
  · rw [makeStart, moveFan_fan, State.fan_modFan_same]
    exact hx.on hfree rfl rfl (feedForward_bounds hx.2 _) rfl rfl (recordStart_length hkept _)
  · rw [moveFan_fan]
    change ((s.modFan f fun x => { x with history := s.windowStamps f }).fan f).toWaiting.sound
    rw [State.fan_modFan_same]
    exact hx.rests hfree rfl (by decide) rfl rfl rfl rfl hkept

theorem reverseFan_sound (hfree : availableState (s.fan f).state = true) : ((reverseFan f s).1.fan f).sound := by
  rw [reverseFan, moveFan_fan]
  exact h.rests hfree rfl (by decide) rfl rfl rfl rfl (history_le h)

theorem stopFan_sound (hfree : availableState (s.fan f).state = true) : ((stopFan f s).1.fan f).sound := by
  rw [stopFan, moveFan_fan]
  exact h.rests hfree rfl (by decide) rfl rfl rfl rfl (history_le h)

theorem startAttempt_sound : ((startAttempt f s).1.fan f).sound := by
  simp only [startAttempt]
  split_ifs with hstopped hcoast
  · exact reverseFan_sound h (by rw [hstopped.1]; rfl)
  · exact budgetAttempt_sound h (by rw [hstopped.1]; rfl)
  · exact h

theorem changeStage_sound : ((changeStage f s).1.fan f).sound := by
  have hforward := feedForward_bounds h.2 (s.fan f).effStage
  obtain ⟨⟨hrun, -⟩, -⟩ := id h
  unfold changeStage
  split
  · next hstate =>
    rw [moveFan_fan]
    exact h.on (by rw [hstate]; rfl) rfl rfl hforward rfl rfl (history_le h)
  · next hstate =>
    rw [State.fan_modFan_same]
    rw [hstate] at hrun
    exact h.on (by rw [hstate]; rfl) (by rw [hstate]; rfl) hrun hforward rfl rfl (history_le h)
  · next hstate =>
    rw [State.fan_modFan_same]
    rw [hstate] at hrun
    exact h.on (by rw [hstate]; rfl) (by rw [hstate]; rfl) hrun hforward rfl rfl (history_le h)
  · exact h

theorem followHandover_sound (eff : Nat) : ((followHandover f eff s).1.fan f).sound := by
  cases hstate : (s.fan f).state with
  | none => simpa only [followHandover, hstate] using h
  | some st =>
    have hfree : ∀ {st'}, st = st' → availableState (some st') = true → availableState (s.fan f).state = true := by
      rintro st' rfl hst
      rwa [hstate]
    cases st with
    | stopped => simpa only [followHandover, hstate] using startAttempt_sound h
    | waitingBudget =>
      simp only [followHandover, hstate]
      split_ifs
      · exact stopFan_sound h (hfree rfl rfl)
      · exact budgetAttempt_sound h (hfree rfl rfl)
      · exact h
    | starting | changing | running =>
      simp only [followHandover, hstate]
      split_ifs
      · exact stopFan_sound h (hfree rfl rfl)
      · exact reverseFan_sound h (hfree rfl rfl)
      · exact changeStage_sound h
      · exact h
    | coasting | tripped | inhibited => simpa only [followHandover, hstate] using h

theorem receiveHandover_sound : ((receiveHandover f s).1.fan f).sound := by
  refine followHandover_sound ?_ _
  rw [State.fan_modFan_same]
  exact h.same rfl rfl rfl rfl rfl (history_le h)

theorem grantStart_sound : ((grantStart f s).1.fan f).sound := by
  unfold grantStart
  split
  · next hdue =>
    rw [makeStart, moveFan_fan]
    exact h.on (by rw [hdue.1]; rfl) rfl rfl (feedForward_bounds h.2 _) rfl rfl (recordStart_length (history_le h) _)
  · exact h

theorem perform_sound_of_actsOn {w : Work} (hw : w.actsOn = some f) : ((perform w s).1.fan f).sound := by
  cases w
  case startAttempt => obtain rfl := Option.some.inj hw; exact startAttempt_sound h
  case handRegime => obtain rfl := Option.some.inj hw; exact receiveHandover_sound h
  case grant => obtain rfl := Option.some.inj hw; exact grantStart_sound h
  case handFan =>
    obtain rfl := Option.some.inj hw
    simp only [perform]
    split_ifs
    · exact h
    · exact receiveHandover_sound h
  all_goals exact nomatch hw

end Acts

/-! ### Hand-overs -/

/-- A hand-over that is not an act of a fan leaves the fans. -/
theorem perform_fans {w : Work} (hw : w.actsOn = none) (s : State) : (perform w s).1.fans = s.fans := by
  cases w with
  | startAttempt f | handFan f | handRegime f | grant f => exact nomatch hw
  | fanMoved f a b => exact (fanMoved_alters a b s).1 .fans (by decide)
  | nextHead => exact (nextHead_alters s).1 .fans (by decide)
  | quietTest => exact (quietTest_alters s).1 .fans (by decide)
  | contribution c => exact (takeContribution_alters c s).1 .fans (by decide)
  | calEnded c => exact (receiveCalEnd_alters c s).1 .fans (by decide)
  | availability | grantDue | reform => rfl
  | reevaluate => exact (reevaluate_alters s).1 .fans (by decide)
  | giveRole f => exact (giveRole_alters f s).1 .fans (by decide)
  | demandShort => exact (evaluateShort_alters s).1 .fans (by decide)

/-- What the acts of each fan keep of its record, hand-overs keep of every fan's. -/
theorem perform_fan_keeps {Q : Fan → Prop} (hact : ∀ {w f s}, w.actsOn = some f → Q (s.fan f) → Q ((perform w s).1.fan f)) (w : Work)
    {s : State} (h : ∀ f, Q (s.fan f)) (k : FanNo) : Q ((perform w s).1.fan k) := by
  cases hw : w.actsOn with
  | none =>
    rw [State.fan, perform_fans hw]
    exact h k
  | some f =>
    by_cases hk : k = f
    · subst hk
      exact hact hw (h k)
    · rw [(perform_act hw s).others k hk]
      exact h k

theorem run_sound (ws : List Work) {s : State} (h : ∀ f, (s.fan f).sound) (f : FanNo) : ((run ws s).fan f).sound :=
  run_keeps (fun t => ∀ f, (t.fan f).sound)
    (fun w _ ht => perform_fan_keeps (Q := Fan.sound) (fun hw hx => perform_sound_of_actsOn hx hw) w ht) ws s h f

theorem heeds_of_fixed {level : Bool} {x y : Fan} (h : x.heeds level) (hfixed : fixedState y.state = fixedState x.state) :
    y.heeds level := by
  have havailable : ∀ st, availableState st = (fixedState st == some .stopped) := by
    rintro (- | st)
    · rfl
    · cases st <;> rfl
  have hinhibited : ∀ st, st = some .inhibited ↔ fixedState st = some .inhibited := by
    rintro (- | st)
    · exact iff_of_false nofun nofun
    · cases st <;> decide
  rw [Fan.heeds, havailable, Ne, hinhibited] at h ⊢
  rwa [hfixed]

theorem run_heeds (ws : List Work) {level : Bool} {s : State} {f : FanNo} (h : (s.fan f).heeds level) :
    ((run ws s).fan f).heeds level :=
  heeds_of_fixed h (congrArg Fan.state ((run_handedOn ws s).fan f) :)

end Sys2Proof.Machine

end

/-! PROOFS. The fans' outputs and OUTPUT INHIBIT, kept by every step. -/

section

namespace Sys2Proof.Machine

/-! ### Commands that reach the fans by hand-overs alone -/

theorem enqueue_alters_cal (c : ChanNo) (t : CalType) (s : State) : Alters calParts s (enqueue c t s).1 := alters_cal (.refl _) _ _

theorem runEnqueue_linked (c : ChanNo) (t : CalType) (s : State) : Linked calParts s (runEffect (enqueue c t s)) :=
  runEffect_linked (enqueue_alters_cal c t s)

theorem serveZero_linked (form : Form) (fields : List Byte) (s : State) : Linked calParts s (serveZero form fields s).state := by
  unfold serveZero
  split
  · split
    · exact .refl _ s
    · dsimp only [answer]
      rw [groupZero]
      exact .foldl (fun u c => .guarded fun _ => runEnqueue_linked c _ u) allChans s
  · split
    · exact .refl _ s
    · unfold zeroChannel
      split
      · exact .refl _ s
      · split
        · exact runEnqueue_linked _ _ s
        · exact .refl _ s

theorem goodWindowDone_linked (c : ChanNo) (w : Nat) (s : State) : Linked calParts s (goodWindowDone c w s) := by
  unfold goodWindowDone
  split
  · exact (Linked.of_acts ((goodWindowFirst_alters c s).actsRun _)).trans (runEffect_linked (routeHead_alters c w _))
  · exact runEffect_linked ((goodWindowFirst_alters c s).trans (publish_alters c w _))

theorem takeSample_linked (c : ChanNo) (code : Code) (s : State) : Linked calParts s (takeSample c code s) := by
  have hwindow : ∀ l u, Linked calParts u (windowDone c l u) := fun l u => by
    unfold windowDone
    split
    · exact runEffect_linked (faultyWindowDone_alters c u)
    · exact goodWindowDone_linked c _ u
  simp only [takeSample]
  split
  · exact .of_alters (setCh_alters _ _ s)
  · exact (Linked.of_alters (setCh_alters _ _ s)).trans (hwindow _ _)

abbrev scanParts : List Part := .scn :: calParts

theorem converted_linked (code : Code) (s : State) : Linked scanParts s (converted code s) := by
  refine .guarded fun _ => Linked.trans ?_ (.of_alters (endVisit_alters _))
  unfold sampleTaken
  split
  · exact .refl _ s
  · exact (takeSample_linked _ code s).mono (by decide)

/-- What a regime's entry alters before the fans are set. -/
abbrev regimeReached : List Part := [.evq, .channels, .cal, .rau, .doors, .vestibule]

theorem clearWork_altersOwn (s : State) : Alters (.rau :: calParts) s (clearWork s) := by
  have htake : ∀ c u, Alters (.rau :: calParts) u (takeContribution c u) := fun c u => (takeContribution_alters c u).mono (by decide)
  have hqueue : Alters (.rau :: calParts) s (clearQueue s) := by
    have hclear : Alters (.rau :: calParts) s (clearForIncident s) := (clearForIncident_alters s).mono (by decide)
    unfold clearQueue
    split
    · exact hclear
    · exact .ite (fun _ => hclear.trans (htake _ _)) fun _ => hclear
  rw [clearWork_eq, clearSession]
  split
  · exact hqueue
  · next sp _ =>
    have hended := hqueue.trans ((endSession_alters sp .spanAborted sp.entryG (clearQueue s)).mono (by decide))
    exact .ite (fun _ => hended.trans (htake _ _)) fun _ => hended

theorem handRegime_altersOwn (before : Regime) (s : State) : Alters regimeReached s (handRegime before s) := by
  have hown : Alters rauParts s { s with rau := { s.rau with fallWaiting := false } } := alters_rau (.refl _) _
  have hmark : Alters regimeReached s { s with rau := { s.rau with fallWaiting := false } } := hown.mono (by decide)
  have hcal : Alters regimeReached s (handedToCal s) :=
    .ite (fun _ => hmark.trans ((clearWork_altersOwn _).mono (by decide))) fun _ => hmark
  rw [handRegime_eq]
  exact .ite (fun _ => hcal) fun _ => hcal.trans ((regimeDoors_alters _).mono (by decide))

theorem enterRegime_linked (r : Regime) (params : Rau → Rau) (s : State) : Linked regimeReached s (enterRegime r params s) :=
  (Linked.of_alters (storeRegime_alters r params s)).trans
    ((Linked.of_alters (handRegime_altersOwn _ _)).trans ((setFans_linked _).mono (by decide)))

/-! ### The fans' invariant under acts and hand-overs -/

namespace State.fansOk

variable {s t : State} (h : s.fansOk)

include h

theorem of_fans (hfans : t.fans = s.fans) (hinhibit : t.inhibit = s.inhibit) : t.fansOk := by
  refine fansOk_iff.mpr fun f => ?_
  rw [State.fan, hfans, hinhibit]
  exact fansOk_iff.mp h f

theorem run (ws : List Work) : (run ws s).fansOk := by
  refine fansOk_iff.mpr fun f => ⟨run_sound ws (fun k => (fansOk_iff.mp h k).1) f, ?_⟩
  rw [(run_handedOn ws s).inhibit]
  exact run_heeds ws (fansOk_iff.mp h f).2

theorem of_linked {ps : List Part} (hlinked : Linked ps s t) (hps : .fans ∉ ps ∧ .inhibit ∉ ps := by decide) : t.fansOk :=
  hlinked.keeps (fun _ _ ⟨_, ws, hv, heq⟩ hs =>
    heq ▸ State.fansOk.run (State.fansOk.of_fans hs (hv.1 .fans hps.1) (hv.1 .inhibit hps.2)) ws) h

/-- An act of one fan that keeps it keeps them all. -/
theorem of_led {f : FanNo} {e : Effect} (hled : FanLed f s e)
    (hfan : (s.fan f).kept s.inhibit.level → (e.1.fan f).kept s.inhibit.level) : (runEffect e).fansOk := by
  have hinhibit : e.1.inhibit = s.inhibit := hled.alters.1 .inhibit (by decide)
  refine State.fansOk.run (fansOk_iff.mpr fun k => ?_) e.2
  rw [hinhibit]
  by_cases hk : k = f
  · subst hk
    exact hfan (fansOk_iff.mp h k)
  · rw [hled.others k hk]
    exact fansOk_iff.mp h k

theorem of_act {f : FanNo} {e : Effect} (hact : FanAct f s e)
    (hfan : (s.fan f).kept s.inhibit.level → (e.1.fan f).kept s.inhibit.level) : (runEffect e).fansOk := of_led h hact.led hfan

theorem of_change {f : FanNo} {g : Fan → Fan} (hstate : (g (s.fan f)).state = (s.fan f).state)
    (hfan : (s.fan f).kept s.inhibit.level → (g (s.fan f)).kept s.inhibit.level) : (s.modFan f g).fansOk := by
  have hrun := of_act h (FanAct.change f hstate) (by rw [State.fan_modFan_same]; exact hfan)
  rwa [runEffect_nil] at hrun

end State.fansOk

/-! ### The acts of a fan in its own state -/

namespace Fan.kept

variable {level : Bool} {x y : Fan} (h : x.kept level)

include h

/-- A change that leaves the state with its outputs. -/
theorem same (hstate : y.state = x.state) (hrun : y.run = x.run) (hdrive : y.drive = x.drive) (hlatch : y.latch = x.latch)
    (hcfg : y.cfg = x.cfg) (hhistory : y.history = x.history) : y.kept level := by
  obtain ⟨hsound, hheeds⟩ := h
  refine ⟨hsound.same hstate hrun hdrive hlatch hcfg ?_, ?_⟩
  · obtain ⟨-, -, -, -, -, hle⟩ := hsound
    rwa [hhistory]
  · rwa [Fan.heeds, hstate]

/-- An available fan is not held by OUTPUT INHIBIT. -/
theorem moves (hfree : availableState x.state = true) (hy : y.sound) (hstill : availableState y.state = true) : y.kept level := by
  refine ⟨hy, ?_⟩
  obtain ⟨-, hheeds⟩ := h
  cases level with
  | true => exact absurd hfree (by rw [Bool.not_eq_true]; exact hheeds)
  | false =>
    intro hinhibited
    rw [hinhibited] at hstill
    exact nomatch hstill

/-- A present fan that trips (R129, R131). -/
theorem trips (hsome : x.state.isSome = true) (cause : TripCause) (now : Ms) : (x.toTripped cause now).kept level := by
  obtain ⟨hsound, -⟩ := h
  refine ⟨Fan.sound_of_off hsound.2 (hsound.present_of_isSome hsome) rfl rfl (iff_of_true rfl rfl) rfl rfl, ?_⟩
  cases level
  · exact nofun
  · rfl

end Fan.kept

section Acts

variable {f : FanNo} {s : State} {level : Bool} (h : (s.fan f).kept level)

include h

theorem budgetAttempt_kept (hfree : availableState (s.fan f).state = true) : ((budgetAttempt f s).1.fan f).kept level := by
  refine h.moves hfree (budgetAttempt_sound h.1 hfree) ?_
  simp only [budgetAttempt]
  split
  · rw [makeStart, moveFan_fan]; rfl
  · rw [moveFan_fan]; rfl

theorem endCoast_kept (hfree : availableState (s.fan f).state = true) : ((endCoast f s).1.fan f).kept level := by
  unfold endCoast
  split
  · exact budgetAttempt_kept h hfree
  · exact h.moves hfree (stopFan_sound h.1 hfree) (by rw [stopFan, moveFan_fan]; rfl)

theorem toRunning_kept (hpowered : poweredState (s.fan f).state = true) (now : Ms) : ((s.fan f).toRunning now).kept level := by
  have hfree : availableState (s.fan f).state = true := by
    cases hstate : (s.fan f).state with
    | none => simp [hstate, poweredState] at hpowered
    | some st => cases st <;> simp_all [poweredState, availableState]
  obtain ⟨⟨-, -, hdrive, -⟩, -⟩ := h.1
  exact h.moves hfree (h.1.on hfree rfl rfl (hdrive hpowered) rfl rfl (history_le h.1)) rfl

theorem reachSpeed_kept (hpowered : poweredState (s.fan f).state = true) (p : Nat) : ((reachSpeed f p s).1.fan f).kept level := by
  rw [reachSpeed, moveFan_fan]
  exact toRunning_kept h hpowered _

theorem speedOff_kept (hpowered : poweredState (s.fan f).state = true) : ((speedOff f s).1.fan f).kept level := by
  rw [speedOff, moveFan_fan]
  exact toRunning_kept h hpowered _

theorem saturate_kept : ((saturate f s).1.fan f).kept level := by
  have hmeasured : ({ (s.fan f).measured .saturated with tachCount := none } : Fan).kept level := h.same rfl rfl rfl rfl rfl rfl
  simp only [saturate]
  split
  · next hcoasting =>
    refine endCoast_kept ?_ ?_
    · rw [State.fan_modFan_same]
      exact hmeasured
    · rw [State.fan_modFan_same]
      exact hcoasting ▸ rfl
  · rw [State.fan_modFan_same]
    exact hmeasured

theorem endTests_kept (p : Nat) : ((endTests f p s).1.fan f).kept level := by
  have hreach : poweredState (s.fan f).state = true →
      ((if withinBand (s.fan f).cfg (s.fan f).effStage p then reachSpeed f p s else (s, [])).1.fan f).kept level := fun hpowered => by
    split
    · exact reachSpeed_kept h hpowered p
    · exact h
  unfold endTests
  dsimp only
  split
  · next hstate => exact hreach (by rw [hstate]; rfl)
  · next hstate => exact hreach (by rw [hstate]; rfl)
  · next hstate =>
    split
    · exact endCoast_kept h (by rw [hstate]; rfl)
    · exact h
  · exact h

/-- The speed loop's correction stays within the bounds of the drive code (R114). -/
theorem regulated_kept (p : Nat) (now : Ms) : ((s.fan f).regulated p now).kept level := by
  by_cases hpowered : poweredState (s.fan f).state = true
  · have hbounds := correctedDrive_bounds h.1.2 (s.fan f).effStage p (s.fan f).drive
    have hdrive : ((s.fan f).regulated p now).drive = correctedDrive (s.fan f).cfg (s.fan f).effStage p (s.fan f).drive := by
      simp [Fan.regulated, hpowered]
    have hfree : availableState (s.fan f).state = true := by
      cases hstate : (s.fan f).state with
      | none => simp [hstate, poweredState] at hpowered
      | some st => cases st <;> simp_all [poweredState, availableState]
    obtain ⟨⟨hrun, -⟩, -⟩ := id h.1
    exact h.moves hfree (h.1.on hfree hpowered (hrun.trans hpowered) (by rw [hdrive]; exact hbounds) rfl rfl (history_le h.1)) hfree
  · exact h.same rfl rfl (by simp [Fan.regulated, hpowered]) rfl rfl rfl

theorem measure_kept (p : Nat) : ((measure f p s).1.fan f).kept level := by
  refine endTests_kept ?_ p
  rw [State.fan_modFan_same]
  have hmeasured : ((s.modFan f (·.measured (.period p))).fan f).kept level := by
    rw [State.fan_modFan_same]
    exact h.same rfl rfl rfl rfl rfl rfl
  have hregulated := regulated_kept hmeasured p s.tb.uptime
  rw [State.fan_modFan_same] at hregulated
  exact hregulated.same rfl rfl rfl rfl rfl rfl

theorem risingEdge_kept : ((risingEdge f s).1.fan f).kept level := by
  unfold risingEdge
  split
  · rw [State.fan_modFan_same]
    exact h.same rfl rfl rfl rfl rfl rfl
  · split
    · exact measure_kept h _
    · dsimp only
      rw [State.fan_modFan_same]
      exact (saturate_kept h).same rfl rfl rfl rfl rfl rfl

theorem tripFan_kept (cause : TripCause) : ((tripFan f cause s).1.fan f).kept level := by
  unfold tripFan
  split
  · next hclear =>
    rw [moveFan_fan]
    exact h.trips hclear.1 cause _
  · exact h

theorem raiseStall_kept : ((raiseStall f s).1.fan f).kept level := by
  unfold raiseStall
  split
  · exact tripFan_kept h _
  · exact h

theorem sourceActive_kept (cause : TripCause) : ((sourceActive f cause s).1.fan f).kept level := by
  unfold sourceActive
  split
  · exact tripFan_kept h _
  · exact h

theorem startTimedOut_kept (hpowered : poweredState (s.fan f).state = true) : ((startTimedOut f s).1.fan f).kept level := by
  unfold startTimedOut
  split
  · exact speedOff_kept h hpowered
  · exact tripFan_kept h _

theorem stallTimedOut_kept : ((stallTimedOut f s).1.fan f).kept level := by
  refine raiseStall_kept ?_
  rw [State.fan_modFan_same]
  exact h.same rfl rfl rfl rfl rfl rfl

theorem recheckBudget_kept : ((recheckBudget f s).1.fan f).kept level := by
  have hhistory := windowStamps_length (history_le h.1)
  have hstored : ∀ due, ({ s.fan f with history := s.windowStamps f, startDue := due } : Fan).kept level :=
    fun _ => ⟨h.1.same rfl rfl rfl rfl rfl hhistory, h.2⟩
  simp only [recheckBudget]
  split
  · rw [State.fan_modFan_same]
    exact hstored true
  · change ((s.modFan f fun x => { x with history := s.windowStamps f }).fan f).kept level
    rw [State.fan_modFan_same]
    exact hstored _

end Acts

/-! ### Release and configuration -/

/-- A present fan released from its latch is STOPPED, or INHIBITED while the inhibit is active (R133). -/
theorem releasedTo_kept {y : Fan} (hbounded : y.bounded) (hpresent : y.cfg.present = true) (hlatch : y.latch = none) (level : Bool) :
    (y.releasedTo level).kept level := by
  cases level with
  | true => exact ⟨Fan.sound_of_off hbounded hpresent rfl rfl (by simp [Fan.releasedTo, Fan.toInhibited, Fan.powerOff, hlatch]) rfl rfl, rfl⟩
  | false =>
    exact ⟨Fan.sound_of_off hbounded hpresent rfl rfl (by simp [Fan.releasedTo, Fan.toStopped, Fan.powerOff, hlatch]) rfl rfl, nofun⟩

/-- A set latch is that of a present, TRIPPED fan (R130). -/
theorem Fan.sound.tripped {x : Fan} (h : x.sound) (hlatch : x.latch.isSome = true) :
    x.state = some .tripped ∧ x.cfg.present = true := by
  obtain ⟨⟨-, -, -, htripped, hpresent⟩, -⟩ := h
  have hstate := htripped.mpr hlatch
  rw [hstate] at hpresent
  exact ⟨hstate, hpresent.symm⟩

theorem clearTrip_kept {f : FanNo} {s : State} (h : (s.fan f).sound) (hlatch : (s.fan f).latch.isSome = true) (l count : Nat) :
    ((clearTrip f l count s).1.fan f).kept s.inhibit.level := by
  rw [clearTrip, releaseFan]
  dsimp only
  rw [moveFan_fan]
  change (((s.modFan f (·.clearLatch count)).fan f).releasedTo s.inhibit.level).kept s.inhibit.level
  rw [State.fan_modFan_same]
  exact releasedTo_kept (y := (s.fan f).clearLatch count) h.2 (h.tripped hlatch).2 rfl _

theorem retryTrip_kept {f : FanNo} {s : State} (h : (s.fan f).kept s.inhibit.level) (hlatch : (s.fan f).latch.isSome = true) :
    ((retryTrip f s).1.fan f).kept s.inhibit.level := by
  unfold retryTrip
  split
  · exact clearTrip_kept h.1 hlatch _ _
  · rw [State.fan_modFan_same]
    exact h.same rfl rfl rfl rfl rfl rfl

/-- A configuration within the ranges of R106, as far as the drive code rests on them. -/
abbrev FanConfig.inRange (cfg : FanConfig) : Prop := cfg.minCode ≤ 511 ∧ cfg.stage1 ≤ 1000 ∧ cfg.stage2 ≤ 1000 ∧ cfg.stage3 ≤ 1000

theorem takenFan_inRange (fs : List Byte) : (takenFan fs).inRange :=
  ⟨Nat.min_le_right _ _, clampNat_le (by decide) _, clampNat_le (by decide) _, clampNat_le (by decide) _⟩

theorem withCfg_bounded {x : Fan} (h : x.bounded) {cfg : FanConfig} (hcfg : cfg.inRange) : (x.withCfg cfg).bounded := by
  obtain ⟨-, -, -, -, hhistory⟩ := h
  exact ⟨hcfg.1, hcfg.2.1, hcfg.2.2.1, hcfg.2.2.2, hhistory⟩

/-- An unpowered fan that keeps its presence takes a configuration. -/
theorem withCfg_kept {level : Bool} {x : Fan} (h : x.kept level) {cfg : FanConfig} (hcfg : cfg.inRange)
    (hoff : poweredState x.state = false) (hpresent : x.state.isSome = cfg.present) : (x.withCfg cfg).kept level := by
  obtain ⟨⟨⟨h1, h2, -, h4, -⟩, hbounded⟩, hheeds⟩ := h
  refine ⟨⟨⟨h1, h2, fun hon => ?_, h4, hpresent⟩, withCfg_bounded hbounded hcfg⟩, hheeds⟩
  have hon' : poweredState x.state = true := hon
  rw [hoff] at hon'
  exact nomatch hon'

/-- A fan with a new configuration makes its move, or trips where a source is active (R109, R129). -/
theorem tripOrMove_keeps {P : Fan → Prop} {f : FanNo} {g : Fan → Fan} {s : State}
    (hmove : (s.fan f).activeSources = [] → P (g (s.fan f))) (htrip : ∀ cause, P ((s.fan f).toTripped cause s.tb.uptime)) :
    P ((tripOrMove f g s).1.fan f) := by
  unfold tripOrMove
  split
  · next hnone =>
    rw [moveFan_fan]
    refine hmove ?_
    have hhead : (freeOrder s.choices (s.fan f).activeSources).1.head? = none := congrArg Prod.fst hnone
    have hperm := freeOrder_perm s.choices (s.fan f).activeSources
    rw [List.head?_eq_none_iff.mp hhead] at hperm
    exact hperm.nil_eq.symm
  · next cause n _ =>
    rw [moveFan_fan]
    exact htrip cause

theorem placeFan_kept {f : FanNo} {s : State} (h : (s.fan f).kept s.inhibit.level) {cfg : FanConfig} (hcfg : cfg.inRange)
    (hfree : fanSetBarred (s.fan f).state cfg.present = false) : ((placeFan f cfg s).1.fan f).kept s.inhibit.level := by
  have hbounded := withCfg_bounded h.1.2 hcfg
  obtain ⟨⟨h1, h2, h3, h4, h5⟩, -⟩ := id h.1
  have hstored : (s.modFan f (·.withCfg cfg)).fan f = (s.fan f).withCfg cfg := State.fan_modFan_same _ _ _
  have htripped : cfg.present = true → ∀ cause now, (((s.fan f).withCfg cfg).toTripped cause now).kept s.inhibit.level :=
    fun hpresent cause now => by
      refine ⟨Fan.sound_of_off hbounded hpresent rfl rfl (iff_of_true rfl rfl) rfl rfl, ?_⟩
      cases s.inhibit.level
      · exact nofun
      · rfl
  simp only [placeFan]
  split
  · next hstate hpresent =>
    rw [hstored]
    exact withCfg_kept h hcfg (by rw [hstate]; rfl) (by rw [hstate, hpresent]; rfl)
  · next hstate hpresent =>
    refine tripOrMove_keeps (P := (·.kept s.inhibit.level)) (fun _ => ?_) fun cause => ?_
    · rw [hstored]
      have hlatch : (s.fan f).latch = none := by
        by_contra hne
        have := h4.mpr (Option.isSome_iff_ne_none.mpr hne)
        rw [hstate] at this
        exact nomatch this
      exact releasedTo_kept hbounded hpresent hlatch _
    · rw [hstored]
      exact htripped hpresent cause _
  · next hstate hpresent =>
    rw [State.fan_modFan_same, hstored]
    have hkept := withCfg_kept h hcfg (by rw [hstate]; rfl) (by rw [hstate, hpresent]; rfl)
    exact hkept.same rfl rfl rfl rfl rfl rfl
  · next st hne hstate hpresent =>
    have hstopped : (s.fan f).state = some .stopped := by
      rw [hstate, hpresent] at hfree
      rw [hstate]
      cases st <;> simp_all [fanSetBarred]
    have hkept := withCfg_kept h hcfg (by rw [hstopped]; rfl) (by rw [hstopped, hpresent]; rfl)
    split
    · rw [hstored]
      exact hkept
    · refine tripOrMove_keeps (P := (·.kept s.inhibit.level)) (fun _ => ?_) fun cause => ?_
      · rw [hstored]
        exact hkept
      · rw [hstored]
        exact htripped hpresent cause _
  · next st hstate hpresent =>
    have hstopped : (s.fan f).state = some .stopped := by
      rw [hstate, hpresent] at hfree
      rw [hstate]
      cases st <;> simp_all [fanSetBarred]
    rw [moveFan_fan, hstored]
    have hlatch : (s.fan f).latch = none := h.1.latch_of_available (by rw [hstopped]; rfl)
    refine ⟨⟨⟨rfl, fun _ => rfl, fun hon => (nomatch hon), ?_, hpresent.symm⟩, hbounded⟩, ?_⟩
    · exact iff_of_false nofun (by simp [Fan.withCfg, Fan.powerOff, hlatch])
    · cases s.inhibit.level
      · exact nofun
      · rfl

end Sys2Proof.Machine

end

/-! PROOFS. The fans' commands and OUTPUT INHIBIT, each of which keeps the fans' outputs with their states. -/

section

namespace Sys2Proof.Machine

/-! ### The fans' commands -/

theorem fansOk_guarded {c : Prop} [Decidable c] {s t : State} (h : s.fansOk) (k : c → t.fansOk) : (if c then t else s).fansOk := by
  split
  · next hc => exact k hc
  · exact h

theorem setTripInput_kept {level : Bool} {x : Fan} (hx : x.kept level) (i : TripInput) (d : Debounced) :
    (x.setTripInput i d).kept level := by
  cases i
  · exact hx.same rfl rfl rfl rfl rfl rfl
  · exact hx.same rfl rfl rfl rfl rfl rfl

section Commands

variable {s : State} (h : s.fansOk)

include h

theorem serveSetFan_fansOk (fields : List Byte) : (serveSetFan fields s).state.fansOk := by
  unfold serveSetFan setFanConfig
  split
  · exact h
  · next f _ =>
    split
    · exact h
    · next hfree =>
      split
      · refine h.of_led (placeFan_led f _ s) fun hfan => placeFan_kept hfan (takenFan_inRange _) ?_
        rw [Bool.not_eq_true] at hfree
        exact hfree
      · exact h

theorem serveTripReset_fansOk (fields : List Byte) : (serveTripReset fields s).state.fansOk := by
  unfold serveTripReset resetTrip
  split
  · exact h
  · next f _ =>
    split
    · next hlatch =>
      split
      · exact h.of_led (clearTrip_led f 1 0 s) fun hfan => clearTrip_kept hfan.1 hlatch 1 0
      · exact h
    · exact h

theorem tachEdge_fansOk (f : FanNo) (edge : TachEdge) : (tachEdge f edge s).fansOk := by
  cases edge with
  | rising =>
    refine h.of_act (.after_change rfl (risingEdge_act f _)) fun hfan => risingEdge_kept ?_
    rw [State.fan_modFan_same]
    exact hfan.same rfl rfl rfl rfl rfl rfl
  | falling => exact h.of_change rfl fun hfan => hfan.same rfl rfl rfl rfl rfl rfl

theorem changeOvercurrent_fansOk (f : FanNo) (level : Bool) : (changeOvercurrent f level s).fansOk := by
  simp only [changeOvercurrent]
  split
  · refine h.of_act (.after_change rfl (sourceActive_act f _ _)) fun hfan => sourceActive_kept ?_ _
    rw [State.fan_modFan_same]
    exact hfan.same rfl rfl rfl rfl rfl rfl
  · exact h.of_change rfl fun hfan => hfan.same rfl rfl rfl rfl rfl rfl

omit h in
theorem powered_of_startOver {f : FanNo} (hover : s.startOver f = true) : poweredState (s.fan f).state = true := by
  simp only [State.startOver, Bool.and_eq_true, beq_iff_eq] at hover
  rw [hover.1]
  rfl

omit h in
theorem powered_of_changeOver {f : FanNo} (hover : s.changeOver f = true) : poweredState (s.fan f).state = true := by
  simp only [State.changeOver, Bool.and_eq_true, beq_iff_eq] at hover
  rw [hover.1]
  rfl

omit h in
theorem coasting_of_coastOver {f : FanNo} (hover : s.coastOver f = true) : (s.fan f).state = some .coasting := by
  simp only [State.coastOver, Bool.and_eq_true, beq_iff_eq] at hover
  exact hover.1

omit h in
theorem latch_of_retryOver {f : FanNo} (hover : s.retryOver f = true) : (s.fan f).latch.isSome = true := by
  simp only [State.retryOver, Bool.and_eq_true] at hover
  exact hover.1

/-- The fans' commands by name. -/
theorem event_fansOk {i : Instr} {t : State} (hrequest : i.request = none) (hparts : i ≠ .stampExpiry) (hfans : .fans ∈ actParts i)
    (hall : actParts i ≠ Part.every) (hexec : exec i s = .next t) : t.fansOk := by
  cases i
  all_goals simp only [Instr.request, reduceCtorEq] at hrequest
  all_goals obtain rfl := Host.Outcome.next.inj hexec
  case tachMeasurement f edge => exact tachEdge_fansOk h f edge
  case tachSaturation f => exact fansOk_guarded h fun _ => h.of_act (saturate_act f s) saturate_kept
  case startTimeout f =>
    exact fansOk_guarded h fun hover => h.of_act (startTimedOut_act f s) fun hfan =>
      startTimedOut_kept hfan (powered_of_startOver hover)
  case changeTimeout f =>
    exact fansOk_guarded h fun hover => h.of_act (speedOff_act f s) fun hfan => speedOff_kept hfan (powered_of_changeOver hover)
  case coastTimeout f =>
    exact fansOk_guarded h fun hover => h.of_act (.after_event (endCoast_act f _)) fun hfan =>
      endCoast_kept (s := fanEvent f .coastTimeout none none s) hfan (coasting_of_coastOver hover ▸ rfl)
  case stallWatchExpiry f => exact fansOk_guarded h fun _ => h.of_act (stallTimedOut_act f s) stallTimedOut_kept
  case budgetRecheck f => exact fansOk_guarded h fun _ => h.of_led (recheckBudget_led f s) recheckBudget_kept
  case overcurrentChange f level => exact changeOvercurrent_fansOk h f level
  case tripInputChange f i level => exact h.of_change (setTripInput_state _ _ _) fun hfan => setTripInput_kept hfan _ _
  case tripSourceDebounced f i =>
    refine fansOk_guarded h fun _ => h.of_act (.after_change (setTripInput_state _ _ _) (sourceActive_act f _ _)) fun hfan =>
      sourceActive_kept ?_ _
    rw [State.fan_modFan_same]
    exact setTripInput_kept hfan _ _
  case autoRetry f =>
    exact fansOk_guarded h fun hover => h.of_led (retryTrip_led f s) fun hfan => retryTrip_kept hfan (latch_of_retryOver hover)
  case retryCountClear f =>
    exact fansOk_guarded h fun _ => h.of_change rfl fun hfan => hfan.same rfl rfl rfl rfl rfl rfl
  case stampExpiry => exact absurd rfl hparts
  all_goals simp [actParts] at hfans hall

end Commands

/-! ### OUTPUT INHIBIT (R126) -/

/-- A change of the debounced inhibit while the fans take it one after another: the fans keep their outputs, those not yet due heed the
new level, and each takes it. -/
structure Heeding (level : Bool) (rest : List FanNo) (s : State) : Prop where
  sound : ∀ f, (s.fan f).sound
  heeds : ∀ f, f ∉ rest → (s.fan f).heeds level
  level : s.inhibit.level = level

theorem Heeding.fansOk {level : Bool} {s : State} (h : Heeding level [] s) : s.fansOk :=
  fansOk_iff.mpr fun f => ⟨h.sound f, h.level ▸ h.heeds f (List.not_mem_nil)⟩

/-- A fan that takes the inhibit, with the hand-overs of its move. -/
theorem Heeding.takes {level : Bool} {f : FanNo} {rest : List FanNo} {s : State} (h : Heeding level (f :: rest) s) {e : Effect}
    (hled : FanLed f s e) (hfan : (e.1.fan f).kept level) : Heeding level rest (runEffect e) := by
  have hothers : ∀ k, k ≠ f → e.1.fan k = s.fan k := hled.others
  refine ⟨run_sound e.2 fun k => ?_, fun k hk => run_heeds e.2 ?_, ?_⟩
  · by_cases hkf : k = f
    · exact hkf ▸ hfan.1
    · rw [hothers k hkf]
      exact h.sound k
  · by_cases hkf : k = f
    · exact hkf ▸ hfan.2
    · rw [hothers k hkf]
      exact h.heeds k (by simp [hkf, hk])
  · have hinhibit : (runEffect e).inhibit = s.inhibit := (run_handedOn e.2 e.1).inhibit.trans (hled.alters.1 .inhibit (by decide))
    rw [hinhibit, h.level]

theorem Heeding.skips {level : Bool} {f : FanNo} {rest : List FanNo} {s : State} (h : Heeding level (f :: rest) s)
    (hfan : (s.fan f).heeds level) : Heeding level rest s where
  sound := h.sound
  heeds k hk := by
    by_cases hkf : k = f
    · exact hkf ▸ hfan
    · exact h.heeds k (by simp [hkf, hk])
  level := h.level

theorem inhibitFan_heeding {f : FanNo} {rest : List FanNo} {s : State} (h : Heeding true (f :: rest) s) :
    Heeding true rest (inhibitFan s f) := by
  unfold inhibitFan
  split
  · next hfree =>
    refine h.takes (FanAct.move f Fan.toInhibited s).led ?_
    rw [moveFan_fan]
    exact ⟨(h.sound f).rests hfree rfl (by decide) rfl rfl rfl rfl (history_le (h.sound f)), rfl⟩
  · next hheld => exact h.skips (Bool.eq_false_iff.mpr hheld)

theorem releaseInhibited_heeding {f : FanNo} {rest : List FanNo} {s : State} (h : Heeding false (f :: rest) s) :
    Heeding false rest (releaseInhibited s f) := by
  unfold releaseInhibited
  split
  · next hheld =>
    have hstate : (s.fan f).state = some .inhibited := beq_iff_eq.mp hheld
    refine h.takes ((FanAct.move f Fan.toStopped s).led.append [.startAttempt f]) ?_
    dsimp only
    rw [moveFan_fan]
    have hsound := h.sound f
    have hlatch : (s.fan f).latch = none := by
      obtain ⟨⟨-, -, -, htripped, -⟩, -⟩ := hsound
      by_contra hne
      have hon := htripped.mpr (Option.isSome_iff_ne_none.mpr hne)
      rw [hstate] at hon
      exact nomatch hon
    exact releasedTo_kept hsound.2 (hsound.present_of_isSome (by rw [hstate]; rfl)) hlatch false
  · next hfree => exact h.skips fun hheld => hfree (beq_iff_eq.mpr hheld)

/-- Every fan of a list takes the inhibit. -/
theorem foldl_heeding {level : Bool} {g : State → FanNo → State}
    (hg : ∀ f rest s, Heeding level (f :: rest) s → Heeding level rest (g s f)) (fans : List FanNo) {s : State}
    (h : Heeding level fans s) : Heeding level [] (fans.foldl g s) := by
  induction fans generalizing s with
  | nil => exact h
  | cons f rest ih => exact ih (hg f rest s h)

theorem inFreeOrder_fansOk {level : Bool} {g : State → FanNo → State}
    (hg : ∀ f rest s, Heeding level (f :: rest) s → Heeding level rest (g s f)) {fans : List FanNo} {s : State}
    (h : Heeding level fans s) : (inFreeOrder fans g s).fansOk := by
  have hperm := freeOrder_perm s.choices fans
  have hstart : Heeding level (freeOrder s.choices fans).1 { s with choices := (freeOrder s.choices fans).2 } :=
    ⟨h.sound, fun f hf => h.heeds f fun hmem => hf (hperm.mem_iff.mpr hmem), h.level⟩
  exact (foldl_heeding hg _ hstart).fansOk

theorem inhibitActive_fansOk {s : State} (h : s.fansOk) : (inhibitActive s).fansOk := by
  refine fansOk_guarded h fun hover => inFreeOrder_fansOk (level := true) (fun f rest u => inhibitFan_heeding) ⟨h.1, fun f hf => ?_, ?_⟩
  · change availableState (s.fan f).state = false
    simpa [mem_allFans, State.inhibitable] using hf
  · simp only [State.inhibitOver, Bool.and_eq_true, beq_iff_eq] at hover
    exact hover.2

theorem inhibitInactive_fansOk {s : State} (h : s.fansOk) : (inhibitInactive s).fansOk := by
  refine fansOk_guarded h fun hover =>
    inFreeOrder_fansOk (level := false) (fun f rest u => releaseInhibited_heeding) ⟨h.1, fun f hf => ?_, ?_⟩
  · change (s.fan f).state ≠ some .inhibited
    simpa [mem_allFans, State.inhibited] using hf
  · simp only [State.inhibitOver, Bool.and_eq_true, beq_iff_eq] at hover
    exact hover.2

/-! ### Resets and time -/

theorem fanInitial_sound : Fan.initial.sound := by decide

theorem fullReset_fansOk (straps : Straps) (s : State) : (fullReset straps s).fansOk := by
  refine fansOk_iff.mpr fun f => ?_
  have hfan : (fullReset straps s).fan f = (s.fan f).fullReset := by simp [State.fan, fullReset]
  rw [hfan]
  exact ⟨fanInitial_sound.same rfl rfl rfl rfl rfl (Nat.zero_le 8), nofun⟩

theorem nodeReset_fan (s : State) (f : FanNo) : ((nodeReset s).fan f) = (s.fan f).nodeReset s.tb.uptime := by
  have hsame := (abortSession_alters (resetLif (appendEvent .node .nodeReset none none s))).1
  have hfan : (abortSession (resetLif (appendEvent .node .nodeReset none none s))).fans = s.fans := hsame .fans (by decide)
  have htb : (abortSession (resetLif (appendEvent .node .nodeReset none none s))).tb = s.tb := hsame .tb (by decide)
  rw [nodeReset, fan_reset, State.fan, hfan, htb, State.fan]

theorem nodeReset_inhibit (s : State) : (nodeReset s).inhibit = s.inhibit :=
  (abortSession_alters (resetLif (appendEvent .node .nodeReset none none s))).1 .inhibit (by decide)

theorem Fan.nodeReset_kept {level : Bool} {x : Fan} (h : x.kept level) (now : Ms) : (x.nodeReset now).kept level := by
  have hhistory : x.history.length ≤ 8 := by
    obtain ⟨⟨-, -, -, -, -, hle⟩, -⟩ := h
    exact hle
  unfold Fan.nodeReset
  split
  · next hpowered =>
    have hfree : availableState x.state = true := by
      cases hstate : x.state with
      | none => simp [hstate, poweredState] at hpowered
      | some st => cases st <;> simp_all [poweredState, availableState]
    exact h.moves hfree (h.1.rests hfree rfl (by decide) rfl rfl rfl rfl hhistory) rfl
  · split
    · next hwaiting =>
      have hfree : availableState x.state = true := by rw [hwaiting]; rfl
      exact h.moves hfree (h.1.rests hfree rfl (by decide) rfl rfl rfl rfl hhistory) rfl
    · exact h.same rfl rfl rfl rfl rfl rfl

/-! ### Every step -/

theorem fansOk_invariant : PlantInvariant State.fansOk := by
  refine plantInvariant_of_acts [.fans, .inhibit] (fun s lif tb evq choices pending hs => hs)
    (fun s v ws hv hs => State.fansOk.run (hs.of_fans (hv .fans (by decide)) (hv .inhibit (by decide))) ws)
    (fun i r s0 s fields hi hmeets hs => ?_) (fun i s t hi htb hmeets hs hexec => ?_)
    (fun s hs => fansOk_iff.mpr fun f => ?_) (fun straps s _ => fullReset_fansOk straps s)
    (fun s hs => fansOk_iff.mpr fun f => ?_)
  · cases i
    case setNode => exact hs.of_linked (serveSetNode_linked fields s)
    case setDoor => exact hs.of_linked (serveSetDoor_linked fields s)
    case doorCommand => exact hs.of_linked (serveDoorCommand_linked fields s)
    case setFan => exact serveSetFan_fansOk hs fields
    case tripReset => exact serveTripReset_fansOk hs fields
    case zero form _ => exact hs.of_linked (serveZero_linked form fields s)
    case regime => exact hs.of_linked (enterRegime_linked _ _ s)
    all_goals simp [Instr.request, actParts] at hi hmeets
  · by_cases hfan : (.fans ∈ actParts i ∧ actParts i ≠ Part.every) ∧ i ≠ .stampExpiry
    · exact event_fansOk hs hi hfan.2 hfan.1.1 hfan.1.2 hexec
    cases i
    all_goals simp only [Instr.request, reduceCtorEq] at hi
    all_goals obtain rfl := Host.Outcome.next.inj hexec
    case conversionComplete code => exact hs.of_linked (converted_linked code s)
    case stampExpiry =>
      refine fansOk_iff.mpr fun f => ?_
      have hfan : (expireStamps s).fan f = { s.fan f with history := (s.fan f).history.map s.expire } := by
        simp [State.fan, expireStamps]
      have hkept := fansOk_iff.mp hs f
      rw [hfan]
      exact ⟨hkept.1.same rfl rfl rfl rfl rfl (by rw [List.length_map]; exact history_le hkept.1), hkept.2⟩
    case inhibitInputChange level =>
      have hlevel : (s.inhibit.change level s.tb.uptime).level = s.inhibit.level := by
        unfold Debounced.change
        split <;> rfl
      refine fansOk_iff.mpr fun f => ?_
      change (s.fan f).kept (s.inhibit.change level s.tb.uptime).level
      rw [hlevel]
      exact fansOk_iff.mp hs f
    case inhibitOn => exact inhibitActive_fansOk hs
    case inhibitOff => exact inhibitInactive_fansOk hs
    case silenceTimeout => exact hs.of_linked (silenceExpiry_linked s)
    all_goals simp [actParts, eventParts, Part.every] at hmeets htb hfan
  · rw [fan_advance]
    exact (fansOk_iff.mp hs f).same rfl rfl rfl rfl rfl rfl
  · rw [nodeReset_fan, nodeReset_inhibit]
    exact Fan.nodeReset_kept (fansOk_iff.mp hs f) _

/-- Settles O54: each fan's outputs with its state, act by act, and the level of OUTPUT INHIBIT as the fans take it. -/
theorem fanOutputsKept : Obligations.FanOutputsKept := fun _ _ hs hstep => fansOk_invariant.step hs hstep

end Sys2Proof.Machine

end

/-! PROOFS. Every fan follows the stage it holds: what an act of a fan does with the stage and direction it has been told, and what the
hand-overs still waiting make good. -/

section

namespace Sys2Proof.Machine

/-! ### A fan and what it has been told -/

/-- What the fan has been told. -/
def Fan.told (x : Fan) : Nat × Nat × Dir := (x.reqStage, x.effStage, x.reqDir)

/-- A fan waits or runs only with a stage above 0, and runs in the direction asked. -/
abbrev Fan.obeys (x : Fan) : Prop :=
  (x.state = some .waitingBudget → 0 < x.effStage) ∧ (poweredState x.state = true → 0 < x.effStage ∧ x.reqDir = x.dirOut)

/-- A fan is STOPPED only at stage 0. -/
abbrev Fan.settled (x : Fan) : Prop := x.state = some .stopped → x.effStage = 0

/-- In INCIDENT the fan does not wait on its budget. -/
abbrev Fan.rushes (r : Regime) (x : Fan) : Prop := r = .incident → x.state ≠ some .waitingBudget

theorem Fan.follows_iff {x : Fan} : x.follows ↔ x.obeys ∧ x.settled :=
  ⟨fun ⟨hstopped, hwaiting, hpowered⟩ => ⟨⟨hwaiting, hpowered⟩, hstopped⟩,
    fun ⟨⟨hwaiting, hpowered⟩, hstopped⟩ => ⟨hstopped, hwaiting, hpowered⟩⟩

/-- A change of a fan that goes on following what it has been told. -/
structure Fan.Steady (r : Regime) (x y : Fan) : Prop where
  told : y.told = x.told
  obeys : x.obeys → y.obeys
  settled : x.settled → y.settled
  rushes : x.rushes r → y.rushes r

namespace Fan.Steady

variable {r : Regime} {x y z : Fan}

theorem refl (r : Regime) (x : Fan) : Steady r x x := ⟨rfl, id, id, id⟩

theorem trans (h : Steady r x y) (k : Steady r y z) : Steady r x z :=
  ⟨k.told.trans h.told, k.obeys ∘ h.obeys, k.settled ∘ h.settled, k.rushes ∘ h.rushes⟩

theorem effStage (h : Steady r x y) : y.effStage = x.effStage := congrArg (·.2.1) h.told

/-- A change that the fan's state does not see. -/
theorem same (htold : y.told = x.told) (hstate : y.state = x.state) (hdir : y.dirOut = x.dirOut) : Steady r x y := by
  have heff : y.effStage = x.effStage := congrArg (·.2.1) htold
  have hreq : y.reqDir = x.reqDir := congrArg (·.2.2) htold
  refine ⟨htold, ?_, ?_, ?_⟩
  · rw [Fan.obeys, Fan.obeys, hstate, heff, hreq, hdir]
    exact id
  · rw [Fan.settled, Fan.settled, hstate, heff]
    exact id
  · rw [Fan.rushes, Fan.rushes, hstate]
    exact id

/-- What holds of a fan in COASTING, TRIPPED or INHIBITED, or out of service, whatever it has been told. -/
theorem of_rest (hstate : y.state ∈ [none, some FanState.coasting, some .tripped, some .inhibited]) :
    y.obeys ∧ y.settled ∧ y.rushes r := by
  have hquiet : y.state ≠ some .waitingBudget ∧ poweredState y.state = false ∧ y.state ≠ some .stopped := by
    simp only [List.mem_cons, List.not_mem_nil, or_false] at hstate
    rcases hstate with h | h | h | h <;> rw [h] <;> decide
  obtain ⟨hwaiting, hpowered, hstopped⟩ := hquiet
  exact ⟨⟨fun h => absurd h hwaiting, fun h => absurd h (by simp [hpowered])⟩, fun h => absurd h hstopped, fun _ => hwaiting⟩

/-- Into COASTING, TRIPPED or INHIBITED, or out of service. -/
theorem rests (htold : y.told = x.told)
    (hstate : y.state ∈ [none, some FanState.coasting, some .tripped, some .inhibited]) : Steady r x y := by
  obtain ⟨hobeys, hsettled, hrushes⟩ := of_rest (r := r) hstate
  exact ⟨htold, fun _ => hobeys, fun _ => hsettled, fun _ => hrushes⟩

/-- Into STOPPED at stage 0. -/
theorem stops (htold : y.told = x.told) (hstate : y.state = some .stopped) (hzero : x.effStage = 0) : Steady r x y := by
  refine ⟨htold, fun _ => ⟨fun h => ?_, fun h => ?_⟩, fun _ _ => (congrArg (·.2.1) htold :).trans hzero, fun _ _ h => ?_⟩
  all_goals
    rw [hstate] at h
    exact nomatch h

/-- Into a powered state in the direction asked, with a stage above 0. -/
theorem powers (htold : y.told = x.told) (hstate : poweredState y.state = true) (hpos : 0 < x.effStage) (hdir : y.dirOut = x.reqDir) :
    Steady r x y := by
  have heff : y.effStage = x.effStage := congrArg (·.2.1) htold
  have hreq : y.reqDir = x.reqDir := congrArg (·.2.2) htold
  refine ⟨htold, fun _ => ⟨fun _ => heff ▸ hpos, fun _ => ⟨heff ▸ hpos, hreq.trans hdir.symm⟩⟩, fun _ h => ?_, fun _ _ h => ?_⟩
  all_goals
    rw [h] at hstate
    exact nomatch hstate

/-- From one powered state into another. -/
theorem runsOn (htold : y.told = x.told) (hbefore : poweredState x.state = true) (hafter : poweredState y.state = true)
    (hdir : y.dirOut = x.dirOut) : Steady r x y := by
  have heff : y.effStage = x.effStage := congrArg (·.2.1) htold
  have hreq : y.reqDir = x.reqDir := congrArg (·.2.2) htold
  refine ⟨htold, fun ⟨_, hpowered⟩ => ?_, fun _ h => ?_, fun _ _ h => ?_⟩
  · obtain ⟨hpos, hasked⟩ := hpowered hbefore
    exact ⟨fun _ => heff ▸ hpos, fun _ => ⟨heff ▸ hpos, by rw [hreq, hasked, hdir]⟩⟩
  all_goals
    rw [h] at hafter
    exact nomatch hafter

/-- Into WAITING BUDGET outside INCIDENT, with a stage above 0. -/
theorem waits (htold : y.told = x.told) (hstate : y.state = some .waitingBudget) (hpos : 0 < x.effStage) (hregime : r ≠ .incident) :
    Steady r x y := by
  have heff : y.effStage = x.effStage := congrArg (·.2.1) htold
  refine ⟨htold, fun _ => ⟨fun _ => heff ▸ hpos, fun h => ?_⟩, fun _ h => ?_, fun _ h => absurd h hregime⟩
  all_goals
    rw [hstate] at h
    exact nomatch h

end Fan.Steady

/-! ### The acts of a fan -/

section Acts

variable (f : FanNo) (s : State)

theorem budgetAttempt_steady (hpos : 0 < (s.fan f).effStage) : (s.fan f).Steady s.rau.regime ((budgetAttempt f s).1.fan f) := by
  have hstored : (s.modFan f fun x => { x with history := s.windowStamps f }).fan f =
      { s.fan f with history := s.windowStamps f } := State.fan_modFan_same _ _ _
  simp only [budgetAttempt]
  split
  · rw [makeStart, moveFan_fan, hstored]
    exact .powers rfl rfl hpos rfl
  · next hbarred =>
    rw [moveFan_fan]
    change (s.fan f).Steady _ ((s.modFan f fun x => { x with history := s.windowStamps f }).fan f).toWaiting
    rw [hstored]
    exact .waits rfl rfl hpos fun hr => hbarred (.inl hr)

/-- A fan whose budget has been attempted has left STOPPED. -/
theorem budgetAttempt_state : ((budgetAttempt f s).1.fan f).state ≠ some .stopped := by
  simp only [budgetAttempt]
  split
  · rw [makeStart, moveFan_fan]; exact nofun
  · rw [moveFan_fan]; exact nofun

theorem reverseFan_steady : (s.fan f).Steady s.rau.regime ((reverseFan f s).1.fan f) := by
  rw [reverseFan, moveFan_fan]
  exact .rests rfl (show some FanState.coasting ∈ _ by decide)

theorem stopFan_steady (hzero : (s.fan f).effStage = 0) : (s.fan f).Steady s.rau.regime ((stopFan f s).1.fan f) := by
  rw [stopFan, moveFan_fan]
  exact .stops rfl rfl hzero

/-- A start attempt leaves a fan STOPPED only at stage 0 (R117). -/
theorem startAttempt_steady : (s.fan f).Steady s.rau.regime ((startAttempt f s).1.fan f) ∧ ((startAttempt f s).1.fan f).settled := by
  simp only [startAttempt]
  split_ifs with hstopped hcoast
  · exact ⟨reverseFan_steady f s, fun h => by rw [reverseFan, moveFan_fan] at h; exact nomatch h⟩
  · exact ⟨budgetAttempt_steady f s hstopped.2, fun h => absurd h (budgetAttempt_state f s)⟩
  · exact ⟨.refl _ _, fun h => by simpa [h] using hstopped⟩

theorem changeStage_steady : (s.fan f).Steady s.rau.regime ((changeStage f s).1.fan f) := by
  unfold changeStage
  split
  · next hstate =>
    rw [moveFan_fan]
    exact .runsOn rfl (by rw [hstate]; rfl) rfl rfl
  · rw [State.fan_modFan_same]
    exact .same rfl rfl rfl
  · rw [State.fan_modFan_same]
    exact .same rfl rfl rfl
  · exact .refl _ _

/-- What a fan does with a hand-over leaves it following what it has been told, whatever it was doing (R116, R120, R121, R140). -/
structure Fan.Complies (r : Regime) (x y : Fan) : Prop where
  told : y.told = x.told
  obeys : y.obeys
  settled : y.settled
  rushes : y.rushes r

theorem Fan.Steady.complies {r : Regime} {x y : Fan} (h : x.Steady r y) (hobeys : x.obeys) (hsettled : x.settled)
    (hrushes : x.rushes r) : x.Complies r y := ⟨h.told, h.obeys hobeys, h.settled hsettled, h.rushes hrushes⟩

theorem followHandover_complies (eff : Nat) : (s.fan f).Complies s.rau.regime ((followHandover f eff s).1.fan f) := by
  have hrest : ∀ st, (s.fan f).state = st → st ∈ [none, some FanState.coasting, some .tripped, some .inhibited] →
      (s.fan f).Complies s.rau.regime (s.fan f) := fun st hstate hst => by
    obtain ⟨hobeys, hsettled, hrushes⟩ := Fan.Steady.of_rest (r := s.rau.regime) (y := s.fan f) (hstate ▸ hst)
    exact ⟨rfl, hobeys, hsettled, hrushes⟩
  have hstop : (s.fan f).effStage = 0 → (s.fan f).Complies s.rau.regime ((stopFan f s).1.fan f) := fun hzero => by
    rw [stopFan, moveFan_fan]
    exact ⟨rfl, ⟨nofun, nofun⟩, fun _ => hzero, fun _ => nofun⟩
  have hreverse : (s.fan f).Complies s.rau.regime ((reverseFan f s).1.fan f) := by
    rw [reverseFan, moveFan_fan]
    exact ⟨rfl, ⟨nofun, nofun⟩, nofun, fun _ => nofun⟩
  cases hstate : (s.fan f).state with
  | none => simpa only [followHandover, hstate] using hrest none hstate (by decide)
  | some st =>
    cases st with
    | stopped =>
      obtain ⟨hsteady, hsettled⟩ := startAttempt_steady f s
      simp only [followHandover, hstate]
      refine ⟨hsteady.told, hsteady.obeys ?_, hsettled, hsteady.rushes fun _ => ?_⟩
      · rw [Fan.obeys, hstate]
        exact ⟨nofun, nofun⟩
      · rw [hstate]
        exact nofun
    | waitingBudget =>
      simp only [followHandover, hstate]
      split_ifs with hzero hincident
      · exact hstop hzero
      · have hsteady := budgetAttempt_steady f s (Nat.pos_of_ne_zero hzero)
        refine ⟨hsteady.told, hsteady.obeys ⟨fun _ => Nat.pos_of_ne_zero hzero, ?_⟩, fun h => absurd h (budgetAttempt_state f s),
          fun _ h => ?_⟩
        · rw [hstate]
          exact nofun
        · simp only [budgetAttempt, hincident, true_or, if_true] at h
          rw [makeStart, moveFan_fan] at h
          exact nomatch h
      · refine ⟨rfl, ⟨fun _ => Nat.pos_of_ne_zero hzero, ?_⟩, ?_, fun hr => absurd hr hincident⟩
        · rw [hstate]
          exact nofun
        · rw [Fan.settled, hstate]
          exact nofun
    | starting | changing | running =>
      have hpowered : poweredState (s.fan f).state = true := by rw [hstate]; rfl
      have hruns : ∀ t : Fan, (s.fan f).Steady s.rau.regime t → 0 < (s.fan f).effStage → (s.fan f).reqDir = (s.fan f).dirOut →
          (s.fan f).Complies s.rau.regime t := fun t hsteady hpos hdir => by
        refine hsteady.complies ⟨?_, fun _ => ⟨hpos, hdir⟩⟩ ?_ fun _ => ?_
        · rw [hstate]
          exact nofun
        · rw [Fan.settled, hstate]
          exact nofun
        · rw [hstate]
          exact nofun
      simp only [followHandover, hstate]
      split_ifs with hzero hdir hchange
      · exact hstop hzero
      · exact hreverse
      · exact hruns _ (changeStage_steady f s) (Nat.pos_of_ne_zero hzero) (Classical.not_not.mp hdir)
      · exact hruns _ (.refl _ _) (Nat.pos_of_ne_zero hzero) (Classical.not_not.mp hdir)
    | coasting | tripped | inhibited => simpa only [followHandover, hstate] using hrest _ hstate (by decide)

/-- A hand-over of what the RAU holds for the fan leaves it holding and following that (R116). -/
theorem receiveHandover_complies : ((s.fan f).store (s.held f)).Complies s.rau.regime ((receiveHandover f s).1.fan f) := by
  have hcomplies := followHandover_complies f (s.modFan f (·.store (s.held f))) (s.fan f).effStage
  rw [State.fan_modFan_same] at hcomplies
  exact hcomplies

theorem grantStart_steady (hobeys : (s.fan f).obeys) : (s.fan f).Steady s.rau.regime ((grantStart f s).1.fan f) := by
  unfold grantStart
  split
  · next hdue =>
    rw [makeStart, moveFan_fan]
    exact .powers rfl rfl (hobeys.1 hdue.1) rfl
  · exact .refl _ _

end Acts

theorem holds_iff {x : Fan} {r : RauFan} : x.holds r = true ↔ x.told = (r.req, r.eff, r.dir) := by
  simp [Fan.holds, Fan.told, and_assoc]

end Sys2Proof.Machine

end

/-! PROOFS. What every fan holds and follows, with hand-overs still to come. -/

section

namespace Sys2Proof.Machine

/-! ### What the RAU holds -/

/-- What the RAU holds for a fan, as the fan would be told it. -/
def RauFan.told (r : RauFan) : Nat × Nat × Dir := (r.req, r.eff, r.dir)

/-- The two states agree on what the RAU holds for the fans, on the regime and on the door cap. -/
structure SameStages (s t : State) : Prop where
  fans : t.rau.fans = s.rau.fans
  regime : t.rau.regime = s.rau.regime
  effective : ∀ n, t.rau.effective n = s.rau.effective n

namespace SameStages

variable {s t u : State}

theorem held (h : SameStages s t) (f : FanNo) : t.held f = s.held f := by rw [State.held, h.fans, State.held]

theorem trans (h : SameStages s t) (k : SameStages t u) : SameStages s u :=
  ⟨k.fans.trans h.fans, k.regime.trans h.regime, fun n => (k.effective n).trans (h.effective n)⟩

theorem of_rau (h : t.rau = s.rau) : SameStages s t := ⟨by rw [h], by rw [h], fun n => by rw [h]⟩

end SameStages

theorem Rau.effective_congr {r k : Rau} (hdoor : k.doorOpen = r.doorOpen) (hregime : k.regime = r.regime)
    (hrespect : k.respectCap = r.respectCap) (hcap : k.doorCap = r.doorCap) (n : Nat) : k.effective n = r.effective n := by
  rw [Rau.effective, Rau.capped, hdoor, hregime, hrespect, hcap, Rau.effective, Rau.capped]

theorem HandedOn.effective {s t : State} (h : HandedOn s t) (n : Nat) : t.rau.effective n = s.rau.effective n :=
  Rau.effective_congr h.doorOpen h.regime h.respectCap h.doorCap n

theorem HandedOn.sameStages {s t : State} (h : HandedOn s t) (hfans : t.rau.fans = s.rau.fans) : SameStages s t :=
  ⟨hfans, h.regime, h.effective⟩

theorem formEffective_held (s : State) (f : FanNo) :
    (formEffective s).held f = { s.held f with eff := s.rau.effective (s.held f).req } := by
  simp [formEffective, State.held]

theorem takeContribution_rauFans (c : ChanNo) (s : State) : (takeContribution c s).rau.fans = s.rau.fans := rfl

theorem receiveCalEnd_rauFans (c : ChanNo) (s : State) : (receiveCalEnd c s).1.rau.fans = s.rau.fans := by
  unfold receiveCalEnd
  split <;> rfl

theorem evaluateShort_rauFans (s : State) : (evaluateShort s).rau.fans = s.rau.fans := by
  unfold evaluateShort
  split
  · split <;> rfl
  · split <;> rfl

/-- A re-evaluation leaves what the RAU holds for the fans, or puts an allocation in force. -/
theorem reevaluate_cases (s : State) :
    (reevaluate s).1.rau.fans = s.rau.fans ∨ ∃ d v, reevaluate s = applied d v ∧ v.fans = s.fans ∧ SameStages s v := by
  simp only [reevaluate]
  split_ifs
  · exact .inl rfl
  · exact .inr ⟨_, _, rfl, rfl, rfl, rfl, fun _ => rfl⟩
  · exact .inl rfl
  · exact .inl rfl
  · exact .inl rfl
  · exact .inr ⟨_, _, rfl, rfl, rfl, rfl, fun _ => rfl⟩
  · exact .inr ⟨_, _, rfl, rfl, rfl, rfl, fun _ => rfl⟩
  · exact .inl rfl

/-! ### The fans while hand-overs wait -/

/-- Every fan holds and follows its stage, once the hand-overs still to come are carried out. -/
structure State.following (ws : List Work) (s : State) : Prop where
  formed : .reform ∉ ws → ∀ f, (s.held f).eff = s.rau.effective (s.held f).req
  handed : .reform ∉ ws → ∀ f, .handFan f ∉ ws → .handRegime f ∉ ws → (s.fan f).told = (s.held f).told
  obeys : ∀ f, (s.fan f).obeys
  settled : ∀ f, .startAttempt f ∉ ws → (s.fan f).settled
  rushes : ∀ f, .handRegime f ∉ ws → (s.fan f).rushes s.rau.regime

theorem fansFollow_iff {s : State} : s.fansFollow ↔ s.following [] := by
  constructor
  · intro h
    refine ⟨fun _ f => (h.1 f).2, fun _ f _ _ => holds_iff.mp (h.1 f).1, fun f => (Fan.follows_iff.mp (h.2 f).1).1,
      fun f _ => (Fan.follows_iff.mp (h.2 f).1).2, fun f _ => (h.2 f).2⟩
  · intro h
    exact ⟨fun f => ⟨holds_iff.mpr (h.handed (by simp) f (by simp) (by simp)), h.formed (by simp) f⟩,
      fun f => ⟨Fan.follows_iff.mpr ⟨h.obeys f, h.settled f (by simp)⟩, h.rushes f (by simp)⟩⟩

namespace State.following

variable {s t : State} {ws vs : List Work}

/-- More hand-overs can only help. -/
theorem mono (h : s.following ws) (hsub : ws ⊆ vs) : s.following vs where
  formed hr f := h.formed (fun hm => hr (hsub hm)) f
  handed hr f hf hg := h.handed (fun hm => hr (hsub hm)) f (fun hm => hf (hsub hm)) fun hm => hg (hsub hm)
  obeys := h.obeys
  settled f hf := h.settled f fun hm => hf (hsub hm)
  rushes f hf := h.rushes f fun hm => hf (hsub hm)

/-- Every fan goes on following what it has been told, and what the RAU holds stands. -/
theorem steady (h : s.following ws) (hfans : ∀ f, (s.fan f).Steady s.rau.regime (t.fan f)) (hstages : SameStages s t) :
    t.following ws := by
  refine ⟨fun hr f => ?_, fun hr f hf hg => ?_, fun f => (hfans f).obeys (h.obeys f), fun f hf => (hfans f).settled (h.settled f hf),
    fun f hf => ?_⟩
  · rw [hstages.held, hstages.effective]
    exact h.formed hr f
  · rw [hstages.held]
    exact (hfans f).told.trans (h.handed hr f hf hg)
  · rw [hstages.regime]
    exact (hfans f).rushes (h.rushes f hf)

/-- Nothing of the fans, nor of what the RAU holds for them, has changed. -/
theorem same (h : s.following ws) (hfans : t.fans = s.fans) (hstages : SameStages s t) : t.following ws :=
  h.steady (fun f => by rw [State.fan, State.fan, hfans]; exact .refl _ _) hstages

/-- A hand-over that neither acts on a fan nor forms the stages has been carried out. -/
theorem tail {w : Work} {rest : List Work} (h : s.following (w :: rest)) (hact : w.actsOn = none) (hform : w ≠ .reform)
    (ws : List Work) : s.following (ws ++ rest) := by
  have hstays : ∀ v, v ∉ ws ++ rest → (w = v → v.actsOn ≠ none ∨ v = .reform) → v ∉ w :: rest := fun v hv hne hm => by
    rcases List.mem_cons.mp hm with heq | hm
    · rcases hne heq.symm with hne | hne
      · exact hne (heq ▸ hact)
      · exact hform (heq ▸ hne)
    · exact hv (List.mem_append_right _ hm)
  exact ⟨fun hr => h.formed (hstays _ hr fun _ => .inr rfl),
    fun hr f hf hg => h.handed (hstays _ hr fun _ => .inr rfl) f (hstays _ hf fun _ => .inl nofun) (hstays _ hg fun _ => .inl nofun),
    h.obeys, fun f hf => h.settled f (hstays _ hf fun _ => .inl nofun), fun f hf => h.rushes f (hstays _ hf fun _ => .inl nofun)⟩

/-- The stages have been formed, and every fan is to be handed its own. -/
theorem rehanded (h : s.following ws) (hfans : t.fans = s.fans) (hregime : t.rau.regime = s.rau.regime)
    (hformed : ∀ f, (t.held f).eff = t.rau.effective (t.held f).req) (hsub : ∀ v, v ≠ .reform → v ∈ ws → v ∈ vs)
    (hhanded : ∀ f, Work.handFan f ∈ vs) : t.following vs := by
  have hfan : ∀ f, t.fan f = s.fan f := fun f => by rw [State.fan, hfans, State.fan]
  refine ⟨fun _ => hformed, fun _ f hf => absurd (hhanded f) hf, fun f => hfan f ▸ h.obeys f,
    fun f hf => hfan f ▸ h.settled f fun hm => hf (hsub _ nofun hm), fun f hf => ?_⟩
  rw [hfan, hregime]
  exact h.rushes f fun hm => hf (hsub _ nofun hm)

end State.following

/-! ### The acts of a fan -/

/-- An act of the fan f, with those hand-overs carried out that act on f: what is still to come for f, and what f then does, is said
of f alone. -/
theorem State.following.of_act {f : FanNo} {s : State} {e : Effect} {ws vs : List Work} (h : s.following ws) (hled : FanLed f s e)
    (hkept : ∀ v ∈ ws, v.actsOn ≠ some f → v ∈ vs)
    (htold : .reform ∉ vs → .handFan f ∉ vs → .handRegime f ∉ vs → (e.1.fan f).told = (s.held f).told)
    (hobeys : (e.1.fan f).obeys) (hsettled : .startAttempt f ∉ vs → (e.1.fan f).settled)
    (hrushes : .handRegime f ∉ vs → (e.1.fan f).rushes s.rau.regime) : e.1.following vs := by
  have hrau : e.1.rau = s.rau := hled.alters.1 .rau (by decide)
  have hheld : ∀ k, e.1.held k = s.held k := fun k => by rw [State.held, hrau, State.held]
  have hgone : ∀ v, v ∉ vs → v.actsOn ≠ some f → v ∉ ws := fun v hv hf hm => hv (hkept v hm hf)
  have hother : ∀ {k : FanNo}, k ≠ f → some k ≠ some f := fun hk heq => hk (Option.some.inj heq)
  refine ⟨fun hr k => ?_, fun hr k hk hg => ?_, fun k => ?_, fun k hk => ?_, fun k hk => ?_⟩
  · rw [hheld, hrau]
    exact h.formed (hgone _ hr nofun) k
  · rw [hheld]
    by_cases hkf : k = f
    · subst hkf
      exact htold hr hk hg
    · rw [hled.others k hkf]
      exact h.handed (hgone _ hr nofun) k (hgone _ hk (hother hkf)) (hgone _ hg (hother hkf))
  · by_cases hkf : k = f
    · exact hkf ▸ hobeys
    · exact hled.others k hkf ▸ h.obeys k
  · by_cases hkf : k = f
    · subst hkf
      exact hsettled hk
    · rw [hled.others k hkf]
      exact h.settled k (hgone _ hk (hother hkf))
  · rw [hrau]
    by_cases hkf : k = f
    · subst hkf
      exact hrushes hk
    · rw [hled.others k hkf]
      exact h.rushes k (hgone _ hk (hother hkf))

/-- A hand-over that acts on a fan has been carried out: those that do not stay to come. -/
theorem kept_of_actsOn {w : Work} {f : FanNo} (hw : w.actsOn = some f) {rest es : List Work} :
    ∀ v ∈ w :: rest, v.actsOn ≠ some f → v ∈ es ++ rest := fun v hv hne => by
  rcases List.mem_cons.mp hv with rfl | hv
  · exact absurd hw hne
  · exact List.mem_append_right _ hv

theorem notMem_front {v w : Work} {es rest : List Work} (hv : v ∉ es ++ rest) (hne : v ≠ w) : v ∉ w :: rest :=
  fun hm => hv (List.mem_append_right _ ((List.mem_cons.mp hm).resolve_left hne))

theorem startAttempt_following {f : FanNo} {s : State} {rest : List Work} (h : s.following (.startAttempt f :: rest)) :
    (startAttempt f s).1.following ((startAttempt f s).2 ++ rest) := by
  obtain ⟨hsteady, hsettled⟩ := startAttempt_steady f s
  exact h.of_act (startAttempt_act f s).led (kept_of_actsOn rfl)
    (fun hr hf hg => hsteady.told.trans (h.handed (notMem_front hr nofun) f (notMem_front hf nofun) (notMem_front hg nofun)))
    (hsteady.obeys (h.obeys f)) (fun _ => hsettled) fun hg => hsteady.rushes (h.rushes f (notMem_front hg nofun))

theorem grantStart_following {f : FanNo} {s : State} {rest : List Work} (h : s.following (.grant f :: rest)) :
    (grantStart f s).1.following ((grantStart f s).2 ++ rest) := by
  have hsteady := grantStart_steady f s (h.obeys f)
  exact h.of_act (grantStart_act f s).led (kept_of_actsOn rfl)
    (fun hr hf hg => hsteady.told.trans (h.handed (notMem_front hr nofun) f (notMem_front hf nofun) (notMem_front hg nofun)))
    (hsteady.obeys (h.obeys f)) (fun hf => hsteady.settled (h.settled f (notMem_front hf nofun)))
    fun hg => hsteady.rushes (h.rushes f (notMem_front hg nofun))

theorem receiveHandover_following {w : Work} {f : FanNo} {s : State} {rest : List Work} (hw : w.actsOn = some f)
    (h : s.following (w :: rest)) : (receiveHandover f s).1.following ((receiveHandover f s).2 ++ rest) := by
  have hcomplies := receiveHandover_complies f s
  exact h.of_act (receiveHandover_act f s).led (kept_of_actsOn hw) (fun _ _ _ => hcomplies.told) hcomplies.obeys
    (fun _ => hcomplies.settled) fun _ => hcomplies.rushes

/-- The RAU hands a fan what it holds for it already. -/
theorem State.following.handFan_holding {f : FanNo} {s : State} {rest : List Work} (h : s.following (.handFan f :: rest))
    (hholds : (s.fan f).holds (s.held f) = true) : s.following rest := by
  exact h.of_act (vs := rest) (FanAct.none f s).led (kept_of_actsOn (es := []) rfl) (fun _ _ _ => holds_iff.mp hholds) (h.obeys f)
    (fun hf => h.settled f (notMem_front (es := []) hf nofun)) fun hg => h.rushes f (notMem_front (es := []) hg nofun)

/-! ### Forming the stages -/

theorem applyAllocation_formed (d : Nat) (v : State) (f : FanNo) :
    ((applyAllocation d v).held f).eff = (applyAllocation d v).rau.effective ((applyAllocation d v).held f).req := by
  rw [applyAllocation, setRequests_held]
  rfl

theorem applied_following {d : Nat} {s v : State} {ws : List Work} (h : s.following ws) (hfans : v.fans = s.fans)
    (hregime : v.rau.regime = s.rau.regime) : (applied d v).1.following ((applied d v).2 ++ ws) :=
  h.rehanded hfans hregime (applyAllocation_formed d v) (fun _ _ hm => List.mem_append_right _ hm) fun f => by
    refine List.mem_append_left _ (List.mem_append_left _ ?_)
    revert f
    decide

theorem reform_following {s : State} {rest : List Work} (h : s.following (.reform :: rest)) :
    (formEffective s).following (handAll ++ [.demandShort] ++ rest) := by
  refine h.rehanded rfl rfl (fun f => ?_) (fun v hne hm => List.mem_append_right _ ((List.mem_cons.mp hm).resolve_left hne)) fun f => ?_
  · rw [formEffective_held]
    rfl
  · refine List.mem_append_left _ (List.mem_append_left _ ?_)
    revert f
    decide

/-- A fan made present in INCIDENT is handed its role; the others' stages stand as they were formed. -/
theorem giveRole_following {f : FanNo} {s : State} {rest : List Work} (h : s.following rest) :
    (giveRole f s).1.following ((giveRole f s).2 ++ rest) := by
  unfold giveRole
  split
  · have hheld : ∀ k, (formEffective (s.setHeld f (s.rau.roleRequest true (s.held f)))).held k =
        { (if k = f then s.rau.roleRequest true (s.held f) else s.held k) with
          eff := s.rau.effective (if k = f then s.rau.roleRequest true (s.held f) else s.held k).req } := fun k => by
      rw [formEffective_held]
      have hset : (s.setHeld f (s.rau.roleRequest true (s.held f))).held k =
          if k = f then s.rau.roleRequest true (s.held f) else s.held k := by
        by_cases hk : k = f
        · simp [State.held, State.setHeld, hk]
        · rw [if_neg hk]
          have hval : f.val ≠ k.val := fun heq => hk (Fin.ext heq.symm)
          simp [State.held, State.setHeld, hval]
      rw [hset]
      rfl
    refine ⟨fun _ k => by rw [hheld]; rfl, fun hr k hk hg => ?_, h.obeys, fun k hk => h.settled k fun hm => hk ?_,
      fun k hk => h.rushes k fun hm => hk ?_⟩
    · have hkf : k ≠ f := fun heq => hk (by simp [heq])
      have hrest : ∀ v, v ∉ [Work.handFan f, .demandShort] ++ rest → v ∉ rest := fun v hv hm => hv (List.mem_append_right _ hm)
      rw [hheld, if_neg hkf, ← h.formed (hrest _ hr) k]
      exact h.handed (hrest _ hr) k (hrest _ hk) (hrest _ hg)
    · exact List.mem_append_right _ hm
    · exact List.mem_append_right _ hm
  · exact h

/-! ### Every hand-over -/

theorem perform_following {w : Work} {rest : List Work} {s : State} (h : s.following (w :: rest)) :
    (perform w s).1.following ((perform w s).2 ++ rest) := by
  have hkept : w.actsOn = none → w ≠ .reform → (perform w s).1.rau.fans = s.rau.fans →
      (perform w s).1.following ((perform w s).2 ++ rest) := fun hact hform hfans =>
    (h.tail hact hform _).same (perform_fans hact s) ((perform_handedOn w s).sameStages hfans)
  cases w with
  | startAttempt f => exact startAttempt_following h
  | grant f => exact grantStart_following h
  | handRegime f => exact receiveHandover_following rfl h
  | handFan f =>
    simp only [perform]
    split_ifs with hholds
    · exact h.handFan_holding hholds
    · exact receiveHandover_following rfl h
  | fanMoved f a b =>
    exact hkept rfl nofun (congrArg Rau.fans (show _ = s.rau from (fanMoved_alters a b s).1 .rau (by decide)))
  | nextHead => exact hkept rfl nofun (congrArg Rau.fans (show _ = s.rau from (nextHead_alters s).1 .rau (by decide)))
  | quietTest => exact hkept rfl nofun (congrArg Rau.fans (show _ = s.rau from (quietTest_alters s).1 .rau (by decide)))
  | contribution c => exact hkept rfl nofun (takeContribution_rauFans c s)
  | calEnded c => exact hkept rfl nofun (receiveCalEnd_rauFans c s)
  | availability | grantDue => exact h.tail rfl nofun _
  | demandShort => exact hkept rfl nofun (evaluateShort_rauFans s)
  | reform => exact reform_following h
  | giveRole f => exact giveRole_following (h.tail rfl nofun [])
  | reevaluate =>
    rcases reevaluate_cases s with hfans | ⟨d, v, heq, hfans, hstages⟩
    · exact hkept rfl nofun hfans
    · change (reevaluate s).1.following ((reevaluate s).2 ++ rest)
      rw [heq]
      exact applied_following (h.tail rfl nofun []) hfans hstages.regime

theorem run_following {ws : List Work} {s : State} (h : s.following ws) : (run ws s).following [] :=
  run_induction (J := fun ws t => t.following ws) (fun _ _ ht => ht.tail rfl nofun []) (fun _ _ _ => perform_following) h

end Sys2Proof.Machine

end

/-! PROOFS. A door's change as the RAU hears it: the door open condition changes only with a door's state, and the effective stages are
then formed anew. -/

section

namespace Sys2Proof.Machine

/-- Since s the door d has been left as it was, with what the RAU holds, or it has moved to another state, not FAULT. -/
def Stirred (d : DoorNo) (s t : State) : Prop :=
  (t.rau = s.rau ∧ (t.door d).state = (s.door d).state) ∨ ((t.door d).state ≠ (s.door d).state ∧ (t.door d).state ≠ some .fault)

theorem door_moveDoor_same (d : DoorNo) (m : Door × Option Int) (s : State) : (moveDoor d m s).door d = m.1 := by
  rw [door_moveDoor, if_pos rfl]

theorem derived_ne (x : Door) : x.derived ≠ .initial ∧ x.derived ≠ .fault := by
  unfold Door.derived
  split_ifs <;> exact ⟨nofun, nofun⟩

/-- A contact moves a door into another state, and never into FAULT. -/
theorem contactMove_state {s : State} {x : Door} {c : Contact} {level : Bool} {m : Door × Option Int}
    (h : contactMove s x c level = some m) : m.1.state ≠ x.state ∧ m.1.state ≠ some .fault := by
  cases c with
  | closed =>
    simp only [contactMove, closedMove] at h
    split at h
    case h_8 => cases h
    case h_4 hx | h_5 hx =>
      obtain rfl := Option.some.inj h
      rw [hx]
      simp only [openFromUnlatched]
      split_ifs <;> exact ⟨nofun, nofun⟩
    case h_6 hx | h_7 hx =>
      obtain rfl := Option.some.inj h
      rw [hx]
      simp only [openFromClosed]
      split_ifs <;> exact ⟨nofun, nofun⟩
    case h_1 hx | h_2 hx | h_3 hx =>
      obtain rfl := Option.some.inj h
      rw [hx]
      dsimp only
      split_ifs
      · unfold Door.toClosed
        split_ifs <;> exact ⟨nofun, nofun⟩
      · exact ⟨nofun, nofun⟩
  | latch =>
    simp only [contactMove, latchMove] at h
    split at h
    case h_5 => cases h
    case h_1 hx | h_2 hx =>
      obtain rfl := Option.some.inj h
      rw [hx]
      exact ⟨nofun, nofun⟩
    case h_3 hx | h_4 hx =>
      obtain rfl := Option.some.inj h
      rw [hx]
      dsimp only [Door.toClosed]
      split_ifs <;> exact ⟨nofun, nofun⟩
  | lockFeedback =>
    simp only [contactMove, feedbackMove] at h
    split at h
    case h_3 => cases h
    case h_1 hx | h_2 hx =>
      obtain rfl := Option.some.inj h
      rw [hx]
      exact ⟨nofun, nofun⟩
  | escapeBar | reverseHandle => cases h

namespace Stirred

variable {d : DoorNo} {s t u : State}

theorem refl (d : DoorNo) (s : State) : Stirred d s s := .inl ⟨rfl, rfl⟩

/-- A change of the door's record that is no move. -/
theorem modDoor (h : Stirred d s t) {g : Door → Door} (hg : (g (t.door d)).state = (t.door d).state) : Stirred d s (t.modDoor d g) := by
  rw [Stirred, State.door_modDoor_same, hg]
  exact h

/-- The door follows a change up: a FAULT that ends has been left (R183). -/
theorem followUp (h : Stirred d s t) : Stirred d s (Machine.followUp d t) := by
  by_cases hfault : (t.door d).faultEnds
  · have hmoved : ((Machine.followUp d t).door d).state = some (((t.door d).timeFaults t.tb.uptime).derived) := by
      rw [door_followUp, if_pos rfl, followedDoor, if_pos hfault, deriveDoor_state]
    have hne := (derived_ne ((t.door d).timeFaults t.tb.uptime)).2
    rcases h with ⟨-, hstate⟩ | ⟨-, hleft⟩
    · refine .inr ⟨?_, ?_⟩
      · rw [hmoved, ← hstate, hfault.1]
        exact fun heq => hne (Option.some.inj heq)
      · rw [hmoved]
        exact fun heq => hne (Option.some.inj heq)
    · exact absurd hfault.1 hleft
  · rw [followUp_eq, if_neg hfault]
    exact h.modDoor rfl

end Stirred

theorem carryDrive_keepsState (x : Door) (r : Regime) : (x.carryDrive r).state = x.state := by
  obtain ⟨hstate, -⟩ := carryDrive_state x r
  exact hstate

theorem contactActs_stirred (d : DoorNo) (c : Contact) (level : Bool) (s : State) : Stirred d s (contactActs d c level s) := by
  cases hstate : (s.door d).state with
  | none =>
    rw [contactActs_absent hstate]
    exact .refl d s
  | some st =>
    by_cases hinitial : st = .initial
    · subst hinitial
      rw [contactActs_initial hstate]
      split
      · obtain ⟨hinit, hfault⟩ := derived_ne (s.door d)
        refine .inr ⟨?_, ?_⟩
        · rw [door_moveDoor_same, deriveDoor_state, hstate]
          exact fun heq => hinit (Option.some.inj heq)
        · rw [door_moveDoor_same, deriveDoor_state]
          exact fun heq => hfault (Option.some.inj heq)
      · exact .refl d s
    · rw [contactActs_judged hstate hinitial]
      cases hmove : contactMove s ((s.door d).contactMarks c level s.tb.uptime) c level with
      | none => exact (Stirred.refl d s).modDoor (contactMarks_state _ _ _ _)
      | some m =>
        obtain ⟨hother, hfault⟩ := contactMove_state hmove
        rw [contactMarks_state] at hother
        refine .inr ⟨?_, ?_⟩
        · rw [takeMove, door_moveDoor_same]
          exact hother
        · rw [takeMove, door_moveDoor_same]
          exact hfault

/-- An act of the doors as the RAU takes it: the door open condition alone changes in its record, and where it does the effective
stages are formed anew (R163, R185). -/
structure DoorAct (s : State) (e : Effect) : Prop where
  alters : Alters doorParts s e.1
  rau : DoorRau s e.1
  formed : .reform ∉ e.2 → e.1.rau = s.rau

theorem DoorAct.none (s : State) : DoorAct s (s, []) := ⟨.refl _ s, .refl s, fun _ => rfl⟩

theorem DoorAct.reforms {s : State} {t : State} (h : Alters doorParts s t) (hrau : DoorRau s t) : DoorAct s (t, [.reform]) :=
  ⟨h, hrau, fun hn => absurd (List.mem_singleton_self _) hn⟩

/-- A door that was stirred has its stages formed anew where its state differs. -/
theorem Stirred.doorWork {d : DoorNo} {s t : State} (h : Stirred d s t) (hn : .reform ∉ doorWork (s.door d).state (t.door d).state) :
    t.rau = s.rau := by
  rcases h with ⟨hrau, -⟩ | ⟨hmoved, -⟩
  · exact hrau
  · rw [Machine.doorWork, if_neg (Ne.symm hmoved)] at hn
    exact absurd (List.mem_singleton_self _) hn

theorem contactDebounced_doorAct (d : DoorNo) (c : Contact) (s : State) : DoorAct s (contactDebounced d c s) := by
  refine ⟨contactDebounced_alters d c s, contactDebounced_doorRau d c s, fun hn => Stirred.doorWork ?_ hn⟩
  have hdrive : ∀ u, Stirred d s u → Stirred d s (contactDrive d c u) := fun u hu => by
    unfold contactDrive
    split
    · exact (hu.modDoor (carryDrive_keepsState _ _)).followUp
    · exact hu
  refine hdrive _ (Stirred.followUp ?_)
  have hsettled : (s.modDoor d fun x => { x with contacts := x.contacts.set c ((x.contacts.get c).settle) }).door d =
      { s.door d with contacts := (s.door d).contacts.set c (((s.door d).contacts.get c).settle) } := State.door_modDoor_same _ _ _
  have hacts := contactActs_stirred d c ((s.door d).contacts.get c).input
    (s.modDoor d fun x => { x with contacts := x.contacts.set c ((x.contacts.get c).settle) })
  rw [Stirred, hsettled] at hacts
  exact hacts

theorem holdExpiry_doorAct (d : DoorNo) (s : State) : DoorAct s (holdExpiry d s) := by
  have halters := holdExpiry_alters d s
  have hrau := holdExpiry_doorRau d s
  unfold holdExpiry at halters hrau ⊢
  split_ifs at halters hrau ⊢
  · exact .reforms halters hrau
  · exact .none s

theorem waitExpiry_doorAct (d : DoorNo) (s : State) : DoorAct s (waitExpiry d s) := by
  have halters := waitExpiry_alters d s
  have hrau := waitExpiry_doorRau d s
  unfold waitExpiry at halters hrau ⊢
  split_ifs at halters hrau ⊢
  · exact .reforms halters hrau
  · exact .none s

theorem faultExpiry_doorAct (d : DoorNo) (s : State) : DoorAct s (faultExpiry d s) := by
  have halters := faultExpiry_alters d s
  have hrau := faultExpiry_doorRau d s
  unfold faultExpiry at halters hrau ⊢
  split_ifs at halters hrau ⊢
  · exact .reforms halters hrau
  · exact .none s

/-- A chain of acts of the doors, each with its hand-overs. -/
def DoorSteps : State → State → Prop := Relation.ReflTransGen fun s t => ∃ e, DoorAct s e ∧ t = runEffect e

theorem DoorSteps.of_act {s : State} {e : Effect} (h : DoorAct s e) : DoorSteps s (runEffect e) := .single ⟨e, h, rfl⟩

theorem DoorSteps.of_alters {s t : State} (h : Alters doorParts s t) (hrau : t.rau = s.rau) : DoorSteps s t :=
  .single ⟨(t, []), ⟨h, .of_rau hrau, fun _ => hrau⟩, (runEffect_nil t).symm⟩

theorem DoorSteps.trans {s t u : State} (h : DoorSteps s t) (k : DoorSteps t u) : DoorSteps s u := Relation.ReflTransGen.trans h k

theorem placeDoor_steps (d : DoorNo) (cfg : DoorConfig) (s : State) : DoorSteps s (placeDoor d cfg s) := by
  have hcfg : Alters doorParts s (s.modDoor d (·.withCfg cfg)) := modDoor_alters d _ s
  simp only [placeDoor]
  split
  · exact .of_alters hcfg rfl
  · exact DoorSteps.of_act (.reforms
      (hcfg.trans ((moveDoor_alters d _ _).trans ((modDoor_alters d _ _).trans (followUp_alters d _))))
      ((modDoor_doorRau d _ s).trans ((moveDoor_doorRau d _ _).trans ((modDoor_doorRau d _ _).trans (followUp_doorRau d _)))))
  · exact (DoorSteps.of_alters hcfg rfl).trans ((DoorSteps.of_act (holdExpiry_doorAct d _)).trans (.of_act (waitExpiry_doorAct d _)))
  · exact DoorSteps.of_act (.reforms (hcfg.trans ((modDoor_alters d _ _).trans (handDoor_alters _)))
      ((modDoor_doorRau d _ s).trans ((modDoor_doorRau d _ _).trans (handDoor_doorRau _))))

theorem serveSetDoor_steps (fields : List Byte) (s : State) : DoorSteps s (serveSetDoor fields s).state := by
  unfold serveSetDoor setDoorConfig
  split
  · split
    · exact .refl
    · split
      · exact placeDoor_steps _ _ s
      · exact .refl
  · exact .refl

theorem doorAction_steps (d : DoorNo) (action : Nat) (s : State) : DoorSteps s (doorAction d action s) := by
  simp only [doorAction]
  split
  · exact .refl
  · refine DoorSteps.of_act (e := (_, _)) ⟨(modDoor_alters d _ s).trans (followUp_alters d _),
      (modDoor_doorRau d _ s).trans (followUp_doorRau d _), fun hn => Stirred.doorWork (Stirred.followUp ?_) hn⟩
    exact (Stirred.refl d s).modDoor (carryDrive_keepsState _ _)

theorem serveDoorCommand_steps (fields : List Byte) (s : State) : DoorSteps s (serveDoorCommand fields s).state := by
  have hsilence : ∀ asked u, DoorSteps u (silence asked u) := fun asked u => by
    refine .of_alters (silence_alters asked u) ?_
    unfold silence
    split <;> rfl
  exact (doorAction_steps 0 _ s).trans ((doorAction_steps 1 _ _).trans (hsilence _ _))

end Sys2Proof.Machine

end

/-! PROOFS. Every fan holds and follows its stage, kept by every step. -/

section

namespace Sys2Proof.Machine

/-! ### Acts that leave the fans -/

namespace State.following

variable {s t : State}

theorem run_same (h : s.following []) (hfans : t.fans = s.fans) (hstages : SameStages s t) (ws : List Work) :
    (run ws t).following [] := run_following ((h.same hfans hstages).mono (List.nil_subset ws))

theorem of_linked {ps : List Part} (h : s.following []) (hlinked : Linked ps s t) (hps : .fans ∉ ps ∧ .rau ∉ ps := by decide) :
    t.following [] :=
  hlinked.keeps (fun _ _ ⟨_, ws, hv, heq⟩ hs =>
    heq ▸ State.following.run_same hs (hv.1 .fans hps.1) (.of_rau (hv.1 .rau hps.2)) ws) h

/-- What the RAU holds for the fans is as it was, and the stages are to be formed anew. -/
theorem reformed (h : s.following []) (hfans : t.fans = s.fans) (hregime : t.rau.regime = s.rau.regime) :
    t.following [.reform] := by
  have hfan : ∀ f, t.fan f = s.fan f := fun f => by rw [State.fan, hfans, State.fan]
  refine ⟨fun hr => absurd (List.mem_singleton_self _) hr, fun hr => absurd (List.mem_singleton_self _) hr,
    fun f => hfan f ▸ h.obeys f, fun f _ => hfan f ▸ h.settled f (by simp), fun f _ => ?_⟩
  rw [hfan, hregime]
  exact h.rushes f (by simp)

theorem of_doorAct {e : Effect} (h : s.following []) (hact : DoorAct s e) : (runEffect e).following [] := by
  have hfans : e.1.fans = s.fans := hact.alters.1 .fans (by decide)
  by_cases hreform : .reform ∈ e.2
  · exact run_following ((h.reformed hfans hact.rau.regime).mono (by simpa using hreform))
  · exact h.run_same hfans (.of_rau (hact.formed hreform)) e.2

theorem of_doorSteps (h : s.following []) (hsteps : DoorSteps s t) : t.following [] := by
  induction hsteps with
  | refl => exact h
  | tail _ hact ih =>
    obtain ⟨e, hact, rfl⟩ := hact
    exact of_doorAct ih hact

/-- An act of one fan that goes on following what it has been told. -/
theorem of_steady {f : FanNo} {e : Effect} (h : s.following []) (hled : FanLed f s e)
    (hsteady : (s.fan f).Steady s.rau.regime (e.1.fan f)) : (runEffect e).following [] :=
  run_following (h.of_act (vs := e.2) hled nofun
    (fun _ _ _ => hsteady.told.trans (h.handed (by simp) f (by simp) (by simp))) (hsteady.obeys (h.obeys f))
    (fun _ => hsteady.settled (h.settled f (by simp))) fun _ => hsteady.rushes (h.rushes f (by simp)))

/-- A fan that is to attempt a start. -/
theorem of_released {f : FanNo} {e : Effect} (h : s.following []) (hled : FanLed f s e) (hattempt : .startAttempt f ∈ e.2)
    (htold : (e.1.fan f).told = (s.fan f).told)
    (hstate : (e.1.fan f).state ≠ some .waitingBudget ∧ poweredState (e.1.fan f).state = false) : (runEffect e).following [] :=
  run_following (h.of_act (vs := e.2) hled nofun
    (fun _ _ _ => htold.trans (h.handed (by simp) f (by simp) (by simp)))
    ⟨fun hw => absurd hw hstate.1, fun hp => absurd hp (by simp [hstate.2])⟩ (fun hn => absurd hattempt hn) fun _ _ => hstate.1)

theorem of_change {f : FanNo} {g : Fan → Fan} (h : s.following []) (hsteady : (s.fan f).Steady s.rau.regime (g (s.fan f)))
    (hstate : (g (s.fan f)).state = (s.fan f).state) : (s.modFan f g).following [] := by
  have hrun := h.of_steady (FanAct.change f hstate).led (by rw [State.fan_modFan_same]; exact hsteady)
  rwa [runEffect_nil] at hrun

theorem guarded {c : Prop} [Decidable c] (h : s.following []) (k : c → t.following []) : (if c then t else s).following [] := by
  split
  · next hc => exact k hc
  · exact h

end State.following

/-! ### The acts of the fans' commands -/

section Acts

variable (f : FanNo) (s : State)

theorem endCoast_steady : (s.fan f).Steady s.rau.regime ((endCoast f s).1.fan f) := by
  unfold endCoast
  split
  · next hpos => exact budgetAttempt_steady f s hpos
  · next hzero => exact stopFan_steady f s (Nat.eq_zero_of_not_pos hzero)

theorem toRunning_steady {r : Regime} {x : Fan} (hpowered : poweredState x.state = true) (now : Ms) :
    x.Steady r (x.toRunning now) := .runsOn rfl hpowered rfl rfl

theorem reachSpeed_steady (hpowered : poweredState (s.fan f).state = true) (p : Nat) :
    (s.fan f).Steady s.rau.regime ((reachSpeed f p s).1.fan f) := by
  rw [reachSpeed, moveFan_fan]
  exact toRunning_steady hpowered _

theorem speedOff_steady (hpowered : poweredState (s.fan f).state = true) :
    (s.fan f).Steady s.rau.regime ((speedOff f s).1.fan f) := by
  rw [speedOff, moveFan_fan]
  exact toRunning_steady hpowered _

/-- An act after a change that the fan's state does not see. -/
theorem steady_after_change {f : FanNo} {s : State} {g : Fan → Fan} {y : Fan}
    (hg : (g (s.fan f)).told = (s.fan f).told ∧ (g (s.fan f)).state = (s.fan f).state ∧ (g (s.fan f)).dirOut = (s.fan f).dirOut)
    (h : ((s.modFan f g).fan f).Steady (s.modFan f g).rau.regime y) : (s.fan f).Steady s.rau.regime y := by
  rw [State.fan_modFan_same] at h
  obtain ⟨htold, hstate, hdir⟩ := hg
  exact (Fan.Steady.same htold hstate hdir).trans h

theorem saturate_steady : (s.fan f).Steady s.rau.regime ((saturate f s).1.fan f) := by
  simp only [saturate]
  split
  · exact steady_after_change ⟨rfl, rfl, rfl⟩ (endCoast_steady f _)
  · rw [State.fan_modFan_same]
    exact .same rfl rfl rfl

theorem endTests_steady (p : Nat) : (s.fan f).Steady s.rau.regime ((endTests f p s).1.fan f) := by
  have hreach : poweredState (s.fan f).state = true → (s.fan f).Steady s.rau.regime
      ((if withinBand (s.fan f).cfg (s.fan f).effStage p then reachSpeed f p s else (s, [])).1.fan f) := fun hpowered => by
    split
    · exact reachSpeed_steady f s hpowered p
    · exact .refl _ _
  unfold endTests
  dsimp only
  split
  · next hstate => exact hreach (by rw [hstate]; rfl)
  · next hstate => exact hreach (by rw [hstate]; rfl)
  · split
    · exact endCoast_steady f s
    · exact .refl _ _
  · exact .refl _ _

theorem measure_steady (p : Nat) : (s.fan f).Steady s.rau.regime ((measure f p s).1.fan f) :=
  steady_after_change ⟨rfl, rfl, rfl⟩ (endTests_steady f _ p)

theorem risingEdge_steady : (s.fan f).Steady s.rau.regime ((risingEdge f s).1.fan f) := by
  unfold risingEdge
  split
  · rw [State.fan_modFan_same]
    exact .same rfl rfl rfl
  · split
    · exact measure_steady f s _
    · dsimp only
      rw [State.fan_modFan_same]
      exact (saturate_steady f s).trans (.same rfl rfl rfl)

theorem toTripped_steady {r : Regime} (x : Fan) (cause : TripCause) (now : Ms) : x.Steady r (x.toTripped cause now) :=
  .rests rfl (show some FanState.tripped ∈ _ by decide)

theorem tripFan_steady (cause : TripCause) : (s.fan f).Steady s.rau.regime ((tripFan f cause s).1.fan f) := by
  unfold tripFan
  split
  · rw [moveFan_fan]
    exact toTripped_steady _ cause _
  · exact .refl _ _

theorem raiseStall_steady : (s.fan f).Steady s.rau.regime ((raiseStall f s).1.fan f) := by
  unfold raiseStall
  split
  · exact tripFan_steady f s _
  · exact .refl _ _

theorem sourceActive_steady (cause : TripCause) : (s.fan f).Steady s.rau.regime ((sourceActive f cause s).1.fan f) := by
  unfold sourceActive
  split
  · exact tripFan_steady f s _
  · exact .refl _ _

theorem startTimedOut_steady (hpowered : poweredState (s.fan f).state = true) :
    (s.fan f).Steady s.rau.regime ((startTimedOut f s).1.fan f) := by
  unfold startTimedOut
  split
  · exact speedOff_steady f s hpowered
  · exact tripFan_steady f s _

theorem stallTimedOut_steady : (s.fan f).Steady s.rau.regime ((stallTimedOut f s).1.fan f) :=
  steady_after_change ⟨rfl, rfl, rfl⟩ (raiseStall_steady f _)

theorem recheckBudget_steady : (s.fan f).Steady s.rau.regime ((recheckBudget f s).1.fan f) := by
  simp only [recheckBudget]
  split
  · rw [State.fan_modFan_same]
    exact .same rfl rfl rfl
  · change (s.fan f).Steady s.rau.regime ((s.modFan f fun x => { x with history := s.windowStamps f }).fan f)
    rw [State.fan_modFan_same]
    exact .same rfl rfl rfl

end Acts

/-- A fan released from its latch. -/
theorem releasedTo_rest (x : Fan) (level : Bool) : (x.releasedTo level).told = x.told ∧
    (x.releasedTo level).state ≠ some .waitingBudget ∧ poweredState (x.releasedTo level).state = false := by
  cases level
  · exact ⟨rfl, nofun, rfl⟩
  · exact ⟨rfl, nofun, rfl⟩

theorem clearTrip_following {s : State} (h : s.following []) (f : FanNo) (l count : Nat) :
    (runEffect (clearTrip f l count s)).following [] := by
  have hfan : (clearTrip f l count s).1.fan f = ((s.fan f).clearLatch count).releasedTo s.inhibit.level := by
    rw [clearTrip, releaseFan]
    dsimp only
    rw [moveFan_fan]
    change ((s.modFan f (·.clearLatch count)).fan f).releasedTo s.inhibit.level = _
    rw [State.fan_modFan_same]
  obtain ⟨htold, hstate⟩ := releasedTo_rest ((s.fan f).clearLatch count) s.inhibit.level
  refine h.of_released (clearTrip_led f l count s) (List.mem_append_right _ (List.mem_singleton_self _)) ?_ ?_
  · rw [hfan]
    exact htold
  · rw [hfan]
    exact hstate

theorem retryTrip_following {s : State} (h : s.following []) (f : FanNo) : (runEffect (retryTrip f s)).following [] := by
  unfold retryTrip
  split
  · exact clearTrip_following h f _ _
  · rw [runEffect_nil]
    exact h.of_change (.same rfl rfl rfl) rfl

theorem withCfg_fan (f : FanNo) (cfg : FanConfig) (s : State) : (s.modFan f (·.withCfg cfg)).fan f = (s.fan f).withCfg cfg :=
  State.fan_modFan_same _ _ _

theorem placeFan_following {s : State} (h : s.following []) (f : FanNo) (cfg : FanConfig) :
    (runEffect (placeFan f cfg s)).following [] := by
  have hled := placeFan_led f cfg s
  have hcfg : ∀ {y}, ((s.fan f).withCfg cfg).Steady s.rau.regime y → (s.fan f).Steady s.rau.regime y := fun hy =>
    (Fan.Steady.same (x := s.fan f) (y := (s.fan f).withCfg cfg) rfl rfl rfl).trans hy
  by_cases hjoins : (s.fan f).state = none ∧ cfg.present = true
  · have hplace : placeFan f cfg s = ((tripOrMove f (·.releasedTo s.inhibit.level) (s.modFan f (·.withCfg cfg))).1,
        (tripOrMove f (·.releasedTo s.inhibit.level) (s.modFan f (·.withCfg cfg))).2 ++ joinWork f) := by
      simp only [placeFan, hjoins.1, hjoins.2]
    have hmoved : ((placeFan f cfg s).1.fan f).told = (s.fan f).told ∧ ((placeFan f cfg s).1.fan f).state ≠ some .waitingBudget ∧
        poweredState ((placeFan f cfg s).1.fan f).state = false := by
      rw [hplace]
      refine tripOrMove_keeps (P := fun y => y.told = (s.fan f).told ∧ y.state ≠ some .waitingBudget ∧ poweredState y.state = false)
        (fun _ => ?_) fun cause => ?_
      · rw [withCfg_fan]
        exact releasedTo_rest _ _
      · rw [withCfg_fan]
        exact ⟨rfl, nofun, rfl⟩
    refine h.of_released hled ?_ hmoved.1 hmoved.2
    rw [hplace]
    exact List.mem_append_right _ (by simp [joinWork])
  · refine h.of_steady hled ?_
    simp only [placeFan]
    split
    · rw [withCfg_fan]
      exact .same rfl rfl rfl
    · next hnone hpresent => exact absurd ⟨hnone, hpresent⟩ hjoins
    · rw [State.fan_modFan_same, withCfg_fan]
      exact .same rfl rfl rfl
    · split
      · rw [withCfg_fan]
        exact .same rfl rfl rfl
      · refine tripOrMove_keeps (P := fun y => (s.fan f).Steady s.rau.regime y) (fun _ => ?_) fun cause => ?_
        · rw [withCfg_fan]
          exact .same rfl rfl rfl
        · rw [withCfg_fan]
          exact hcfg (toTripped_steady _ cause _)
    · rw [moveFan_fan, withCfg_fan]
      exact hcfg (.rests rfl (show none ∈ _ by decide))

section Commands

variable {s : State} (h : s.following [])

include h

theorem serveSetFan_following (fields : List Byte) : (serveSetFan fields s).state.following [] := by
  unfold serveSetFan setFanConfig
  split
  · exact h
  · split
    · exact h
    · split
      · exact placeFan_following h _ _
      · exact h

theorem serveTripReset_following (fields : List Byte) : (serveTripReset fields s).state.following [] := by
  unfold serveTripReset resetTrip
  split
  · exact h
  · split
    · split
      · exact clearTrip_following h _ 1 0
      · exact h
    · exact h

theorem tachEdge_following (f : FanNo) (edge : TachEdge) : (tachEdge f edge s).following [] := by
  cases edge with
  | rising => exact h.of_steady (.after_change rfl (risingEdge_act f _).led) (steady_after_change ⟨rfl, rfl, rfl⟩ (risingEdge_steady f _))
  | falling => exact h.of_change (g := fun x => { x with tachLevel := false }) (.same rfl rfl rfl) rfl

theorem changeOvercurrent_following (f : FanNo) (level : Bool) : (changeOvercurrent f level s).following [] := by
  simp only [changeOvercurrent]
  split
  · exact h.of_steady (.after_change rfl (sourceActive_act f _ _).led)
      (steady_after_change ⟨rfl, rfl, rfl⟩ (sourceActive_steady f _ _))
  · exact h.of_change (.same rfl rfl rfl) rfl

omit h in
theorem setTripInput_same (x : Fan) (i : TripInput) (d : Debounced) :
    (x.setTripInput i d).told = x.told ∧ (x.setTripInput i d).state = x.state ∧ (x.setTripInput i d).dirOut = x.dirOut := by
  cases i <;> exact ⟨rfl, rfl, rfl⟩

theorem event_following {i : Instr} {t : State} (hrequest : i.request = none) (hparts : i ≠ .stampExpiry) (hfans : .fans ∈ actParts i)
    (hall : actParts i ≠ Part.every) (hexec : exec i s = .next t) : t.following [] := by
  cases i
  all_goals simp only [Instr.request, reduceCtorEq] at hrequest
  all_goals obtain rfl := Host.Outcome.next.inj hexec
  case tachMeasurement f edge => exact tachEdge_following h f edge
  case tachSaturation f => exact h.guarded fun _ => h.of_steady (saturate_act f s).led (saturate_steady f s)
  case startTimeout f =>
    exact h.guarded fun hover => h.of_steady (startTimedOut_act f s).led (startTimedOut_steady f s (powered_of_startOver hover))
  case changeTimeout f =>
    exact h.guarded fun hover => h.of_steady (speedOff_act f s).led (speedOff_steady f s (powered_of_changeOver hover))
  case coastTimeout f =>
    exact h.guarded fun _ => h.of_steady (FanAct.after_event (endCoast_act f _)).led
      (endCoast_steady f (fanEvent f .coastTimeout none none s))
  case stallWatchExpiry f => exact h.guarded fun _ => h.of_steady (stallTimedOut_act f s).led (stallTimedOut_steady f s)
  case budgetRecheck f => exact h.guarded fun _ => h.of_steady (recheckBudget_led f s) (recheckBudget_steady f s)
  case overcurrentChange f level => exact changeOvercurrent_following h f level
  case tripInputChange f i level =>
    obtain ⟨htold, hstate, hdir⟩ := setTripInput_same (s.fan f) i (((s.fan f).tripInput i).change level s.tb.uptime)
    exact h.of_change (.same htold hstate hdir) hstate
  case tripSourceDebounced f i =>
    exact h.guarded fun _ => h.of_steady (.after_change (setTripInput_state _ _ _) (sourceActive_act f _ _).led)
      (steady_after_change (setTripInput_same _ _ _) (sourceActive_steady f _ _))
  case autoRetry f => exact h.guarded fun _ => retryTrip_following h f
  case retryCountClear f => exact h.guarded fun _ => h.of_change (.same rfl rfl rfl) rfl
  case stampExpiry => exact absurd rfl hparts
  all_goals simp [actParts] at hfans hall

omit h in
theorem inhibitFan_following {u : State} (hu : u.following []) (f : FanNo) : (inhibitFan u f).following [] := by
  refine hu.guarded fun _ => hu.of_steady (FanAct.move f Fan.toInhibited u).led ?_
  rw [moveFan_fan]
  exact .rests rfl (show some FanState.inhibited ∈ _ by decide)

omit h in
theorem releaseInhibited_following {u : State} (hu : u.following []) (f : FanNo) : (releaseInhibited u f).following [] := by
  refine hu.guarded fun _ => hu.of_released ((FanAct.move f Fan.toStopped u).led.append [.startAttempt f]) ?_ ?_ ?_
  · exact List.mem_append_right _ (List.mem_singleton_self _)
  · rw [moveFan_fan]
    rfl
  · rw [moveFan_fan]
    exact ⟨nofun, rfl⟩

theorem inhibitActive_following : (inhibitActive s).following [] := by
  have hsettled : (settleInhibit .inhibitOn s).following [] := h.same rfl (.of_rau rfl)
  exact h.guarded fun _ => foldl_keeps (P := fun u => u.following []) (fun u f hu => inhibitFan_following hu f) _
    (hsettled.same rfl (.of_rau rfl))

theorem inhibitInactive_following : (inhibitInactive s).following [] := by
  have hsettled : (settleInhibit .inhibitOff s).following [] := h.same rfl (.of_rau rfl)
  exact h.guarded fun _ => foldl_keeps (P := fun u => u.following []) (fun u f hu => releaseInhibited_following hu f) _
    (hsettled.same rfl (.of_rau rfl))

/-! ### The ventilation's commands -/

theorem setNode_following (n : NodeSettings) : (setNode n s).following [] := by
  have hreevaluate : ∀ a b u, State.following [] u → (actReevaluate a b u).following [] := fun a b u hu =>
    hu.guarded fun _ => hu.run_same rfl (.of_rau rfl) _
  have hfault : ∀ old new u, State.following [] u → (actFaultIndex old new u).following [] := fun old new u hu => by
    unfold actFaultIndex
    split
    · exact hu
    · exact hu.run_same rfl (.of_rau rfl) _
  refine hreevaluate _ _ _ (hfault _ _ _ ?_)
  unfold actDoorCap
  split
  · next hcap => exact h.same rfl ⟨rfl, rfl, Rau.effective_congr (k := (storeNode n s).rau) rfl rfl rfl hcap.symm⟩
  · exact run_following (h.reformed rfl rfl)

theorem serveSetDemand_following (fields : List Byte) : (serveSetDemand fields s).state.following [] := by
  unfold serveSetDemand
  dsimp only
  split
  · exact h.run_same (t := replaceDemand _ _ s) rfl ⟨rfl, rfl, fun _ => rfl⟩ _
  · exact h

omit h in
theorem held_setHeld (f k : FanNo) (r : RauFan) (u : State) : (u.setHeld f r).held k = if k = f then r else u.held k := by
  by_cases hk : k = f
  · simp [State.held, State.setHeld, hk]
  · rw [if_neg hk]
    have hval : f.val ≠ k.val := fun heq => hk (Fin.ext heq.symm)
    simp [State.held, State.setHeld, hval]

theorem serveFanCommand_following (fields : List Byte) : (serveFanCommand fields s).state.following [] := by
  unfold serveFanCommand commandFan
  split
  · exact h
  · next f _ =>
    split
    · refine run_following ⟨fun _ k => ?_, fun hr k hk hg => ?_, h.obeys, fun k _ => h.settled k (by simp), fun k _ => h.rushes k (by simp)⟩
      · rw [held_setHeld]
        split
        · rfl
        · exact h.formed (by simp) k
      · have hkf : k ≠ f := fun heq => hk (by simp [heq])
        rw [held_setHeld, if_neg hkf]
        exact h.handed (by simp) k (by simp) (by simp)
    · exact h

end Commands

/-! ### The regime -/

/-- New requests for every fan, each to be handed to it. -/
theorem setRequests_following {s : State} (hfollows : ∀ f, (s.fan f).follows) (g : FanNo → RauFan → RauFan) {ws : List Work}
    (hhanded : ∀ f, .handFan f ∈ ws ∨ .handRegime f ∈ ws) (hincident : s.rau.regime = .incident → ∀ f, .handRegime f ∈ ws) :
    (setRequests g s).following ws where
  formed _ f := by rw [setRequests_held]; rfl
  handed _ f hf hg := ((hhanded f).elim (fun hm => absurd hm hf) fun hm => absurd hm hg)
  obeys f := (Fan.follows_iff.mp (hfollows f)).1
  settled f _ := (Fan.follows_iff.mp (hfollows f)).2
  rushes f hf hr := absurd (hincident hr f) hf

theorem mem_handAll (f : FanNo) : .handFan f ∈ handAll := by
  revert f
  decide

theorem mem_handRegimeAll (f : FanNo) : .handRegime f ∈ handRegimeAll := by
  revert f
  decide

theorem setFans_following {s : State} (hfollows : ∀ f, (s.fan f).follows) : (setFans s).following [] := by
  have hclosed : ∀ u, State.following [] u → (evaluateShort (seekDemand u)).following [] := fun u hu =>
    hu.same (((seekDemand_alters u).trans (evaluateShort_alters _)).1 .fans (by decide))
      ((HandedOn.sameStages (seekDemand_handedOn u) rfl).trans
        (HandedOn.sameStages (evaluateShort_handedOn _) (evaluateShort_rauFans _)))
  unfold setFans
  split
  · next hmanual =>
    exact hclosed _ (run_following (setRequests_following hfollows _ (fun f => .inl (List.mem_append_left _ (mem_handAll f)))
      fun hr => absurd hr (by rw [hmanual]; exact nofun)))
  · next hauto =>
    have hallocated := setRequests_following (s := setDemandInForce (seekDemand s).rau.sought false (seekDemand s)) hfollows
      (fun f r => { r with
        req := (setDemandInForce (seekDemand s).rau.sought false (seekDemand s)).allocatedStage (seekDemand s).rau.sought f
        dir := s.rau.autoDir })
      (ws := handAll ++ [.demandShort]) (fun f => .inl (List.mem_append_left _ (mem_handAll f)))
      fun hr => absurd (show s.rau.regime = .incident from hr) (by rw [hauto]; exact nofun)
    exact run_following (hallocated.same rfl ⟨rfl, rfl, fun _ => rfl⟩)
  · exact hclosed _ (run_following (setRequests_following hfollows _ (fun f => .inr (mem_handRegimeAll f)) fun _ => mem_handRegimeAll))

theorem enterRegime_following {s : State} (h : s.following []) (r : Regime) (params : Rau → Rau) :
    (enterRegime r params s).following [] := by
  refine setFans_following fun f => ?_
  have hstored : (storeRegime r params s).fans = s.fans := (storeRegime_alters r params s).1 .fans (by decide)
  have hhanded : (handRegime s.rau.regime (storeRegime r params s)).fans = (storeRegime r params s).fans :=
    (handRegime_altersOwn s.rau.regime (storeRegime r params s)).1 .fans (by decide)
  have hfans : (handRegime s.rau.regime (storeRegime r params s)).fans = s.fans := hhanded.trans hstored
  rw [State.fan, hfans]
  exact Fan.follows_iff.mpr ⟨h.obeys f, h.settled f (by simp)⟩

theorem silenceExpiry_following {s : State} (h : s.following []) : (silenceExpiry s).following [] := by
  have hlost : (loseLine s).following [] := h.same rfl (.of_rau rfl)
  exact h.guarded fun _ => hlost.guarded fun _ => enterRegime_following hlost _ _

/-! ### Resets -/

theorem fullReset_following (straps : Straps) (s : State) : (fullReset straps s).following [] := by
  have hfan : ∀ f, (fullReset straps s).fan f = (s.fan f).fullReset := fun f => by simp [State.fan, fullReset]
  have hheld : ∀ f, (fullReset straps s).held f = RauFan.initial := fun f => by simp [State.held, fullReset, Rau.initial]
  refine ⟨fun _ f => ?_, fun _ f _ _ => ?_, fun f => ?_, fun f _ => ?_, fun f _ => ?_⟩
  · rw [hheld]
    rfl
  · rw [hfan, hheld]
    rfl
  · rw [hfan]
    exact ⟨nofun, nofun⟩
  · rw [hfan]
    exact nofun
  · rw [hfan]
    exact fun _ => nofun

/-- After a node reset every fan holds stage 0 with the direction it had been asked. -/
theorem Fan.nodeReset_rest (x : Fan) (now : Ms) : (x.nodeReset now).told = (0, 0, x.reqDir) ∧ (x.nodeReset now).obeys ∧
    (x.nodeReset now).state ≠ some .waitingBudget := by
  unfold Fan.nodeReset
  split
  · exact ⟨rfl, ⟨nofun, nofun⟩, nofun⟩
  · next hoff =>
    split
    · exact ⟨rfl, ⟨nofun, nofun⟩, nofun⟩
    · next hwaiting => exact ⟨rfl, ⟨fun hw => absurd hw hwaiting, fun hp => absurd hp hoff⟩, hwaiting⟩

theorem nodeReset_held (s : State) (f : FanNo) : (nodeReset s).held f = { s.held f with req := 0, eff := 0 } := by
  have hrau : (abortSession (resetLif (appendEvent .node .nodeReset none none s))).rau = s.rau :=
    (abortSession_alters (resetLif (appendEvent .node .nodeReset none none s))).1 .rau (by decide)
  rw [nodeReset, held_reset, State.held, hrau, State.held]

theorem Rau.effective_zero (r : Rau) : r.effective 0 = 0 := by
  unfold Rau.effective
  split
  · exact Nat.zero_min _
  · rfl

theorem nodeReset_following {s : State} (h : s.following []) : (nodeReset s).following [] := by
  refine ⟨fun _ f => ?_, fun _ f _ _ => ?_, fun f => ?_, fun f _ _ => ?_, fun f _ _ => ?_⟩
  · rw [nodeReset_held]
    exact (Rau.effective_zero _).symm
  · rw [nodeReset_fan, nodeReset_held, (Fan.nodeReset_rest _ _).1]
    have htold := h.handed (by simp) f (by simp) (by simp)
    have hdir : (s.fan f).reqDir = (s.held f).dir := congrArg (·.2.2) htold
    rw [hdir]
    rfl
  · rw [nodeReset_fan]
    exact (Fan.nodeReset_rest _ _).2.1
  · rw [nodeReset_fan]
    exact (congrArg (·.2.1) (Fan.nodeReset_rest (s.fan f) s.tb.uptime).1 :)
  · rw [nodeReset_fan]
    exact (Fan.nodeReset_rest _ _).2.2

/-! ### Every step -/

theorem following_invariant : PlantInvariant fun s => s.following [] := by
  refine plantInvariant_of_acts [.fans, .rau] (fun s lif tb evq choices pending hs => hs.same rfl (.of_rau rfl))
    (fun s v ws hv hs => hs.run_same (hv .fans (by decide)) (.of_rau (hv .rau (by decide))) ws)
    (fun i r s0 s fields hi hmeets hs => ?_) (fun i s t hi htb hmeets hs hexec => ?_)
    (fun s hs => hs.steady (fun f => ?_) (.of_rau rfl)) (fun straps s _ => fullReset_following straps s)
    (fun s hs => nodeReset_following hs)
  · cases i
    case setNode => exact setNode_following hs _
    case setDoor => exact hs.of_doorSteps (serveSetDoor_steps fields s)
    case doorCommand => exact hs.of_doorSteps (serveDoorCommand_steps fields s)
    case setFan => exact serveSetFan_following hs fields
    case setDemand => exact serveSetDemand_following hs fields
    case fanCommand => exact serveFanCommand_following hs fields
    case tripReset => exact serveTripReset_following hs fields
    case zero form _ => exact hs.of_linked (serveZero_linked form fields s)
    case regime => exact enterRegime_following hs _ _
    all_goals simp [Instr.request, actParts] at hi hmeets
  · by_cases hfan : (.fans ∈ actParts i ∧ actParts i ≠ Part.every) ∧ i ≠ .stampExpiry
    · exact event_following hs hi hfan.2 hfan.1.1 hfan.1.2 hexec
    cases i
    all_goals simp only [Instr.request, reduceCtorEq] at hi
    all_goals obtain rfl := Host.Outcome.next.inj hexec
    case conversionComplete code => exact hs.of_linked (converted_linked code s)
    case stampExpiry =>
      refine hs.steady (fun f => ?_) ⟨rfl, rfl, fun _ => rfl⟩
      have hfan : (expireStamps s).fan f = { s.fan f with history := (s.fan f).history.map s.expire } := by
        simp [State.fan, expireStamps]
      rw [hfan]
      exact .same rfl rfl rfl
    case inhibitOn => exact inhibitActive_following hs
    case inhibitOff => exact inhibitInactive_following hs
    case silenceTimeout => exact silenceExpiry_following hs
    case doorContactDebounced d c => exact hs.guarded fun _ => hs.of_doorAct (contactDebounced_doorAct d c s)
    case holdLimitExpiry d => exact hs.of_doorAct (holdExpiry_doorAct d s)
    case openWaitExpiry d => exact hs.of_doorAct (waitExpiry_doorAct d s)
    case doorFaultTimeout d => exact hs.of_doorAct (faultExpiry_doorAct d s)
    all_goals simp [actParts, eventParts, Part.every] at hmeets htb hfan
  · rw [fan_advance]
    exact .same rfl rfl rfl

/-- Settles O60: what each fan holds and follows once the hand-overs still to come are carried out is kept by every hand-over. -/
theorem fansFollowTheirStages : Obligations.FansFollowTheirStages := fun _ _ hs hstep =>
  fansFollow_iff.mpr (following_invariant.step (fansFollow_iff.mp hs) hstep)

end Sys2Proof.Machine

end

/-! PROOFS. The demand and the stages: the bounds that every hand-over keeps, and the demand in force with hand-overs still to come. -/

section

namespace Sys2Proof.Machine

/-! ### Bounds -/

/-- The demand table, the floor, the incident stage and the demands lie within their ranges (R144, R155, R157). -/
structure Rau.bounded (r : Rau) : Prop where
  thrusts : ∀ st ∈ r.steps, st.thrust ≤ 12
  floor : r.floor ≤ 12
  incStage : r.incStage ≤ 3
  demand : r.demand ≤ 12
  sought : r.sought ≤ 12
  step : r.step ≤ r.steps.length

/-- In INCIDENT with role FIRE ZONE every requested stage is 0 (R149). -/
abbrev State.zoned (s : State) : Prop := s.rau.regime = .incident → s.rau.role = some .fireZone → ∀ f : FanNo, (s.held f).req = 0

/-- What holds of the demand and the stages even while a regime is being entered. -/
structure State.demandSafe (s : State) : Prop where
  bounded : s.rau.bounded
  stages : ∀ f : FanNo, (s.held f).req ≤ 3 ∧ (s.held f).eff ≤ (s.held f).req
  zoned : s.zoned

theorem Rau.thrustOf_le {r : Rau} (h : ∀ st ∈ r.steps, st.thrust ≤ 12) (n : Nat) : r.thrustOf n ≤ 12 := by
  cases n with
  | zero => exact Nat.zero_le 12
  | succ n =>
    simp only [Rau.thrustOf]
    split
    · exact Nat.zero_le 12
    · next st hst => exact h st (List.mem_of_getElem? hst)

theorem highestStep_le (margin index top : Nat) (steps : List DemandStep) : highestStep steps margin index top 1 ≤ steps.length := by
  rcases highestStep_found margin index top steps 1 with hnone | ⟨i, st, hi, heq, -⟩
  · omega
  · have hlt : i < steps.length := (List.getElem?_eq_some_iff.mp hi).1
    omega

theorem selectedStep_le (r : Rau) (imax current : Nat) : selectedStep r imax current ≤ r.steps.length :=
  Nat.max_le.mpr ⟨highestStep_le _ _ _ _, highestStep_le _ _ _ _⟩

theorem Rau.effective_le (r : Rau) (req : Nat) : r.effective req ≤ req := by
  unfold Rau.effective
  split
  · exact Nat.min_le_left _ _
  · exact Nat.le_refl _

namespace State.demandSafe

variable {s t : State} (h : s.demandSafe)

include h

theorem of_rau (hrau : t.rau = s.rau) : t.demandSafe := by
  obtain ⟨hbounded, hstages, hzoned⟩ := h
  refine ⟨hrau ▸ hbounded, fun f => ?_, ?_⟩
  · rw [State.held, hrau]
    exact hstages f
  · rw [State.zoned, hrau]
    intro hi hr f
    rw [State.held, hrau]
    exact hzoned hi hr f

/-- The record has changed in what the bounds do not read. -/
theorem congr (hbounded : t.rau.bounded) (hfans : t.rau.fans = s.rau.fans) (hregime : t.rau.regime = s.rau.regime)
    (hrole : t.rau.role = s.rau.role) : t.demandSafe := by
  have hheld : ∀ f, t.held f = s.held f := fun f => by rw [State.held, hfans, State.held]
  refine ⟨hbounded, fun f => hheld f ▸ h.stages f, fun hi hr f => ?_⟩
  rw [hheld]
  exact h.zoned (hregime ▸ hi) (hrole ▸ hr) f

theorem seekDemand : (seekDemand s).demandSafe := by
  have hsought : max (s.rau.thrustOf s.rau.step) s.rau.floor ≤ 12 :=
    Nat.max_le.mpr ⟨Rau.thrustOf_le h.bounded.thrusts _, h.bounded.floor⟩
  refine h.congr { h.bounded with demand := ?_, sought := hsought } rfl rfl rfl
  change (if s.rau.regime = .auto then s.rau.demand else _) ≤ 12
  split
  · exact h.bounded.demand
  · exact hsought

theorem takeContribution (c : ChanNo) : (takeContribution c s).demandSafe := by
  have hstepped : ∀ (contrib : Vector Contribution 10) (imax : Nat), ({ s with rau := { s.rau with
      contrib := contrib, imax := imax, step := selectedStep s.rau imax s.rau.step } } : State).demandSafe := fun contrib imax =>
    h.congr { h.bounded with step := selectedStep_le _ _ _ } rfl rfl rfl
  exact (hstepped (s.rau.contrib.set c (contributionOf s c)) _).seekDemand

/-- New requests within the range, that keep to the role. -/
theorem setRequests {g : FanNo → RauFan → RauFan} (hreq : ∀ f, (g f (s.held f)).req ≤ 3)
    (hrole : s.rau.regime = .incident → s.rau.role = some .fireZone → ∀ f, (g f (s.held f)).req = 0) :
    (setRequests g s).demandSafe := by
  refine ⟨{ h.bounded with }, fun f => ?_, fun hi hr f => ?_⟩
  · rw [setRequests_held]
    exact ⟨hreq f, Rau.effective_le _ _⟩
  · rw [setRequests_held]
    exact hrole hi hr f

theorem formEffective : (formEffective s).demandSafe := by
  refine ⟨{ h.bounded with }, fun f => ?_, fun hi hr f => ?_⟩
  · rw [formEffective_held]
    exact ⟨(h.stages f).1, Rau.effective_le _ _⟩
  · rw [formEffective_held]
    exact h.zoned hi hr f

theorem setDemandInForce {d : Nat} (hd : d ≤ 12) (waiting : Bool) : (setDemandInForce d waiting s).demandSafe :=
  h.congr { h.bounded with demand := hd } rfl rfl rfl

theorem applyAllocation (hauto : s.rau.regime = .auto) (d : Nat) : (applyAllocation d s).demandSafe := by
  have hmarked : ({ s with rau := { s.rau with
      lastChange := if s.allocationChanges d then some s.stampNow else s.rau.lastChange } } : State).demandSafe :=
    h.congr { h.bounded with } rfl rfl rfl
  exact hmarked.setRequests (fun f => s.allocatedStage_le_three d f) fun hi => absurd hi (by simp [hauto])

theorem evaluateShort : (evaluateShort s).demandSafe := by
  have hshort : ∀ b, ({ s with rau := { s.rau with short := b } } : State).demandSafe := fun b =>
    h.congr { h.bounded with } rfl rfl rfl
  unfold Machine.evaluateShort
  split
  · split
    · exact h
    · exact (hshort true).of_rau rfl
  · split
    · exact (hshort false).of_rau rfl
    · exact h

theorem giveRole (f : FanNo) : (giveRole f s).1.demandSafe := by
  unfold Machine.giveRole
  split
  · next hjoins =>
    have hstage : s.rau.roleStage ≤ 3 := by
      unfold Rau.roleStage
      split
      · exact Nat.zero_le 3
      · exact h.bounded.incStage
    refine ⟨{ h.bounded with }, fun k => ?_, fun _ hr k => ?_⟩
    · rw [formEffective_held, held_setHeld]
      refine ⟨?_, Rau.effective_le _ _⟩
      split
      · exact hstage
      · exact (h.stages k).1
    · rw [formEffective_held, held_setHeld]
      have hzone : s.rau.role = some .fireZone := hr
      dsimp only
      split
      · simp [Rau.roleRequest, Rau.roleStage, hzone]
      · exact h.zoned hjoins.1 hzone k
  · exact h

end State.demandSafe

/-- The RAU's record under the hand-overs that leave it. -/
theorem perform_rau {w : Work} (s : State)
    (hw : (∃ f, w.actsOn = some f) ∨ (∃ f b a, w = .fanMoved f b a) ∨ w ∈ [Work.nextHead, .quietTest, .availability, .grantDue]) :
    (perform w s).1.rau = s.rau := by
  rcases hw with ⟨f, hf⟩ | ⟨f, b, a, rfl⟩ | hmem
  · exact (perform_act hf s).alters.1 .rau (by decide)
  · exact (fanMoved_alters b a s).1 .rau (by decide)
  · simp only [List.mem_cons, List.not_mem_nil, or_false] at hmem
    rcases hmem with rfl | rfl | rfl | rfl
    · exact (nextHead_alters s).1 .rau (by decide)
    · exact (quietTest_alters s).1 .rau (by decide)
    · rfl
    · rfl

theorem receiveCalEnd_safe {s : State} (h : s.demandSafe) (c : ChanNo) : (receiveCalEnd c s).1.demandSafe := by
  unfold receiveCalEnd
  split
  · exact h.takeContribution c
  · exact h

theorem reevaluate_safe {s : State} (h : s.demandSafe) : (reevaluate s).1.demandSafe := by
  simp only [reevaluate]
  split_ifs with hregime hrise hchanges hpassed hkept hheld hnow
  · exact h
  · exact (h.setDemandInForce h.bounded.sought false).applyAllocation (Classical.not_not.mp hregime) _
  · exact h.setDemandInForce h.bounded.sought false
  · exact h.setDemandInForce h.bounded.sought false
  · exact h
  · exact (h.setDemandInForce h.bounded.sought false).applyAllocation (Classical.not_not.mp hregime) _
  · exact (h.setDemandInForce h.bounded.demand true).applyAllocation (Classical.not_not.mp hregime) _
  · exact h.setDemandInForce h.bounded.demand true

theorem perform_safe (w : Work) {s : State} (h : s.demandSafe) : (perform w s).1.demandSafe := by
  cases w with
  | startAttempt f | handFan f | handRegime f | grant f => exact h.of_rau (perform_rau s (.inl ⟨f, rfl⟩))
  | fanMoved f b a => exact h.of_rau (perform_rau s (.inr (.inl ⟨f, b, a, rfl⟩)))
  | nextHead | quietTest | availability | grantDue => exact h.of_rau (perform_rau s (.inr (.inr (by decide))))
  | contribution c => exact h.takeContribution c
  | calEnded c => exact receiveCalEnd_safe h c
  | reevaluate => exact reevaluate_safe h
  | reform => exact h.formEffective
  | giveRole f => exact h.giveRole f
  | demandShort => exact h.evaluateShort

theorem State.demandSafe.run {s : State} (h : s.demandSafe) (ws : List Work) : (run ws s).demandSafe :=
  run_keeps State.demandSafe (fun w _ => perform_safe w) ws s h

/-! ### The demand in force -/

/-- The sum of the requested stages. -/
def State.requested (s : State) : Nat := (allFans.map fun f => (s.held f).req).sum

/-- The demand in force, with hand-overs still to come: in AUTO a sought demand above it is to be re-evaluated (R157, R158). -/
structure State.demandHeld (ws : List Work) (s : State) : Prop where
  safe : s.demandSafe
  sought : s.rau.sought = max (s.rau.thrustOf s.rau.step) s.rau.floor
  outside : s.rau.regime ≠ .auto → s.rau.demand = s.rau.sought
  inAuto : s.rau.regime = .auto → .reevaluate ∉ ws → s.rau.sought ≤ s.rau.demand
  sums : s.rau.regime = .auto → s.requested ≤ s.rau.demand

theorem demandOk_iff {s : State} : s.demandOk ↔ s.demandHeld [] := by
  constructor
  · rintro ⟨hthrusts, hfloor, hinc, hdemand, hstep, hsought, hforce, hstages, hsums, hzoned⟩
    have hle : s.rau.sought ≤ 12 := by rw [hsought]; exact Nat.max_le.mpr ⟨Rau.thrustOf_le hthrusts _, hfloor⟩
    refine ⟨⟨⟨hthrusts, hfloor, hinc, hdemand, hle, hstep⟩, hstages, hzoned⟩, hsought, fun hr => ?_, fun hr _ => ?_, hsums⟩
    · rwa [if_neg hr] at hforce
    · rwa [if_pos hr] at hforce
  · rintro ⟨⟨⟨hthrusts, hfloor, hinc, hdemand, hle, hstep⟩, hstages, hzoned⟩, hsought, houtside, hauto, hsums⟩
    refine ⟨hthrusts, hfloor, hinc, hdemand, hstep, hsought, ?_, hstages, hsums, hzoned⟩
    split
    · next hr => exact hauto hr (by simp)
    · next hr => exact houtside hr

namespace State.demandHeld

variable {s t : State} {ws vs : List Work}

theorem mono (h : s.demandHeld ws) (hsub : .reevaluate ∈ ws → .reevaluate ∈ vs) : s.demandHeld vs :=
  { h with inAuto := fun hr hv => h.inAuto hr fun hm => hv (hsub hm) }

theorem tail {w : Work} {rest : List Work} (h : s.demandHeld (w :: rest)) (hw : w ≠ .reevaluate) (ws : List Work) :
    s.demandHeld (ws ++ rest) :=
  h.mono fun hm => List.mem_append_right _ ((List.mem_cons.mp hm).resolve_left hw.symm)

/-- The record has changed in nothing that the demand rests on. -/
theorem congr (h : s.demandHeld ws) (hsafe : t.demandSafe) (hregime : t.rau.regime = s.rau.regime)
    (hsought : t.rau.sought = s.rau.sought ∧ t.rau.thrustOf t.rau.step = s.rau.thrustOf s.rau.step ∧ t.rau.floor = s.rau.floor)
    (hdemand : t.rau.demand = s.rau.demand) (hreq : s.rau.regime = .auto → ∀ f, (t.held f).req = (s.held f).req) :
    t.demandHeld ws := by
  obtain ⟨hsought, hthrust, hfloor⟩ := hsought
  refine ⟨hsafe, ?_, ?_, ?_, fun hr => ?_⟩
  · rw [hsought, hthrust, hfloor]
    exact h.sought
  · rw [hregime, hdemand, hsought]
    exact h.outside
  · rw [hregime, hdemand, hsought]
    exact h.inAuto
  · rw [hregime] at hr
    rw [hdemand, State.requested]
    simp only [hreq hr]
    exact h.sums hr

theorem of_rau (h : s.demandHeld ws) (hrau : t.rau = s.rau) : t.demandHeld ws := by
  have hheld : ∀ f, t.held f = s.held f := fun f => by rw [State.held, hrau, State.held]
  exact h.congr (h.safe.of_rau hrau) (by rw [hrau]) ⟨by rw [hrau], by rw [hrau], by rw [hrau]⟩ (by rw [hrau]) fun _ f => by rw [hheld]

/-- The demand is sought anew (R157). -/
theorem of_seekDemand (hsafe : s.demandSafe) (hsums : s.rau.regime = .auto → s.requested ≤ s.rau.demand)
    (hws : s.rau.regime = .auto → .reevaluate ∈ ws) : (seekDemand s).demandHeld ws := by
  refine ⟨hsafe.seekDemand, rfl, fun hr => ?_, fun hr hn => absurd (hws hr) hn, fun hr => ?_⟩
  · have hoff : s.rau.regime ≠ .auto := hr
    change (if s.rau.regime = .auto then s.rau.demand else _) = _
    rw [if_neg hoff]
    rfl
  · have hon : s.rau.regime = .auto := hr
    change s.requested ≤ (if s.rau.regime = .auto then s.rau.demand else _)
    rw [if_pos hon]
    exact hsums hon

theorem takeContribution (h : s.demandHeld ws) (c : ChanNo) (hvs : s.rau.regime = .auto → .reevaluate ∈ vs) :
    (takeContribution c s).demandHeld vs := by
  have hstepped : ∀ (contrib : Vector Contribution 10) (imax : Nat), ({ s with rau := { s.rau with
      contrib := contrib, imax := imax, step := selectedStep s.rau imax s.rau.step } } : State).demandSafe := fun contrib imax =>
    h.safe.congr { h.safe.bounded with step := selectedStep_le _ _ _ } rfl rfl rfl
  exact of_seekDemand (hstepped (s.rau.contrib.set c (contributionOf s c)) _) h.sums hvs

/-- A demand in force that is no lower than what is sought, and that the stages keep to. -/
theorem setDemandInForce (h : s.demandHeld ws) (hauto : s.rau.regime = .auto) {d : Nat} (hd : d ≤ 12) (hsought : s.rau.sought ≤ d)
    (hsum : s.requested ≤ d) (waiting : Bool) (vs : List Work) : (setDemandInForce d waiting s).demandHeld vs :=
  ⟨h.safe.setDemandInForce hd waiting, h.sought, fun hr => absurd hauto hr, fun _ _ => hsought, fun _ => hsum⟩

theorem requested_applyAllocation (d : Nat) (u : State) : (applyAllocation d u).requested ≤ d := by
  have hreq : ∀ f, ((applyAllocation d u).held f).req = u.allocatedStage d f := applyAllocation_req d u
  simp only [State.requested, hreq]
  rw [State.sum_allocatedStage]
  exact Nat.min_le_left _ _

/-- A demand in force with its allocation (R160, R161). -/
theorem applyAllocation (h : s.demandHeld ws) (hauto : s.rau.regime = .auto) {d : Nat} (hd : d ≤ 12) (hsought : s.rau.sought ≤ d)
    (waiting : Bool) (vs : List Work) : (applyAllocation d (Machine.setDemandInForce d waiting s)).demandHeld vs :=
  ⟨(h.safe.setDemandInForce hd waiting).applyAllocation hauto d, h.sought, fun hr => absurd hauto hr, fun _ _ => hsought,
    fun _ => requested_applyAllocation d _⟩

end State.demandHeld

/-- An allocation that changes nothing is in force. -/
theorem requested_of_unchanged {s : State} {d : Nat} (h : s.allocationChanges d = false) : s.requested ≤ d := by
  have hreq : ∀ f, (s.held f).req = s.allocatedStage d f := fun f => by
    have hf : ¬_ := List.any_eq_false.mp h f (mem_allFans f)
    simp only [Bool.or_eq_true, bne_iff_ne, not_or, not_not] at hf
    exact hf.1
  simp only [State.requested, hreq]
  rw [State.sum_allocatedStage]
  exact Nat.min_le_left _ _

theorem reevaluate_held {s : State} {ws : List Work} (h : s.demandHeld ws) (vs : List Work) : (reevaluate s).1.demandHeld vs := by
  have hbounded := h.safe.bounded
  simp only [reevaluate]
  split_ifs with hregime hrise hchanges hpassed hkept hheld hnow
  · exact { h with inAuto := fun hr => absurd hr hregime }
  all_goals have hauto := Classical.not_not.mp hregime
  · exact h.applyAllocation hauto hbounded.sought (Nat.le_refl _) false vs
  · exact h.setDemandInForce hauto hbounded.sought (Nat.le_refl _) ((h.sums hauto).trans hrise) false vs
  · exact h.setDemandInForce hauto hbounded.sought (Nat.le_refl _) (requested_of_unchanged (by simpa using hkept)) false vs
  · exact { h with inAuto := fun _ _ => Nat.le_of_not_le hrise }
  · exact h.applyAllocation hauto hbounded.sought (Nat.le_refl _) false vs
  · exact h.applyAllocation hauto hbounded.demand (by omega) true vs
  · exact h.setDemandInForce hauto hbounded.demand (by omega) (h.sums hauto) true vs

theorem formEffective_demandHeld {s : State} {ws : List Work} (h : s.demandHeld ws) : (formEffective s).demandHeld ws :=
  h.congr h.safe.formEffective rfl ⟨rfl, rfl, rfl⟩ rfl fun _ f => by rw [formEffective_held]

theorem giveRole_demandHeld {s : State} {ws : List Work} (h : s.demandHeld ws) (f : FanNo) : (giveRole f s).1.demandHeld ws := by
  have hsafe := h.safe.giveRole f
  unfold giveRole at hsafe ⊢
  split_ifs at hsafe ⊢ with hjoins
  · exact h.congr hsafe rfl ⟨rfl, rfl, rfl⟩ rfl fun hr => absurd hr (by simp [hjoins.1])
  · exact h

theorem evaluateShort_demandHeld {s : State} {ws : List Work} (h : s.demandHeld ws) : (evaluateShort s).demandHeld ws := by
  have hsafe := h.safe.evaluateShort
  unfold evaluateShort at hsafe ⊢
  split_ifs at hsafe ⊢
  · exact h
  · exact h.congr hsafe rfl ⟨rfl, rfl, rfl⟩ rfl fun _ _ => rfl
  · exact h.congr hsafe rfl ⟨rfl, rfl, rfl⟩ rfl fun _ _ => rfl
  · exact h

theorem perform_demandHeld {w : Work} {rest : List Work} {s : State} (h : s.demandHeld (w :: rest)) :
    (perform w s).1.demandHeld ((perform w s).2 ++ rest) := by
  have hleft : w ≠ .reevaluate → (perform w s).1.rau = s.rau → (perform w s).1.demandHeld ((perform w s).2 ++ rest) :=
    fun hw hrau => (h.tail hw _).of_rau hrau
  have hasked : s.rau.regime = .auto → .reevaluate ∈ (if s.rau.regime = .auto then [Work.reevaluate] else []) ++ rest := fun hr => by
    simp [hr]
  cases w with
  | startAttempt f | handFan f | handRegime f | grant f => exact hleft nofun (perform_rau s (.inl ⟨f, rfl⟩))
  | fanMoved f b a => exact hleft nofun (perform_rau s (.inr (.inl ⟨f, b, a, rfl⟩)))
  | nextHead | quietTest | availability | grantDue => exact hleft nofun (perform_rau s (.inr (.inr (by decide))))
  | contribution c => exact h.takeContribution c hasked
  | calEnded c =>
    have hfirst := h.tail nofun (if s.rau.regime = .auto then [.reevaluate] else [])
    change (if (s.ch c).cfg.participates then takeContribution c s else s).demandHeld _
    by_cases hpart : (s.ch c).cfg.participates = true
    · rw [if_pos hpart]
      exact h.takeContribution c hasked
    · rw [if_neg hpart]
      exact hfirst
  | reevaluate => exact reevaluate_held h _
  | reform => exact formEffective_demandHeld (h.tail nofun _)
  | giveRole f => exact giveRole_demandHeld (h.tail nofun _) f
  | demandShort => exact evaluateShort_demandHeld (h.tail nofun _)

theorem run_demandHeld {ws : List Work} {s : State} (h : s.demandHeld ws) : (run ws s).demandHeld [] :=
  run_induction (J := fun ws t => t.demandHeld ws) (fun _ _ ht => ht.tail nofun []) (fun _ _ _ => perform_demandHeld) h

end Sys2Proof.Machine

end

/-! PROOFS. The demand and the stages, kept by every step. -/

section

namespace Sys2Proof.Machine

/-! ### Requests and regimes -/

namespace State.demandHeld

variable {s t : State} (h : s.demandHeld [])

include h

theorem run_rau (hrau : t.rau = s.rau) (ws : List Work) : (run ws t).demandHeld [] := run_demandHeld ((h.of_rau hrau).mono nofun)

theorem of_linked {ps : List Part} (hlinked : Linked ps s t) (hps : .rau ∉ ps := by decide) : t.demandHeld [] :=
  hlinked.keeps (fun _ _ ⟨_, ws, hv, heq⟩ hs => heq ▸ State.demandHeld.run_rau hs (hv.1 .rau hps) ws) h

theorem of_doorRau (hrau : DoorRau s t) : t.demandHeld [] := by
  have hrau' : t.rau = { s.rau with doorOpen := t.rau.doorOpen } := hrau
  have hheld : ∀ f, t.held f = s.held f := fun f => by rw [State.held, hrau', State.held]
  refine h.congr ?_ (by rw [hrau']) ⟨by rw [hrau'], by rw [hrau']; rfl, by rw [hrau']⟩ (by rw [hrau']) fun _ f => by rw [hheld]
  refine h.safe.congr ?_ (by rw [hrau']) (by rw [hrau']) (by rw [hrau'])
  rw [hrau']
  exact { h.safe.bounded with }

theorem of_doorAct {e : Effect} (hact : DoorAct s e) : (runEffect e).demandHeld [] :=
  run_demandHeld ((State.demandHeld.of_doorRau h hact.rau).mono nofun)

theorem of_doorSteps (hsteps : DoorSteps s t) : t.demandHeld [] := by
  induction hsteps with
  | refl => exact h
  | tail _ hact ih =>
    obtain ⟨e, hact, rfl⟩ := hact
    exact of_doorAct ih hact

theorem guarded {c : Prop} [Decidable c] (k : t.demandHeld []) : (if c then t else s).demandHeld [] := by
  split
  · exact k
  · exact h

theorem setNode (n : NodeSettings) : (setNode n s).demandHeld [] := by
  have hstored : (storeNode n s).demandHeld [] :=
    h.congr (h.safe.congr { h.safe.bounded with } rfl rfl rfl) rfl ⟨rfl, rfl, rfl⟩ rfl fun _ _ => rfl
  have hran : ∀ (c : Prop) [Decidable c] (ws : List Work) (u : State), State.demandHeld [] u →
      (if c then u else Machine.run ws u).demandHeld [] := fun c _ ws u hu => by
    split
    · exact hu
    · exact State.demandHeld.run_rau hu rfl ws
  have hcap := hran (s.rau.doorCap = n.doorCap) [.reform] _ hstored
  have hfault := hran (s.rau.faultIndex = n.faultIndex) ((actDoorCap s.rau.doorCap n.doorCap (storeNode n s)).faultContributors.map
    .contribution) _ hcap
  exact State.demandHeld.guarded hfault (State.demandHeld.run_rau hfault rfl _)

omit h in
theorem takenSteps_thrust (fields : List Byte) : ∀ st ∈ takenSteps fields, st.thrust ≤ 12 := fun st hst => by
  obtain ⟨i, -, rfl⟩ := List.mem_map.mp hst
  exact clampNat_le (by decide) _

theorem replaceDemand {steps : List DemandStep} (hsteps : ∀ st ∈ steps, st.thrust ≤ 12) (dh : Nat) {ws : List Work}
    (hws : s.rau.regime = .auto → .reevaluate ∈ ws) : (replaceDemand steps dh s).demandHeld ws := by
  refine of_seekDemand ?_ h.sums hws
  exact h.safe.congr { h.safe.bounded with thrusts := hsteps, step := selectedStep_le _ _ _ } rfl rfl rfl

theorem serveSetDemand (fields : List Byte) : (serveSetDemand fields s).state.demandHeld [] := by
  unfold Machine.serveSetDemand
  dsimp only
  split
  · exact run_demandHeld (State.demandHeld.replaceDemand h (takenSteps_thrust fields) _ fun hr => by simp [hr])
  · exact h

theorem serveFanCommand (fields : List Byte) : (serveFanCommand fields s).state.demandHeld [] := by
  unfold Machine.serveFanCommand commandFan
  split
  · exact h
  · split
    · next hmanual =>
      refine run_demandHeld (h.mono nofun |>.congr (ws := [.handFan _, .demandShort]) ?_ rfl ⟨rfl, rfl, rfl⟩ rfl fun hr => ?_)
      · refine ⟨{ h.safe.bounded with }, fun k => ?_, fun hi => ?_⟩
        · rw [held_setHeld]
          split
          · exact ⟨Nat.min_le_right _ _, Rau.effective_le _ _⟩
          · exact h.safe.stages k
        · exact absurd (show s.rau.regime = .incident from hi) (by rw [hmanual]; exact nofun)
      · exact absurd hr (by rw [hmanual]; exact nofun)
    · exact h

end State.demandHeld

/-! ### The regime -/

/-- The demand sought anew outside AUTO. -/
theorem closed_demandHeld {s : State} (h : s.demandSafe) (hregime : s.rau.regime ≠ .auto) :
    (evaluateShort (seekDemand s)).demandHeld [] :=
  evaluateShort_demandHeld (State.demandHeld.of_seekDemand h (fun hr => absurd hr hregime) fun hr => absurd hr hregime)

theorem enterAuto_demandHeld {s : State} (h : s.demandSafe) (hauto : s.rau.regime = .auto) : (enterAuto s).demandHeld [] := by
  have hsought := h.seekDemand
  have hforce := hsought.setDemandInForce hsought.bounded.sought false
  have hallocated : (applyAllocation (seekDemand s).rau.sought (setDemandInForce (seekDemand s).rau.sought false
      (seekDemand s))).demandHeld (handAll ++ [.demandShort]) :=
    ⟨hforce.applyAllocation hauto _, rfl, fun hr => absurd hauto hr, fun _ _ => Nat.le_refl _,
      fun _ => State.demandHeld.requested_applyAllocation _ _⟩
  exact run_demandHeld (hallocated.congr (hallocated.safe.congr { hallocated.safe.bounded with } rfl rfl rfl) rfl ⟨rfl, rfl, rfl⟩ rfl
    fun _ _ => rfl)

/-- What an entry into a regime needs: the bounds, but not the stages, which it sets anew. -/
theorem setFans_demandHeld {s : State} (hbounded : s.rau.bounded) (hstages : ∀ f : FanNo, (s.held f).req ≤ 3 ∧ (s.held f).eff ≤ (s.held f).req) :
    (setFans s).demandHeld [] := by
  unfold setFans
  split
  · next hmanual =>
    have hsafe : s.demandSafe := ⟨hbounded, hstages, fun hi => absurd hi (by rw [hmanual]; exact nofun)⟩
    have hrequests := hsafe.setRequests (g := fun _ r => { r with req := r.eff }) (fun f => (hstages f).2.trans (hstages f).1)
      fun hi => absurd hi (by rw [hmanual]; exact nofun)
    refine closed_demandHeld (hrequests.run _) ?_
    rw [enterManual, run_regime]
    exact fun hr => absurd (show s.rau.regime = .auto from hr) (by rw [hmanual]; exact nofun)
  · next hauto =>
    exact enterAuto_demandHeld ⟨hbounded, hstages, fun hi => absurd hi (by rw [hauto]; exact nofun)⟩ hauto
  · next hincident =>
    have hstage : s.rau.roleStage ≤ 3 := by
      unfold Rau.roleStage
      split
      · exact Nat.zero_le 3
      · exact hbounded.incStage
    have hsafe : (setRequests (fun f r => s.rau.roleRequest (s.fan f).state.isSome r) s).demandSafe := by
      refine ⟨{ hbounded with }, fun f => ?_, fun _ hr f => ?_⟩
      · rw [setRequests_held]
        refine ⟨?_, Rau.effective_le _ _⟩
        unfold Rau.roleRequest
        split
        · exact hstage
        · exact Nat.zero_le 3
      · have hzone : s.rau.role = some .fireZone := hr
        rw [setRequests_held]
        unfold Rau.roleRequest
        split
        · simp [Rau.roleStage, hzone]
        · rfl
    refine closed_demandHeld (hsafe.run _) ?_
    rw [enterIncident, run_regime]
    exact fun hr => absurd (show s.rau.regime = .auto from hr) (by rw [hincident]; exact nofun)

/-- The bounds and the stages, without the role's word. -/
structure State.stagesSafe (s : State) : Prop where
  bounded : s.rau.bounded
  stages : ∀ f : FanNo, (s.held f).req ≤ 3 ∧ (s.held f).eff ≤ (s.held f).req

namespace State.stagesSafe

variable {s t : State} (h : s.stagesSafe)

include h

theorem congr (hbounded : t.rau.bounded) (hfans : t.rau.fans = s.rau.fans) : t.stagesSafe := by
  refine ⟨hbounded, fun f => ?_⟩
  rw [State.held, hfans]
  exact h.stages f

theorem of_rau (hrau : t.rau = s.rau) : t.stagesSafe := h.congr (hrau ▸ h.bounded) (by rw [hrau])

theorem takeContribution (c : ChanNo) : (takeContribution c s).stagesSafe := by
  have hsought : ∀ n, max (s.rau.thrustOf n) s.rau.floor ≤ 12 := fun n =>
    Nat.max_le.mpr ⟨Rau.thrustOf_le h.bounded.thrusts _, h.bounded.floor⟩
  refine h.congr { h.bounded with demand := ?_, sought := hsought _, step := selectedStep_le _ _ _ } rfl
  change (if s.rau.regime = .auto then s.rau.demand else _) ≤ 12
  split
  · exact h.bounded.demand
  · exact hsought _

theorem clearWork : (clearWork s).stagesSafe := by
  have hqueue : (clearQueue s).stagesSafe := by
    have hclear : (clearForIncident s).stagesSafe := of_rau h ((clearForIncident_alters s).1 .rau (by decide))
    unfold clearQueue
    split
    · exact hclear
    · split
      · exact takeContribution hclear _
      · exact hclear
  rw [clearWork_eq, clearSession]
  split
  · exact hqueue
  · next sp _ =>
    have hended : (endSession sp .spanAborted sp.entryG (clearQueue s)).1.stagesSafe :=
      of_rau hqueue ((endSession_alters sp .spanAborted sp.entryG _).1 .rau (by decide))
    split
    · exact takeContribution hended _
    · exact hended

theorem handRegime (before : Regime) : (handRegime before s).stagesSafe := by
  have hmark : ({ s with rau := { s.rau with fallWaiting := false } } : State).stagesSafe := h.congr { h.bounded with } rfl
  have hcal : (handedToCal s).stagesSafe := by
    unfold handedToCal
    split
    · exact clearWork hmark
    · exact hmark
  rw [handRegime_eq]
  split
  · exact hcal
  · have hdoors : (regimeDoors (handedToCal s)).rau =
        { (handedToCal s).rau with doorOpen := (regimeDoors (handedToCal s)).rau.doorOpen } := regimeDoors_doorRau _
    refine congr hcal ?_ (by rw [hdoors])
    rw [hdoors]
    exact { hcal.bounded with }

end State.stagesSafe

/-- An entry into a regime whose parameters lie within their ranges. -/
theorem enterRegime_demandHeld {s : State} (h : s.demandHeld []) (r : Regime) {params : Rau → Rau}
    (hparams : ∀ k : Rau, k.bounded → (params k).bounded ∧ (params k).fans = k.fans) : (enterRegime r params s).demandHeld [] := by
  obtain ⟨hbounded, hfans⟩ := hparams _ h.safe.bounded
  have hstored : (storeRegime r params s).stagesSafe :=
    State.stagesSafe.congr ⟨h.safe.bounded, h.safe.stages⟩ { hbounded with } hfans
  have hhanded := hstored.handRegime s.rau.regime
  exact setFans_demandHeld hhanded.bounded hhanded.stages

theorem serveRegime_demandHeld {s : State} (h : s.demandHeld []) (fields : List Byte) : (serveRegime fields s).state.demandHeld [] := by
  refine enterRegime_demandHeld h _ fun k hk => ?_
  unfold regimeParams
  split
  · exact ⟨hk, rfl⟩
  · exact ⟨{ hk with floor := Nat.min_le_right _ _ }, rfl⟩
  · exact ⟨{ hk with incStage := Nat.min_le_right _ _ }, rfl⟩

theorem silenceExpiry_demandHeld {s : State} (h : s.demandHeld []) : (silenceExpiry s).demandHeld [] := by
  have hlost : (loseLine s).demandHeld [] := h.of_rau rfl
  exact h.guarded (hlost.guarded (enterRegime_demandHeld hlost _ fun k hk => ⟨{ hk with floor := Nat.zero_le 12 }, rfl⟩))

/-! ### Resets -/

theorem fullReset_demandHeld (straps : Straps) (s : State) : (fullReset straps s).demandHeld [] := by
  have hheld : ∀ f, (fullReset straps s).held f = RauFan.initial := fun f => by simp [State.held, fullReset, Rau.initial]
  refine ⟨⟨⟨nofun, Nat.zero_le _, Nat.zero_le _, Nat.zero_le _, Nat.zero_le _, Nat.zero_le _⟩, fun f => ?_, nofun⟩, rfl, fun _ => rfl, nofun, nofun⟩
  rw [hheld]
  decide

theorem nodeReset_demandHeld {s : State} (h : s.demandHeld []) : (nodeReset s).demandHeld [] := by
  have hsame : (abortSession (resetLif (appendEvent .node .nodeReset none none s))).rau = s.rau :=
    (abortSession_alters (resetLif (appendEvent .node .nodeReset none none s))).1 .rau (by decide)
  have hrau : ∃ contrib, (nodeReset s).rau = s.rau.nodeReset contrib := by
    rw [← hsame]
    exact ⟨_, rfl⟩
  obtain ⟨contrib, hrau⟩ := hrau
  have hbounded := h.safe.bounded
  refine ⟨⟨?_, fun f => ?_, fun hi => ?_⟩, ?_, fun _ => ?_, fun hr => ?_, fun hr => ?_⟩
  · rw [hrau]
    exact { hbounded with demand := hbounded.floor, sought := hbounded.floor, step := Nat.zero_le _ }
  · rw [nodeReset_held]
    exact ⟨Nat.zero_le 3, Nat.le_refl 0⟩
  · rw [hrau] at hi
    exact nomatch hi
  · rw [hrau]
    exact (Nat.zero_max _).symm
  · rw [hrau]
    rfl
  · rw [hrau] at hr
    exact nomatch hr
  · rw [hrau] at hr
    exact nomatch hr

/-! ### Every step -/

theorem demandHeld_invariant : PlantInvariant fun s => s.demandHeld [] := by
  refine plantInvariant_of_acts [.rau] (fun s lif tb evq choices pending hs => hs.of_rau rfl)
    (fun s v ws hv hs => hs.run_rau (hv .rau (by decide)) ws)
    (fun i r s0 s fields hi hmeets hs => ?_) (fun i s t hi htb hmeets hs hexec => ?_)
    (fun s hs => hs.of_rau rfl) (fun straps s _ => fullReset_demandHeld straps s) (fun s hs => nodeReset_demandHeld hs)
  · cases i
    case setNode => exact hs.setNode _
    case setDoor => exact hs.of_doorSteps (serveSetDoor_steps fields s)
    case doorCommand => exact hs.of_doorSteps (serveDoorCommand_steps fields s)
    case setDemand => exact hs.serveSetDemand fields
    case fanCommand => exact hs.serveFanCommand fields
    case zero form _ => exact hs.of_linked (serveZero_linked form fields s)
    case regime => exact serveRegime_demandHeld hs fields
    all_goals simp [Instr.request, actParts] at hi hmeets
  · cases i
    all_goals simp only [Instr.request, reduceCtorEq] at hi
    all_goals obtain rfl := Host.Outcome.next.inj hexec
    case conversionComplete code => exact hs.of_linked (converted_linked code s)
    case stampExpiry =>
      exact hs.congr (hs.safe.congr { hs.safe.bounded with } rfl rfl rfl) rfl ⟨rfl, rfl, rfl⟩ rfl fun _ _ => rfl
    case inhibitOn => exact hs.of_linked (inhibitActive_linked s)
    case inhibitOff => exact hs.of_linked (inhibitInactive_linked s)
    case silenceTimeout => exact silenceExpiry_demandHeld hs
    case doorContactDebounced d c => exact hs.guarded (hs.of_doorAct (contactDebounced_doorAct d c s))
    case holdLimitExpiry d => exact hs.of_doorAct (holdExpiry_doorAct d s)
    case openWaitExpiry d => exact hs.of_doorAct (waitExpiry_doorAct d s)
    case doorFaultTimeout d => exact hs.of_doorAct (faultExpiry_doorAct d s)
    all_goals simp [actParts, eventParts] at hmeets htb

/-- Settles O59: in AUTO a sought demand above the demand in force waits to be re-evaluated, and every other bound stands throughout. -/
theorem demandBoundsStages : Obligations.DemandBoundsStages := fun _ _ hs hstep =>
  demandOk_iff.mpr (demandHeld_invariant.step (demandOk_iff.mp hs) hstep)

end Sys2Proof.Machine

end

/-! PROOFS. ZERO CANCEL (R81): by the place of the channel's entry in the calibration queue. -/

section

namespace Sys2Proof.Machine

/-! ### The place of an entry -/

theorem position_of_unqueued {k : Cal} {c : ChanNo} (h : k.queued c = false) : k.position c = none := by
  rw [Cal.position, List.findIdx?_eq_none_iff]
  simpa [Cal.queued] using h

theorem position_of_queued {k : Cal} {c : ChanNo} (h : k.queued c = true) :
    ∃ p, k.position c = some p ∧ k.queue[p]?.map (·.channel) = some c := by
  obtain ⟨e, he, hc⟩ := List.any_eq_true.mp h
  cases hfind : k.queue.findIdx? (·.channel == c) with
  | none => exact absurd hc (by simp [List.findIdx?_eq_none_iff.mp hfind e he])
  | some p =>
    obtain ⟨hp, hat, -⟩ := List.findIdx?_eq_some_iff_getElem.mp hfind
    exact ⟨p, hfind, by simpa [List.getElem?_eq_getElem hp] using hat⟩

theorem position_of_head {k : Cal} {e : CalEntry} {rest : List CalEntry} (h : k.queue = e :: rest) :
    k.position e.channel = some 0 := by
  simp [Cal.position, h, List.findIdx?_cons]

/-! ### The removal -/

theorem cancelZero_unqueued {c : ChanNo} {s : State} (h : s.cal.queued c = false) : cancelZero c s = (s, []) := by
  have hothers : ∀ e ∈ s.cal.queue, e.channel ≠ c := by simpa [Cal.queued] using h
  have hfilter : s.cal.queue.filter (·.channel != c) = s.cal.queue := by simpa using hothers
  unfold cancelZero
  split
  · rfl
  · next e hhead =>
    rw [if_neg (hothers e (List.mem_of_mem_head? hhead)), hfilter]

theorem cancelZero_behind {c : ChanNo} {s : State} {e : CalEntry} (hhead : s.cal.head = some e) (hne : e.channel ≠ c) :
    cancelZero c s = ({ s with cal := { s.cal with queue := s.cal.queue.filter (·.channel != c) } }, []) := by
  simp [cancelZero, hhead, hne]

theorem removeWaiting_handedOn (e : CalEntry) (s : State) :
    HandedOn (appendEvent (.cal e.channel) .calAborted (some 1) (some 0) s) (removeWaiting e s).1 :=
  cal_handedOn _ _ rfl

/-- A head that is cancelled leaves the queue after its CAL ABORTED, whatever its phase. -/
theorem cancelZero_head {s : State} {e : CalEntry} (hhead : s.cal.head = some e) :
    HandedOn (appendEvent (.cal e.channel) .calAborted (some 1) (some 0) s) (cancelZero e.channel s).1 ∧
      (cancelZero e.channel s).1.cal.queue = s.cal.queue.drop 1 := by
  simp only [cancelZero, hhead, if_true]
  split
  · exact ⟨endCalibration_handedOn e.channel [] (abortEntry e.channel .cancelled false s), endCalibration_queue _ _⟩
  · exact ⟨removeWaiting_handedOn e s, by simp [removeWaiting, dropHead, abortEntry]⟩

theorem exec_zeroCancel {s : State} (hready : s.ready) (c : ChanNo) :
    exec (.zeroCancel .addressed [byte c.val]) s = .next (beginService 0x21
      (answer false [byte c.val, positionByte (s.cal.position c)] (runEffect (cancelZero c (contact s))))) := by
  rw [exec_served hready rfl rfl rfl]
  simp [serveOf, serveZeroCancel, toNat_byte_fin]

/-- Settles O27: not queued, behind the head, or the head. -/
theorem zeroCancelRemoves : Obligations.ZeroCancelRemoves := by
  rintro c s hready ⟨hnodup, -⟩
  rw [exec_zeroCancel hready]
  refine ⟨fun hfree => ?_, fun e rest hqueue => ?_⟩
  · rw [position_of_unqueued hfree, cancelZero_unqueued (by simpa using hfree), runEffect_nil, beginService_answer]
    rfl
  have hhead : (contact s).cal.head = some e := by simp [Cal.head, hqueue]
  refine ⟨fun hne hqueued => ?_, ?_⟩
  · obtain ⟨p, hp, hat⟩ := position_of_queued hqueued
    refine ⟨p, hat, ?_⟩
    rw [hp, cancelZero_behind hhead hne, runEffect_nil, beginService_answer, contact_cal]
    rfl
  · rintro rfl
    obtain ⟨hentry, hleft⟩ := cancelZero_head hhead
    rw [position_of_head hqueue, beginService_answer]
    have hcontact : HandedOn (appendEvent (.cal e.channel) .calAborted (some 1) (some 0) (contact s))
      (runEffect (cancelZero e.channel (contact s))) := hentry.trans (runEffect_handedOn _)
    refine ⟨_, hcontact, run_queued_eq_false _ ?_, rfl⟩
    rw [hqueue, List.map_cons, List.nodup_cons] at hnodup
    rw [Cal.queued, hleft, contact_cal, hqueue]
    simpa using hnodup.1

end Sys2Proof.Machine

end

/-! PROOFS. How a fan's change ends: where its hand-overs reach no fan anew, what a fan out of operation keeps of them, and what of the
countdowns the change loads. -/

section

namespace Sys2Proof.Machine

/-! ### Hand-overs that reach no fan -/

/-- The hand-overs that reach no fan outside AUTO. -/
def Work.aside (w : Work) : Bool :=
  match w with
  | .fanMoved _ _ _ | .contribution _ | .calEnded _ | .nextHead | .quietTest | .availability | .demandShort => true
  | .startAttempt _ | .handFan _ | .handRegime _ | .reevaluate | .reform | .giveRole _ | .grantDue | .grant _ => false

/-- All of these hand-overs reach no fan outside AUTO. -/
abbrev Aside (ws : List Work) : Prop := ws.all Work.aside = true

theorem aside_append {ws vs : List Work} (h : Aside ws) (k : Aside vs) : Aside (ws ++ vs) := by
  rw [Aside, List.all_append, h, k]
  rfl

theorem aside_cons {w : Work} {ws : List Work} : Aside (w :: ws) ↔ w.aside = true ∧ Aside ws := by
  rw [Aside, List.all_cons, Bool.and_eq_true]

theorem actsOn_of_aside {w : Work} (h : w.aside = true) : w.actsOn = none := by cases w <;> trivial

theorem contributes_aside (s : State) (c : ChanNo) : Aside (contributes s c) := by
  unfold contributes
  split <;> rfl

theorem calHears_aside (a b : Option FanState) (s : State) : Aside (calHears a b s).2 := by
  unfold calHears
  split
  · unfold quietLost
    split
    · rfl
    · split <;> rfl
  · dsimp only
    split <;> rfl

theorem fanMoved_aside (a b : Option FanState) (s : State) : Aside (fanMoved a b s).2 := by
  refine aside_append (calHears_aside _ _ _) ?_
  unfold rauHears
  split <;> rfl

theorem nextHead_aside (s : State) : Aside (nextHead s).2 := by
  unfold nextHead
  split
  · rfl
  · split <;> rfl

theorem quietTest_aside (s : State) : Aside (quietTest s).2 := by
  unfold quietTest
  split
  · rfl
  · split
    · exact contributes_aside s _
    · rfl

theorem perform_aside {w : Work} {s : State} (hregime : s.rau.regime ≠ .auto) (h : w.aside = true) : Aside (perform w s).2 := by
  cases w with
  | fanMoved f a b => exact fanMoved_aside a b s
  | contribution c =>
    simp only [perform, receiveContribution, if_neg hregime]
    rfl
  | calEnded c =>
    simp only [perform, receiveCalEnd, if_neg hregime]
    rfl
  | nextHead => exact nextHead_aside s
  | quietTest => exact quietTest_aside s
  | availability =>
    simp only [perform, if_neg hregime]
    rfl
  | demandShort => rfl
  | startAttempt f | handFan f | handRegime f | reevaluate | reform | giveRole f | grantDue | grant f => exact nomatch h

/-- Outside AUTO the fans stand under hand-overs that reach none of them. -/
theorem run_aside_fans {ws : List Work} {s : State} (hregime : s.rau.regime ≠ .auto) (h : Aside ws) : (run ws s).fans = s.fans := by
  refine (run_induction (J := fun vs t => t.rau.regime = s.rau.regime ∧ Aside vs ∧ t.fans = s.fans) ?_ ?_ ⟨rfl, h, rfl⟩).2.2
  · rintro rest t ⟨hkept, haside, hfans⟩
    exact ⟨hkept, (aside_cons.mp haside).2, hfans⟩
  · rintro w rest t ⟨hkept, haside, hfans⟩
    obtain ⟨hw, hrest⟩ := aside_cons.mp haside
    exact ⟨(perform_handedOn w t).regime.trans hkept, aside_append (perform_aside (hkept ▸ hregime) hw) hrest,
      (perform_fans (actsOn_of_aside hw) t).trans hfans⟩

/-! ### A fan out of operation -/

theorem followHandover_resting {s : State} {f : FanNo} (h : availableState (s.fan f).state = false) (eff : Nat) :
    followHandover f eff s = (s, []) := by
  cases hstate : (s.fan f).state with
  | none => simp only [followHandover, hstate]
  | some st =>
    rw [hstate] at h
    cases st with
    | tripped | inhibited => simp only [followHandover, hstate]
    | stopped | waitingBudget | starting | changing | running | coasting => exact nomatch h

theorem startAttempt_resting {s : State} {f : FanNo} (h : availableState (s.fan f).state = false) : startAttempt f s = (s, []) :=
  if_neg fun e => by rw [e.1] at h; exact nomatch h

theorem grantStart_resting {s : State} {f : FanNo} (h : availableState (s.fan f).state = false) : grantStart f s = (s, []) :=
  if_neg fun e => by rw [e.1] at h; exact nomatch h

/-- A fan that is absent, TRIPPED or INHIBITED takes from a hand-over no more than what it stores. -/
theorem perform_resting (w : Work) {s : State} {f : FanNo} (h : availableState (s.fan f).state = false) :
    ∃ r, (perform w s).1.fan f = (s.fan f).store r := by
  have hsame : ∃ r, s.fan f = (s.fan f).store r := ⟨⟨(s.fan f).reqStage, (s.fan f).effStage, (s.fan f).reqDir⟩, rfl⟩
  have hreceive : ∃ r, (receiveHandover f s).1.fan f = (s.fan f).store r := by
    refine ⟨s.held f, ?_⟩
    rw [receiveHandover, followHandover_resting (by rw [State.fan_modFan_same]; exact h), State.fan_modFan_same]
  cases hw : w.actsOn with
  | none =>
    have hfans := perform_fans hw s
    rw [State.fan, hfans]
    exact hsame
  | some k =>
    by_cases hk : f = k
    · subst hk
      cases w <;> simp only [Work.actsOn, reduceCtorEq, Option.some.injEq] at hw
      case startAttempt =>
        subst hw
        rw [perform, startAttempt_resting h]
        exact hsame
      case handFan =>
        subst hw
        simp only [perform]
        split
        · exact hsame
        · exact hreceive
      case handRegime => subst hw; exact hreceive
      case grant =>
        subst hw
        rw [perform, grantStart_resting h]
        exact hsame
    · rw [(perform_act hw s).others f hk]
      exact hsame

theorem run_resting (ws : List Work) {s : State} {f : FanNo} (h : availableState (s.fan f).state = false) :
    ∃ r, (run ws s).fan f = (s.fan f).store r := by
  refine run_keeps (fun t => ∃ r, t.fan f = (s.fan f).store r) (fun w t ht => ?_) ws s ⟨⟨_, _, _⟩, rfl⟩
  obtain ⟨r, hr⟩ := ht
  obtain ⟨r', hr'⟩ := perform_resting w (s := t) (f := f) (by rw [hr]; exact h)
  exact ⟨r', by rw [hr', hr]; rfl⟩

/-! ### The countdowns of a fan's change (R52) -/

theorem countdownsLoaded_of_channels {s u t : State} (h : u.channels = s.channels) (k : CountdownsLoaded u t) :
    CountdownsLoaded s t := by
  have hch : ∀ c, u.ch c = s.ch c := fun c => by rw [State.ch, h, State.ch]
  intro c
  rw [k c, hch]

namespace FanAct

variable {f : FanNo} {s : State} {e : Effect} (h : FanAct f s e)

include h

theorem channels : e.1.channels = s.channels := h.alters.1 .channels (by decide)

theorem cal : e.1.cal = s.cal := h.alters.1 .cal (by decide)

theorem rau : e.1.rau = s.rau := h.alters.1 .rau (by decide)

theorem works_of_moved (hne : (e.1.fan f).state ≠ (s.fan f).state) : e.2 = [.fanMoved f (s.fan f).state (e.1.fan f).state] :=
  h.works.resolve_left fun hstands => hne hstands.2

theorem works_aside : Aside e.2 := by
  rcases h.works with ⟨hnone, -⟩ | hmoved
  · rw [hnone]
    rfl
  · rw [hmoved]
    rfl

/-- A change that loads the countdowns leaves them loaded, whatever follows. -/
theorem loaded (hloads : loadsCountdown (s.fan f).state (e.1.fan f).state = true) : CountdownsLoaded s (runEffect e) := by
  have hne : (e.1.fan f).state ≠ (s.fan f).state := fun heq => by simp [loadsCountdown, heq] at hloads
  have hload := (fanMoved_countdowns (s.fan f).state (e.1.fan f).state e.1).1 hloads
  refine countdownsLoaded_of_channels h.channels ?_
  rw [runEffect, h.works_of_moved hne, run_singleton]
  exact Carried.loaded (perform_handedOn (.fanMoved f _ _) e.1) hload (run_carried _ _)

theorem sameBut_run : sameBut Part.reached s (runEffect e) := (h.alters.runEffect (by decide)).1

theorem others_fixed {g : FanNo} (hg : g ≠ f) : ((runEffect e).fan g).fixed = (s.fan g).fixed := by
  rw [(runEffect_handedOn e).fan g, h.others g hg]

theorem channels_fixed (c : ChanNo) : ((runEffect e).ch c).fixed = (s.ch c).fixed := by
  rw [(runEffect_handedOn e).ch c, State.ch, h.channels, State.ch]

/-- Outside AUTO a fan's change reaches no other fan and comes back to none. -/
theorem fans_outsideAuto (hregime : s.rau.regime ≠ .auto) : (runEffect e).fans = e.1.fans :=
  run_aside_fans (by rw [h.rau]; exact hregime) h.works_aside

end FanAct

theorem runEffect_fan {e : Effect} (h : (runEffect e).fans = e.1.fans) (f : FanNo) : (runEffect e).fan f = e.1.fan f := by
  rw [State.fan, h, State.fan]

/-! ### A fan that comes to rest or to speed -/

/-- The RAU does not hear of a change inside the operating states. -/
theorem rauHears_fixed {a b : Option FanState} (hfixed : fixedState b = fixedState a) : rauHears a b = [] := by
  have hweight := weight_fanMoved (f := 0) hfixed
  simp only [Work.weight] at hweight
  unfold rauHears
  split
  · next hheard => simp [hheard] at hweight
  · rfl

/-- A change inside the operating states that sets no fan moving disturbs no calibration, and the RAU does not hear of it. -/
theorem fanMoved_settling {a b : Option FanState} (hfixed : fixedState b = fixedState a) (hb : movingState b = false) (s : State) :
    fanMoved a b s = (if loadsCountdown a b then loadCountdowns s else s,
      if movingState a && a != b then [.quietTest] else []) := by
  have hdisturbs : disturbs a b = false := by
    rcases a with - | a <;> rcases b with - | b
    · rfl
    · cases b <;> simp [fixedState] at hfixed
    · cases a <;> simp [fixedState] at hfixed
    · cases b <;> cases a <;> simp_all [fixedState, disturbs, movingState]
  have hrau := rauHears_fixed hfixed
  simp only [fanMoved, calHears, hdisturbs, Bool.false_and, hrau, List.append_nil]
  rfl

theorem quietTest_idle {s : State} (h : s.cal.phase ≠ .waitingQuiet) : quietTest s = (s, []) := by
  unfold quietTest
  split
  · rfl
  · rw [if_neg fun e => h e.1]

theorem loadedIf_cal (c : Bool) (s : State) : (if c then loadCountdowns s else s).cal = s.cal := by cases c <;> rfl

theorem loadedIf_fans (c : Bool) (s : State) : (if c then loadCountdowns s else s).fans = s.fans := by cases c <;> rfl

theorem run_quietTest_idle {s : State} (h : s.cal.phase ≠ .waitingQuiet) (b : Bool) :
    run (if b then [.quietTest] else []) s = s := by
  cases b with
  | false => exact run_nil s
  | true =>
    rw [if_pos rfl, run_singleton, perform, quietTest_idle h]
    exact run_nil s

/-- Such a change reaches no other fan, where no head waits for quiet or no allocation follows it. -/
theorem FanAct.fans_settled {f : FanNo} {s : State} {e : Effect} (h : FanAct f s e) (hhanded : HandedOn s e.1)
    (hb : movingState (e.1.fan f).state = false) (hcalm : s.rau.regime ≠ .auto ∨ s.cal.phase ≠ .waitingQuiet) :
    (runEffect e).fans = e.1.fans := by
  rcases hcalm with hregime | hphase
  · exact h.fans_outsideAuto hregime
  · have hfixed : fixedState (e.1.fan f).state = fixedState (s.fan f).state := (congrArg Fan.state (hhanded.fan f) :)
    rcases h.works with ⟨hnone, -⟩ | hmoved
    · rw [runEffect, hnone, run_nil]
    · rw [runEffect, hmoved, run_singleton, perform, fanMoved_settling hfixed hb]
      rw [run_quietTest_idle (by rw [loadedIf_cal, h.cal]; exact hphase), loadedIf_fans]

end Sys2Proof.Machine

end

/-! PROOFS. The timers of the fan states (R118, R119, R122, R123): the timeouts of STARTING, CHANGING and COASTING and the stall watch. -/

section

namespace Sys2Proof.Machine

/-! ### RUNNING at a timeout -/

theorem toRunning_fixed (x : Fan) (now : Ms) (h : fixedState x.state = some .stopped) : (x.toRunning now).fixed = x.fixed := by
  simp only [Fan.toRunning, Fan.fixed, h]
  rfl

section SpeedOff

variable {f : FanNo} {s : State} (h : fixedState (s.fan f).state = some .stopped)

include h

theorem speedOff_handedOn :
    HandedOn (appendEvent (.fan f) .speedOff (some (s.fan f).effStage) (some ((s.fan f).lastPeriod.getD 65535)) s) (speedOff f s).1 :=
  moveFan_handedOn f _ _ (toRunning_fixed _ _ h)

theorem speedOff_settles (hcalm : s.rau.regime ≠ .auto ∨ s.cal.phase ≠ .waitingQuiet) :
    (runEffect (speedOff f s)).fan f = (s.fan f).toRunning s.tb.uptime := by
  have hfan : (speedOff f s).1.fan f = (s.fan f).toRunning s.tb.uptime := moveFan_fan f _ _
  have hhanded : HandedOn s (speedOff f s).1 := (appendEvent_handedOn _ _ _ _ s).trans (speedOff_handedOn h)
  rw [runEffect_fan ((speedOff_act f s).fans_settled hhanded (by rw [hfan]; rfl) hcalm), hfan]

end SpeedOff

/-- Either timeout takes the fan to RUNNING with SPEED OFF, and leaving its transition loads the countdowns. -/
theorem speedOff_outcome {f : FanNo} {s : State} (h : (s.fan f).state = some .starting ∨ (s.fan f).state = some .changing) :
    HandedOn (appendEvent (.fan f) .speedOff (some (s.fan f).effStage) (some ((s.fan f).lastPeriod.getD 65535)) s)
        (runEffect (speedOff f s)) ∧
      CountdownsLoaded s (runEffect (speedOff f s)) ∧
      (s.rau.regime ≠ .auto ∨ s.cal.phase ≠ .waitingQuiet →
        (runEffect (speedOff f s)).fan f = (s.fan f).toRunning s.tb.uptime) := by
  have hfixed : fixedState (s.fan f).state = some .stopped := by rcases h with h | h <;> rw [h] <;> rfl
  have hafter : ((speedOff f s).1.fan f).state = some .running := congrArg Fan.state (moveFan_fan f (·.toRunning s.tb.uptime) _)
  refine ⟨(speedOff_handedOn hfixed).trans (runEffect_handedOn _), (speedOff_act f s).loaded ?_, speedOff_settles hfixed⟩
  rw [hafter]
  rcases h with h | h <;> rw [h] <;> rfl

/-! ### A trip -/

section Trip

variable {f : FanNo} {s : State} (hpresent : (s.fan f).state.isSome = true) (hlatch : (s.fan f).latch = none)

include hpresent hlatch

theorem tripFan_eq (cause : TripCause) :
    tripFan f cause s = moveFan f (·.toTripped cause s.tb.uptime) (fanEvent f .fanTrip (some cause.code) none s) :=
  if_pos ⟨hpresent, hlatch⟩

theorem tripFan_fan (cause : TripCause) : (tripFan f cause s).1.fan f = (s.fan f).toTripped cause s.tb.uptime := by
  rw [tripFan_eq hpresent hlatch]
  exact moveFan_fan f _ _

/-- A trip leaves the fan TRIPPED, whatever the hand-overs store in it. -/
theorem tripFan_rests (cause : TripCause) :
    ∃ r, (runEffect (tripFan f cause s)).fan f = ((s.fan f).toTripped cause s.tb.uptime).store r := by
  have hfan := tripFan_fan hpresent hlatch cause
  obtain ⟨r, hr⟩ := run_resting (tripFan f cause s).2 (s := (tripFan f cause s).1) (f := f) (by rw [hfan]; rfl)
  exact ⟨r, by rw [runEffect, hr, hfan]⟩

theorem tripFan_loaded (hstate : (s.fan f).state ≠ some .tripped) (cause : TripCause) :
    CountdownsLoaded s (runEffect (tripFan f cause s)) := by
  refine (tripFan_act f cause s).loaded ?_
  have htripped : ((s.fan f).toTripped cause s.tb.uptime).state = some .tripped := rfl
  rw [tripFan_fan hpresent hlatch, htripped, loadsCountdown]
  simpa using hstate

/-- FAN TRIP is the trip's first entry. -/
theorem tripFan_entry (cause : TripCause) :
    Appended (s.evq.push ⟨s.tb.clock, .fan f, .fanTrip, some cause.code, none, false⟩) (runEffect (tripFan f cause s)).evq := by
  have hrun := (runEffect_handedOn (tripFan f cause s)).2
  rw [tripFan_eq hpresent hlatch] at hrun ⊢
  exact hrun

end Trip

theorem startExpiry_eq {f : FanNo} {s : State} (hstate : (s.fan f).state = some .starting)
    (hpassed : s.passed (s.fan f).since (1000 * (s.fan f).cfg.startTimeout) = true) :
    startExpiry f s = runEffect (startTimedOut f s) :=
  if_pos (by simp [State.startOver, hstate, hpassed])

theorem changeExpiry_eq {f : FanNo} {s : State} (hstate : (s.fan f).state = some .changing)
    (hpassed : s.passed (s.fan f).since (1000 * (s.fan f).cfg.startTimeout) = true) :
    changeExpiry f s = runEffect (speedOff f s) :=
  if_pos (by simp [State.changeOver, hstate, hpassed])

/-- Settles O35: the two timeouts end in SPEED OFF, or the first in a trip. -/
theorem startAndChangeTimeouts : Obligations.StartAndChangeTimeouts := by
  intro f s hpassed
  refine ⟨fun hstate hspeed => ?_, fun hstate hlatch hslow hstall => ?_, fun hstate => ?_⟩
  · obtain ⟨hentry, hloaded, hfan⟩ := speedOff_outcome (.inl hstate)
    have hruns : startTimedOut f s = speedOff f s := if_pos (by simpa using hspeed)
    refine ⟨_, rfl, ?_⟩
    rw [startExpiry_eq hstate hpassed, hruns]
    exact ⟨hentry, hloaded, fun hcalm => by rw [hfan hcalm, Fan.toRunning, if_pos hstate]⟩
  · have htrips : startTimedOut f s = tripFan f .stall s := if_neg (by simp [hslow, hstall])
    have hpresent : (s.fan f).state.isSome = true := by rw [hstate]; rfl
    obtain ⟨r, hfan⟩ := tripFan_rests hpresent hlatch .stall
    have hact := tripFan_act f .stall s
    refine ⟨_, rfl, ?_⟩
    rw [startExpiry_eq hstate hpassed, htrips, hfan]
    exact ⟨rfl, rfl, rfl, rfl, rfl, fun g hg => hact.others_fixed hg, hact.sameBut_run,
      tripFan_loaded hpresent hlatch (by rw [hstate]; decide) .stall, tripFan_entry hpresent hlatch .stall⟩
  · obtain ⟨hentry, hloaded, hfan⟩ := speedOff_outcome (.inr hstate)
    refine ⟨_, rfl, ?_⟩
    rw [changeExpiry_eq hstate hpassed]
    exact ⟨hentry, hloaded, fun hcalm => by rw [hfan hcalm, Fan.toRunning, if_neg (by rw [hstate]; decide)]⟩

/-! ### The end of a coast (R122) -/

/-- The coast ends in another state. -/
theorem endCoast_leaves (f : FanNo) (s : State) : ((endCoast f s).1.fan f).state ≠ some .coasting := by
  simp only [endCoast, budgetAttempt]
  split
  · split
    · rw [makeStart, moveFan_fan]
      exact nofun
    · rw [moveFan_fan]
      exact nofun
  · rw [stopFan, moveFan_fan]
    exact nofun

section EndCoast

variable {f : FanNo} {s : State} (h : (s.fan f).state = some .coasting)

include h

theorem endCoast_handedOn : HandedOn s (endCoast f s).1 := by
  have hfixed : fixedState (s.fan f).state = some .stopped := by rw [h]; rfl
  unfold endCoast
  split
  · exact budgetAttempt_handedOn f s hfixed
  · exact stopFan_handedOn f s hfixed

theorem endCoast_loaded : CountdownsLoaded s (runEffect (endCoast f s)) := by
  refine (endCoast_act f s).loaded ?_
  have hleaves := endCoast_leaves f s
  rw [h, loadsCountdown]
  simpa [movingState, FanState.moving] using hleaves.symm

theorem endCoast_stops (hzero : (s.fan f).effStage = 0) (hcalm : s.rau.regime ≠ .auto ∨ s.cal.phase ≠ .waitingQuiet) :
    (runEffect (endCoast f s)).fan f = (s.fan f).toStopped := by
  have hfan : (endCoast f s).1.fan f = (s.fan f).toStopped := by
    rw [endCoast, if_neg (by omega), stopFan, moveFan_fan]
    rfl
  rw [runEffect_fan ((endCoast_act f s).fans_settled (endCoast_handedOn h) (by rw [hfan]; rfl) hcalm), hfan]

end EndCoast

/-! ### An attempt at the start budget (R137–R139) -/

theorem budgetAttempt_permitted {f : FanNo} {s : State}
    (h : s.rau.regime = .incident ∨ (s.windowStamps f).length < (s.fan f).cfg.budget) :
    (budgetAttempt f s).1.fan f = { s.fan f with history := s.windowStamps f }.toStarting s.tb.uptime := by
  simp only [budgetAttempt, if_pos h, makeStart, moveFan_fan, State.fan_modFan_same]
  rfl

theorem budgetAttempt_spent {f : FanNo} {s : State} (hregime : s.rau.regime ≠ .incident)
    (h : (s.fan f).cfg.budget ≤ (s.windowStamps f).length) :
    (budgetAttempt f s).1.fan f = { s.fan f with history := s.windowStamps f }.toWaiting := by
  simp only [budgetAttempt, if_neg (not_or.mpr ⟨hregime, Nat.not_lt.mpr h⟩), moveFan_fan]
  exact congrArg Fan.toWaiting (State.fan_modFan_same s f fun x => { x with history := s.windowStamps f })

theorem budgetAttempt_spent_entry {f : FanNo} {s : State} (hregime : s.rau.regime ≠ .incident)
    (h : (s.fan f).cfg.budget ≤ (s.windowStamps f).length) :
    Appended (s.evq.push ⟨s.tb.clock, .fan f, .budgetWait, none, some (s.waitSeconds (s.fan f).cfg (s.windowStamps f) : Int), false⟩)
      (runEffect (budgetAttempt f s)).evq := by
  have hrun := (runEffect_handedOn (budgetAttempt f s)).2
  simp only [budgetAttempt, if_neg (not_or.mpr ⟨hregime, Nat.not_lt.mpr h⟩)] at hrun ⊢
  exact hrun

/-- In MANUAL the end of a coast with a stage above 0 is an attempt at the budget, and nothing moves the fan after it. -/
theorem endCoast_manual {f : FanNo} {s : State} (hpos : 0 < (s.fan f).effStage) (hmanual : s.rau.regime = .manual) :
    (runEffect (endCoast f s)).fan f = (budgetAttempt f s).1.fan f := by
  rw [runEffect_fan ((endCoast_act f s).fans_outsideAuto (by rw [hmanual]; decide)), endCoast, if_pos hpos]

theorem coastExpiry_eq {f : FanNo} {s : State} (hstate : (s.fan f).state = some .coasting)
    (hpassed : s.passed (s.fan f).since (1000 * (s.fan f).cfg.coastTimeout) = true) :
    coastExpiry f s = runEffect (endCoast f (fanEvent f .coastTimeout none none s)) :=
  if_pos (by simp [State.coastOver, hstate, hpassed])

theorem stallExpiry_eq {f : FanNo} {s : State} {w : Ms} (hstate : (s.fan f).state = some .running ∨ (s.fan f).state = some .changing)
    (hsince : (s.fan f).stallSince = some w) (hpassed : s.passed w 1000 = true) :
    stallExpiry f s = runEffect (stallTimedOut f s) :=
  if_pos (by rcases hstate with hstate | hstate <;> simp [State.stallOver, hstate, State.passedOpt, hsince, Config.stallMs, hpassed])

/-- Settles O36: the coast's end after its COAST TIMEOUT, and the stall watch run out. -/
theorem coastAndStallEnd : Obligations.CoastAndStallEnd := by
  refine fun f s => ⟨fun hstate hpassed => ?_, fun hstate w hsince hpassed => ⟨fun hdisabled => ?_, fun henabled hlatch => ?_⟩⟩
  · have hact : FanAct f s (endCoast f (fanEvent f .coastTimeout none none s)) := .after_event (endCoast_act f _)
    have hhanded := endCoast_handedOn (s := fanEvent f .coastTimeout none none s) hstate
    refine ⟨_, rfl, ?_⟩
    rw [coastExpiry_eq hstate hpassed]
    refine ⟨(hhanded.trans (runEffect_handedOn _)).fan f, endCoast_loaded (s := fanEvent f .coastTimeout none none s) hstate,
      fun g hg => hact.others_fixed hg, hact.sameBut_run, (hhanded.trans (runEffect_handedOn _)).2, fun hzero hcalm => ?_,
      fun hpos hmanual _ => ?_⟩
    · rw [endCoast_stops (s := fanEvent f .coastTimeout none none s) hstate hzero hcalm]
      exact ⟨rfl, rfl⟩
    · rw [endCoast_manual (s := fanEvent f .coastTimeout none none s) hpos hmanual]
      refine ⟨fun hfree => ?_, fun hspent => ?_⟩
      · rw [budgetAttempt_permitted (s := fanEvent f .coastTimeout none none s) (.inr hfree)]
        exact ⟨rfl, rfl, rfl⟩
      · have hregime : s.rau.regime ≠ .incident := by rw [hmanual]; decide
        rw [budgetAttempt_spent (s := fanEvent f .coastTimeout none none s) hregime hspent]
        exact ⟨rfl, rfl⟩
  · have hstops : stallTimedOut f s = (s.modFan f fun x => { x with stallSince := none }, []) := by
      rw [stallTimedOut, raiseStall, State.fan_modFan_same]
      exact if_neg (ne_true_of_eq_false hdisabled)
    have hstall : stallExpiry f s = s.setFan f { s.fan f with stallSince := none } := by
      rw [stallExpiry_eq hstate hsince hpassed, hstops, runEffect_nil]
      rfl
    exact congrArg Host.Outcome.next hstall
  · have hpresent : (s.fan f).state.isSome = true := by rcases hstate with hstate | hstate <;> rw [hstate] <;> rfl
    have hnot : (s.fan f).state ≠ some .tripped := by rcases hstate with hstate | hstate <;> rw [hstate] <;> decide
    have hfan := State.fan_modFan_same s f fun x => { x with stallSince := none }
    have htrips : stallTimedOut f s = tripFan f .stall (s.modFan f fun x => { x with stallSince := none }) := by
      rw [stallTimedOut, raiseStall, hfan]
      exact if_pos henabled
    have hpresent' : ((s.modFan f fun x => { x with stallSince := none }).fan f).state.isSome = true := by rw [hfan]; exact hpresent
    have hlatch' : ((s.modFan f fun x => { x with stallSince := none }).fan f).latch = none := by rw [hfan]; exact hlatch
    obtain ⟨r, hrests⟩ := tripFan_rests hpresent' hlatch' .stall
    have hloaded := tripFan_loaded hpresent' hlatch' (by rw [hfan]; exact hnot) .stall
    rw [← htrips] at hrests hloaded
    have hact := stallTimedOut_act f s
    refine ⟨_, rfl, ?_⟩
    rw [stallExpiry_eq hstate hsince hpassed, hrests]
    exact ⟨rfl, rfl, rfl, rfl, countdownsLoaded_of_channels rfl hloaded, fun g hg => hact.others_fixed hg, hact.sameBut_run⟩

end Sys2Proof.Machine

end

/-! PROOFS. The tach (R112–R114): what an edge and a saturated count leave of the fan, and the end tests that follow a measurement. -/

section

namespace Sys2Proof.Machine

theorem State.modFan_modFan (s : State) (f : FanNo) (g k : Fan → Fan) : (s.modFan f g).modFan f k = s.modFan f (fun x => k (g x)) := by
  rw [State.modFan, State.fan_modFan_same]
  simp [State.modFan, State.setFan]

/-- The fan after a rising edge that has completed this measurement. -/
def Fan.timed (x : Fan) (p : Nat) (now : Ms) : Fan :=
  { ({ x with tachLevel := true }.measured (.period p)).regulated p now with tachCount := some 0 }

/-- The fan after a saturated measurement. -/
def Fan.overdue (x : Fan) : Fan := { x.measured .saturated with tachCount := none }

/-! ### A completed measurement -/

theorem exec_risingEdge {f : FanNo} {s : State} {n : Nat} (hcount : (s.fan f).tachCount = some n) (hn : n < 65535) :
    exec (.tachMeasurement f .rising) s =
      .next (runEffect (endTests f (max 1 n) (s.modFan f (·.timed (max 1 n) s.tb.uptime)))) := by
  have hedge : risingEdge f (s.modFan f fun x => { x with tachLevel := true }) =
      endTests f (max 1 n) (s.modFan f (·.timed (max 1 n) s.tb.uptime)) := by
    rw [risingEdge, State.fan_modFan_same]
    simp only [hcount, Config.tachSaturated, if_pos hn, measure, State.modFan_modFan]
    rfl
  exact congrArg (fun e => Host.Outcome.next (runEffect e)) hedge

theorem exec_saturated {f : FanNo} {s : State} (hcount : (s.fan f).tachCount = some 65535) :
    exec (.tachSaturation f) s = .next (runEffect
      (if (s.fan f).state = some .coasting then endCoast f (s.modFan f Fan.overdue) else (s.modFan f Fan.overdue, []))) := by
  have hover : (s.fan f).tachOver = true := by simp [Fan.tachOver, hcount]
  have hsaturates : tachSaturated f s = runEffect (saturate f s) := if_pos hover
  exact congrArg Host.Outcome.next hsaturates

/-! ### The end tests by the fan's state -/

section EndTests

variable {f : FanNo} {u : State}

theorem reachSpeed_handedOn (h : fixedState (u.fan f).state = some .stopped) (p : Nat) : HandedOn u (reachSpeed f p u).1 :=
  (fanEvent_handedOn _ _ _ _ _).trans (moveFan_handedOn f _ _ (toRunning_fixed _ _ h))

theorem endTests_unmoving (hstarting : (u.fan f).state ≠ some .starting) (hchanging : (u.fan f).state ≠ some .changing)
    (hcoasting : (u.fan f).state ≠ some .coasting) (p : Nat) : endTests f p u = (u, []) := by
  unfold endTests
  dsimp only
  split
  · next h => exact absurd h hstarting
  · next h => exact absurd h hchanging
  · next h => exact absurd h hcoasting
  · rfl

theorem endTests_moving (h : (u.fan f).state = some .starting ∨ (u.fan f).state = some .changing) (p : Nat) :
    endTests f p u = if withinBand (u.fan f).cfg (u.fan f).effStage p then reachSpeed f p u else (u, []) := by
  rcases h with h | h <;> simp only [endTests, h]

theorem endTests_coasting (h : (u.fan f).state = some .coasting) (p : Nat) :
    endTests f p u = if (u.fan f).cfg.coastPeriod ≤ p then endCoast f u else (u, []) := by
  simp only [endTests, h]

theorem endTests_handedOn (p : Nat) : HandedOn u (endTests f p u).1 := by
  by_cases hmoving : (u.fan f).state = some .starting ∨ (u.fan f).state = some .changing
  · have hfixed : fixedState (u.fan f).state = some .stopped := by rcases hmoving with h | h <;> rw [h] <;> rfl
    rw [endTests_moving hmoving]
    split
    · exact reachSpeed_handedOn hfixed p
    · exact .refl u
  · by_cases hcoasting : (u.fan f).state = some .coasting
    · rw [endTests_coasting hcoasting]
      split
      · exact endCoast_handedOn hcoasting
      · exact .refl u
    · rw [endTests_unmoving (fun h => hmoving (.inl h)) (fun h => hmoving (.inr h)) hcoasting]
      exact .refl u

/-- A measurement within 8 % of the target: FAN RUNNING, the countdowns and RUNNING. -/
theorem reachSpeed_outcome (h : (u.fan f).state = some .starting ∨ (u.fan f).state = some .changing) (p : Nat) :
    Appended (u.evq.push ⟨u.tb.clock, .fan f, .fanRunning, some (u.fan f).effStage, some (p : Int), false⟩)
        (runEffect (reachSpeed f p u)).evq ∧
      CountdownsLoaded u (runEffect (reachSpeed f p u)) ∧
      (u.rau.regime ≠ .auto ∨ u.cal.phase ≠ .waitingQuiet →
        (runEffect (reachSpeed f p u)).fan f = (u.fan f).toRunning u.tb.uptime) := by
  have hfixed : fixedState (u.fan f).state = some .stopped := by rcases h with h | h <;> rw [h] <;> rfl
  have hfan : (reachSpeed f p u).1.fan f = (u.fan f).toRunning u.tb.uptime := moveFan_fan f _ _
  have hafter : ((reachSpeed f p u).1.fan f).state = some .running := by rw [hfan]; rfl
  refine ⟨(runEffect_handedOn (reachSpeed f p u)).2, (reachSpeed_act f p u).loaded ?_, fun hcalm => ?_⟩
  · rw [hafter]
    rcases h with h | h <;> rw [h] <;> rfl
  · have hsettled := (reachSpeed_act f p u).fans_settled (reachSpeed_handedOn hfixed p) (by rw [hafter]; rfl) hcalm
    rw [runEffect_fan hsettled, hfan]

end EndTests

/-! ### The end of a coast at a measurement -/

theorem stopFan_entry (f : FanNo) (u : State) :
    Appended (u.evq.push ⟨u.tb.clock, .fan f, .fanStop, none, none, false⟩) (runEffect (stopFan f u)).evq :=
  (runEffect_handedOn (stopFan f u)).2

section CoastMeasured

variable {f : FanNo} {s : State} {g : Fan → Fan} (hstate : (g (s.fan f)).state = some .coasting)
  (hstage : (g (s.fan f)).effStage = (s.fan f).effStage) (hcfg : (g (s.fan f)).cfg = (s.fan f).cfg)
  (hhistory : (g (s.fan f)).history = (s.fan f).history) (hdir : (g (s.fan f)).reqDir = (s.fan f).reqDir)

include hcfg hhistory in
theorem windowStamps_modFan : (s.modFan f g).windowStamps f = s.windowStamps f := by
  rw [State.windowStamps, State.fan_modFan_same, hcfg, hhistory]
  rfl

include hstate hstage hcfg hhistory hdir

/-- The coast's end after a change of the fan that leaves what it follows. -/
theorem endCoast_measured : ∃ t, Host.Outcome.next (runEffect (endCoast f (s.modFan f g))) =
      (Host.Outcome.next t : Host.Outcome State Fault Refusal) ∧ CountdownsLoaded s t ∧
    ((s.fan f).effStage = 0 → Appended (s.evq.push ⟨s.tb.clock, .fan f, .fanStop, none, none, false⟩) t.evq ∧
      (s.rau.regime ≠ .auto ∨ s.cal.phase ≠ .waitingQuiet → (t.fan f).state = some .stopped ∧ (t.fan f).run = false)) ∧
    (0 < (s.fan f).effStage → s.rau.regime = .manual →
      ((s.windowStamps f).length < (s.fan f).cfg.budget → (t.fan f).state = some .starting ∧
        (t.fan f).run = true ∧ (t.fan f).dirOut = (s.fan f).reqDir ∧
        (t.fan f).drive = (s.fan f).cfg.feedForward (s.fan f).effStage) ∧
      ((s.fan f).cfg.budget ≤ (s.windowStamps f).length → (t.fan f).state = some .waitingBudget ∧
        (t.fan f).run = false ∧ Appended (s.evq.push ⟨s.tb.clock, .fan f, .budgetWait, none,
          some (s.waitSeconds (s.fan f).cfg (s.windowStamps f) : Int), false⟩) t.evq)) := by
  have hfan := State.fan_modFan_same s f g
  have hcoasting : ((s.modFan f g).fan f).state = some .coasting := by rw [hfan, hstate]
  have hwindow := windowStamps_modFan hcfg hhistory
  refine ⟨_, rfl, countdownsLoaded_of_channels rfl (endCoast_loaded hcoasting), fun hzero => ?_, fun hpos hmanual => ?_⟩
  · have hzero' : ((s.modFan f g).fan f).effStage = 0 := by rw [hfan, hstage, hzero]
    refine ⟨?_, fun hcalm => ?_⟩
    · rw [endCoast, if_neg (by omega)]
      exact stopFan_entry f (s.modFan f g)
    · rw [endCoast_stops hcoasting hzero' hcalm]
      exact ⟨rfl, rfl⟩
  · have hpos' : 0 < ((s.modFan f g).fan f).effStage := by rw [hfan, hstage]; exact hpos
    have hcfg' : ((s.modFan f g).fan f).cfg = (s.fan f).cfg := by rw [hfan, hcfg]
    rw [endCoast_manual hpos' hmanual]
    refine ⟨fun hfree => ?_, fun hspent => ?_⟩
    · rw [budgetAttempt_permitted (.inr (by rw [hwindow, hcfg']; exact hfree)), hfan]
      refine ⟨rfl, rfl, hdir, ?_⟩
      change (g (s.fan f)).cfg.feedForward (g (s.fan f)).effStage = _
      rw [hcfg, hstage]
    · have hregime : s.rau.regime ≠ .incident := by rw [hmanual]; decide
      have hspent' : ((s.modFan f g).fan f).cfg.budget ≤ ((s.modFan f g).windowStamps f).length := by
        rw [hwindow, hcfg']
        exact hspent
      rw [budgetAttempt_spent (s := s.modFan f g) hregime hspent']
      refine ⟨rfl, rfl, ?_⟩
      have hentry := budgetAttempt_spent_entry (s := s.modFan f g) hregime hspent'
      rw [hwindow, hcfg'] at hentry
      rw [endCoast, if_pos hpos']
      exact hentry

end CoastMeasured

/-! ### The statement -/

/-- What a completed measurement leaves alone and what it sets, whatever the fan's state. -/
theorem measured_fixed {f : FanNo} {s : State} {p : Nat} {t : State}
    (ht : t = runEffect (endTests f p (s.modFan f (·.timed p s.tb.uptime)))) :
    (t.fan f).fixed = ((s.fan f).timed p s.tb.uptime).fixed ∧ (∀ g : FanNo, g ≠ f → (t.fan g).fixed = (s.fan g).fixed) ∧
      (∀ c : ChanNo, (t.ch c).fixed = (s.ch c).fixed) ∧ sameBut Part.reached s t := by
  have hact : FanAct f s (endTests f p (s.modFan f (·.timed p s.tb.uptime))) := .after_change rfl (endTests_act f p _)
  have hhanded := (endTests_handedOn (f := f) (u := s.modFan f (·.timed p s.tb.uptime)) p).trans (runEffect_handedOn _)
  have hfan := hhanded.fan f
  rw [State.fan_modFan_same] at hfan
  rw [ht]
  exact ⟨hfan, fun g hg => hact.others_fixed hg, hact.channels_fixed, hact.sameBut_run⟩

theorem saturated_fixed {f : FanNo} {s t : State} (ht : t = runEffect
      (if (s.fan f).state = some .coasting then endCoast f (s.modFan f Fan.overdue) else (s.modFan f Fan.overdue, []))) :
    (t.fan f).fixed = (s.fan f).overdue.fixed ∧ (∀ g : FanNo, g ≠ f → (t.fan g).fixed = (s.fan g).fixed) ∧
      (∀ c : ChanNo, (t.ch c).fixed = (s.ch c).fixed) ∧ sameBut Part.reached s t := by
  have hhanded : HandedOn (s.modFan f Fan.overdue)
      (if (s.fan f).state = some .coasting then endCoast f (s.modFan f Fan.overdue) else (s.modFan f Fan.overdue, [])).1 := by
    split
    · next hcoasting => exact endCoast_handedOn (by rw [State.fan_modFan_same]; exact hcoasting)
    · exact .refl _
  have hact : FanAct f s (if (s.fan f).state = some .coasting then endCoast f (s.modFan f Fan.overdue)
      else (s.modFan f Fan.overdue, [])) := saturate_act f s
  have hfan := (hhanded.trans (runEffect_handedOn _)).fan f
  rw [State.fan_modFan_same] at hfan
  rw [ht]
  exact ⟨hfan, fun g hg => hact.others_fixed hg, hact.channels_fixed, hact.sameBut_run⟩

/-- Settles O34: an edge that completes nothing, a measurement with its end tests, a saturated count, and the two ways in which a
measurement ends a coast. -/
theorem tachMeasures : Obligations.TachMeasures := by
  intro f s
  refine ⟨rfl, fun hcount => ?_, fun n p drive hcount hn hp hdrive => ?_, fun hcount => ?_, fun i hi hstate => ?_⟩
  · have hedge : risingEdge f (s.modFan f fun x => { x with tachLevel := true }) =
        (s.modFan f fun x => { x with tachLevel := true, tachCount := some 0 }, []) := by
      rw [risingEdge, State.fan_modFan_same]
      simp only [hcount, State.modFan_modFan]
    refine (congrArg (fun e => Host.Outcome.next (runEffect e)) hedge).trans ?_
    dsimp only
    rw [runEffect_nil]
    rfl
  · subst hp hdrive
    obtain ⟨hfixed, hothers, hchannels, hsame⟩ := measured_fixed (f := f) (s := s) (p := max 1 n) rfl
    have hfan := State.fan_modFan_same s f (·.timed (max 1 n) s.tb.uptime)
    refine ⟨_, exec_risingEdge hcount hn, (congrArg Fan.reading hfixed :), (congrArg Fan.tachCount hfixed :),
      (congrArg Fan.tachLevel hfixed :), (congrArg Fan.cfg hfixed :), hothers, hchannels, hsame, fun hstate => ?_,
      fun hstate hband => ?_, fun hstate hband => ?_, fun hstate hfast => ?_⟩
    · have hafter : ((s.modFan f (·.timed (max 1 n) s.tb.uptime)).fan f).state = some .running := by rw [hfan]; exact hstate
      rw [endTests_unmoving (by rw [hafter]; decide) (by rw [hafter]; decide) (by rw [hafter]; decide), runEffect_nil, hfan]
      simp only [Fan.timed, Fan.regulated, Fan.measured, hstate]
      exact ⟨rfl, rfl, rfl, rfl, rfl, rfl⟩
    · have hafter : ((s.modFan f (·.timed (max 1 n) s.tb.uptime)).fan f).state = some .starting ∨
          ((s.modFan f (·.timed (max 1 n) s.tb.uptime)).fan f).state = some .changing := by rw [hfan]; exact hstate
      have hbeyond : ¬withinBand ((s.modFan f (·.timed (max 1 n) s.tb.uptime)).fan f).cfg
          ((s.modFan f (·.timed (max 1 n) s.tb.uptime)).fan f).effStage (max 1 n) = true := by
        rw [hfan]
        exact ne_true_of_eq_false hband
      rw [endTests_moving hafter, if_neg hbeyond, runEffect_nil, hfan]
      refine ⟨rfl, ?_, rfl, rfl, rfl, rfl⟩
      rcases hstate with hstate | hstate <;> simp only [Fan.timed, Fan.regulated, Fan.measured, hstate] <;> rfl
    · have hafter : ((s.modFan f (·.timed (max 1 n) s.tb.uptime)).fan f).state = some .starting ∨
          ((s.modFan f (·.timed (max 1 n) s.tb.uptime)).fan f).state = some .changing := by rw [hfan]; exact hstate
      obtain ⟨hentry, hloaded, hruns⟩ := reachSpeed_outcome hafter (max 1 n)
      have hwithin : withinBand ((s.modFan f (·.timed (max 1 n) s.tb.uptime)).fan f).cfg
          ((s.modFan f (·.timed (max 1 n) s.tb.uptime)).fan f).effStage (max 1 n) = true := by
        rw [hfan]
        exact hband
      rw [endTests_moving hafter, if_pos hwithin]
      rw [hfan] at hentry hruns
      refine ⟨hentry, countdownsLoaded_of_channels rfl hloaded, fun hcalm => ?_⟩
      rw [hruns hcalm]
      refine ⟨rfl, rfl, ?_, rfl, ?_⟩ <;> rcases hstate with hstate | hstate <;>
        simp only [Fan.toRunning, Fan.timed, Fan.regulated, Fan.measured, hstate] <;> rfl
    · have hafter : ((s.modFan f (·.timed (max 1 n) s.tb.uptime)).fan f).state = some .coasting := by rw [hfan]; exact hstate
      have hbelow : ¬((s.modFan f (·.timed (max 1 n) s.tb.uptime)).fan f).cfg.coastPeriod ≤ max 1 n := by
        rw [hfan]
        exact Nat.not_le.mpr hfast
      rw [endTests_coasting hafter, if_neg hbelow, runEffect_nil, hfan]
      exact ⟨hstate, rfl⟩
  · obtain ⟨hfixed, hothers, hchannels, hsame⟩ := saturated_fixed (f := f) (s := s) rfl
    refine ⟨_, exec_saturated hcount, (congrArg Fan.reading hfixed :), (congrArg Fan.tachCount hfixed :), hothers, hchannels, hsame,
      fun hstate => ?_⟩
    rw [if_neg hstate, runEffect_nil]
    rfl
  · rcases hi with ⟨rfl, hcount⟩ | ⟨rfl, n, hcount, hn, hslow⟩
    · rw [exec_saturated hcount, if_pos hstate]
      exact endCoast_measured hstate rfl rfl rfl rfl
    · have hafter : ((s.modFan f (·.timed (max 1 n) s.tb.uptime)).fan f).state = some .coasting := by
        rw [State.fan_modFan_same]
        exact hstate
      have hbeyond : ((s.modFan f (·.timed (max 1 n) s.tb.uptime)).fan f).cfg.coastPeriod ≤ max 1 n := by
        rw [State.fan_modFan_same]
        exact hslow
      rw [exec_risingEdge hcount hn, endTests_coasting hafter, if_pos hbeyond]
      exact endCoast_measured hstate rfl rfl rfl rfl

end Sys2Proof.Machine

end

/-! PROOFS. The starts that fall due in WAITING BUDGET (R139, R141): their recheck, and what the RAU's grant of them leaves. -/

section

namespace Sys2Proof.Machine

/-! ### Starts granted outside AUTO -/

/-- The fan after its due start has been granted, where one is due. -/
def Fan.granted (x : Fan) (now : Ms) : Fan :=
  if x.state = some .waitingBudget ∧ x.startDue = true then x.toStarting now else x

theorem grantStart_fan (f : FanNo) (s : State) : (grantStart f s).1.fan f = (s.fan f).granted s.tb.uptime := by
  unfold grantStart Fan.granted
  split
  · exact moveFan_fan f _ s
  · rfl

theorem granted_twice (x : Fan) (now : Ms) : (x.granted now).granted now = x.granted now := by
  unfold Fan.granted
  split
  · rfl
  · rfl

/-- Outside AUTO a grant starts its own fan, where a start is due, and no other. -/
theorem run_grant_fan {s : State} (hregime : s.rau.regime ≠ .auto) (f k : FanNo) :
    (run [.grant f] s).fan k = if k = f then (s.fan k).granted s.tb.uptime else s.fan k := by
  have hact := grantStart_act f s
  have hfans : (run [.grant f] s).fans = (grantStart f s).1.fans := by
    rw [run_singleton]
    exact hact.fans_outsideAuto hregime
  rw [State.fan, hfans, ← State.fan]
  split
  · next hk => rw [hk]; exact grantStart_fan f s
  · next hk => exact hact.others k hk

/-- Grants in any order start every fan of theirs whose start is due. -/
theorem run_grants_fan (fs : List FanNo) {s : State} (hregime : s.rau.regime ≠ .auto) (k : FanNo) :
    (run (fs.map Work.grant) s).fan k = if k ∈ fs then (s.fan k).granted s.tb.uptime else s.fan k := by
  induction fs generalizing s with
  | nil => simp
  | cons f fs ih =>
    have hnone : (fs.map Work.grant).any Work.handsFan = false := by simp [Work.handsFan]
    have hrun : run ((f :: fs).map Work.grant) s = run (fs.map Work.grant) (run [.grant f] s) := run_append [.grant f] hnone s
    have hhanded := run_handedOn [.grant f] s
    rw [hrun, ih (by rw [hhanded.regime]; exact hregime), hhanded.tb, run_grant_fan hregime]
    by_cases hk : k = f
    · subst hk
      simp [granted_twice]
    · simp [hk]

theorem run_grantDue {s : State} (h : s.mayGrant = true) : run [.grantDue] s = run ([0, 1, 2, 3].map Work.grant) s := by
  rw [run_singleton, perform, h]
  rfl

theorem run_grantDue_withheld {s : State} (h : s.mayGrant = false) : run [.grantDue] s = s := by
  rw [run_singleton, perform, h]
  exact run_nil s

/-- MANUAL grants every due start at once. -/
theorem run_grantDue_manual {s : State} (hmanual : s.rau.regime = .manual) (k : FanNo) :
    (run [.grantDue] s).fan k = (s.fan k).granted s.tb.uptime := by
  have hgrants : s.mayGrant = true := by simp [State.mayGrant, hmanual]
  have hall : k ∈ [0, 1, 2, 3] := mem_allFans k
  rw [run_grantDue hgrants, run_grants_fan _ (by rw [hmanual]; decide), if_pos hall]

/-! ### The recheck -/

theorem granted_fixed (x : Fan) (now : Ms) : (x.granted now).fixed = x.fixed := by
  unfold Fan.granted
  split
  · next h => exact toStarting_fixed x now (by rw [h.1]; rfl)
  · rfl

section Recheck

variable {f : FanNo} {s : State} (hstate : (s.fan f).state = some .waitingBudget) (hdue : (s.fan f).startDue = false)
  (haged : (s.windowStamps f).length < (s.fan f).history.length)

include hstate hdue haged

theorem exec_budgetRecheck : exec (.budgetRecheck f) s = .next (runEffect (recheckBudget f s)) :=
  congrArg Host.Outcome.next (if_pos (by simp [State.budgetOver, hstate, hdue, haged]))

theorem exec_budgetRecheck_free (hfree : (s.windowStamps f).length < (s.fan f).cfg.budget) : exec (.budgetRecheck f) s =
    .next (run [.grantDue] (s.setFan f { s.fan f with history := s.windowStamps f, startDue := true })) := by
  rw [exec_budgetRecheck hstate hdue haged, recheckBudget]
  simp only [if_pos hfree]
  rfl

theorem exec_budgetRecheck_spent (hspent : (s.fan f).cfg.budget ≤ (s.windowStamps f).length) : exec (.budgetRecheck f) s =
    .next (appendEvent (.fan f) .budgetWait none (some (s.waitSeconds (s.fan f).cfg (s.windowStamps f) : Int))
      (s.setFan f { s.fan f with history := s.windowStamps f })) := by
  rw [exec_budgetRecheck hstate hdue haged, recheckBudget]
  simp only [if_neg (Nat.not_lt.mpr hspent), runEffect_nil]
  rfl

end Recheck

/-- Settles O37: the start that falls due, granted by MANUAL and held back otherwise, or the further wait. -/
theorem budgetRechecked : Obligations.BudgetRechecked := by
  intro f s hstate hdue haged
  refine ⟨fun hfree => ⟨_, exec_budgetRecheck_free hstate hdue haged hfree, run_handedOn _ _⟩,
    fun hfree hmanual => ⟨_, exec_budgetRecheck_free hstate hdue haged hfree, ?_⟩, fun hfree hheld => ?_,
    exec_budgetRecheck_spent hstate hdue haged⟩
  · have hfan : (s.setFan f { s.fan f with history := s.windowStamps f, startDue := true }).fan f =
        { s.fan f with history := s.windowStamps f, startDue := true } := State.fan_setFan_same s f _
    have hothers : ∀ g : FanNo, g ≠ f →
        (s.setFan f { s.fan f with history := s.windowStamps f, startDue := true }).fan g = s.fan g := fun g hg => by
      rw [State.fan_setFan, if_neg hg]
    have hgranted := run_grantDue_manual (s := s.setFan f { s.fan f with history := s.windowStamps f, startDue := true }) hmanual
    have hstarts : Fan.granted { s.fan f with history := s.windowStamps f, startDue := true } s.tb.uptime =
        Fan.toStarting { s.fan f with history := s.windowStamps f, startDue := true } s.tb.uptime := if_pos ⟨hstate, rfl⟩
    rw [hgranted f, hfan]
    refine ⟨?_, ?_, ?_, ?_, ?_, fun g hg => ?_, ?_⟩
    case _ => exact congrArg Fan.state hstarts
    case _ => exact congrArg Fan.run hstarts
    case _ => exact congrArg Fan.dirOut hstarts
    case _ => exact congrArg Fan.startDue hstarts
    case _ => exact congrArg Fan.history hstarts
    · rw [hgranted g, granted_fixed, hothers g hg]
    · exact ((modFan_alters f (fun _ => { s.fan f with history := s.windowStamps f, startDue := true }) s).run (by decide) _).1
  · refine (exec_budgetRecheck_free hstate hdue haged hfree).trans (congrArg _ (run_grantDue_withheld ?_))
    rcases hheld with hincident | ⟨hauto, hheld⟩
    · simp [State.mayGrant, hincident]
    · have hheld' : (s.setFan f { s.fan f with history := s.windowStamps f, startDue := true }).heldBack = true := hheld
      simp [State.mayGrant, hauto, hheld']

end Sys2Proof.Machine

end

/-! PROOFS. The head of the calibration queue under hand-overs (R82, R83, R89): the hand-overs that the RAU takes without moving a
fan, and the next head as an equation. -/

section

namespace Sys2Proof.Machine

/-! ### Hand-overs that end in the RAU -/

/-- The hand-overs that the RAU takes by itself; in AUTO, with its re-evaluation and the grant of starts. -/
def Work.rauOwn (auto : Bool) (w : Work) : Bool :=
  match w with
  | .contribution _ | .calEnded _ | .availability | .demandShort => true
  | .reevaluate | .grantDue => auto
  | .fanMoved _ _ _ | .startAttempt _ | .handFan _ | .handRegime _ | .nextHead | .quietTest | .reform | .giveRole _ | .grant _ => false

/-- All of these hand-overs end in the RAU. -/
abbrev RauOwn (s : State) (ws : List Work) : Prop := ws.all (Work.rauOwn (s.rau.regime == .auto)) = true

/-- The RAU moves no fan: outside AUTO, and in AUTO while the deferral holds and no step of the table is urgent (R165, R166). -/
abbrev State.withheld (s : State) : Prop :=
  s.rau.regime ≠ .auto ∨ (s.cal.phase.airOn = true ∧ ∀ st ∈ s.rau.steps, st.threshold < s.rau.urgentIndex)

theorem urgent_of_steps {s : State} (h : ∀ st ∈ s.rau.steps, st.threshold < s.rau.urgentIndex) : s.urgent = false := by
  unfold State.urgent
  split
  · rfl
  · split
    · rfl
    · next st hat => simpa using h st (List.mem_of_getElem? hat)

theorem heldBack_of_withheld {s : State} (h : s.withheld) (hauto : s.rau.regime = .auto) : s.heldBack = true := by
  obtain ⟨hair, hsteps⟩ := h.resolve_left (by simp [hauto])
  simp [State.heldBack, State.deferral, hauto, hair, urgent_of_steps hsteps]

/-- The re-evaluation of a RAU that is held back hands nothing to the fans (R165). -/
theorem reevaluate_heldBack {s : State} (h : s.heldBack = true) : (reevaluate s).2 = [] ∨ (reevaluate s).2 = afterAllocation := by
  simp only [reevaluate, h, Bool.not_true, Bool.and_false, Bool.false_eq_true, if_false, if_true]
  split_ifs <;> simp

theorem mayGrant_heldBack {s : State} (hauto : s.rau.regime = .auto) (h : s.heldBack = true) : s.mayGrant = false := by
  simp [State.mayGrant, hauto, h]

theorem rauOwn_append {s : State} {ws vs : List Work} (h : RauOwn s ws) (k : RauOwn s vs) : RauOwn s (ws ++ vs) := by
  rw [RauOwn, List.all_append, h, k]
  rfl

theorem rauOwn_cons {s : State} {w : Work} {ws : List Work} :
    RauOwn s (w :: ws) ↔ w.rauOwn (s.rau.regime == .auto) = true ∧ RauOwn s ws := by
  rw [RauOwn, List.all_cons, Bool.and_eq_true]

theorem contributes_rauOwn (s u : State) (c : ChanNo) : RauOwn s (contributes u c) := by
  unfold contributes
  split <;> rfl

theorem perform_rauOwn {w : Work} {s : State} (h : s.withheld) (hw : w.rauOwn (s.rau.regime == .auto) = true) :
    Alters rauParts s (perform w s).1 ∧ RauOwn s (perform w s).2 := by
  cases w with
  | contribution c =>
    refine ⟨takeContribution_alters c s, ?_⟩
    simp only [perform, receiveContribution]
    split
    · next hauto => simp [Work.rauOwn, hauto]
    · rfl
  | calEnded c =>
    refine ⟨receiveCalEnd_alters c s, ?_⟩
    simp only [perform, receiveCalEnd]
    split
    · next hauto => simp [Work.rauOwn, hauto]
    · rfl
  | availability =>
    refine ⟨.refl _ s, ?_⟩
    simp only [perform]
    split
    · next hauto => simp [Work.rauOwn, hauto]
    · rfl
  | demandShort => exact ⟨evaluateShort_alters s, rfl⟩
  | reevaluate =>
    have hauto : s.rau.regime = .auto := by simpa [Work.rauOwn] using hw
    refine ⟨reevaluate_alters s, ?_⟩
    rcases reevaluate_heldBack (heldBack_of_withheld h hauto) with hnone | hafter
    · simp [perform, hnone]
    · simp [perform, hafter, afterAllocation, Work.rauOwn, hauto]
  | grantDue =>
    have hauto : s.rau.regime = .auto := by simpa [Work.rauOwn] using hw
    refine ⟨.refl _ s, ?_⟩
    simp [perform, mayGrant_heldBack hauto (heldBack_of_withheld h hauto)]
  | fanMoved f a b | startAttempt f | handFan f | handRegime f | nextHead | quietTest | reform | giveRole f | grant f => exact nomatch hw

theorem HandedOn.withheld {s t : State} (h : HandedOn s t) (hcal : t.cal = s.cal) (k : s.withheld) : t.withheld := by
  have hsteps : t.rau.steps = s.rau.steps := (congrArg Rau.steps h.rau :)
  rw [State.withheld, h.regime, hcal, hsteps, h.urgentIndex]
  exact k

/-- Hand-overs that end in a RAU that moves no fan alter its record and the event queue alone. -/
theorem run_rauOwn {ws : List Work} {s : State} (h : s.withheld) (hws : RauOwn s ws) : Alters rauParts s (run ws s) := by
  refine (run_induction (J := fun vs t => Alters rauParts s t ∧ HandedOn s t ∧ RauOwn s vs) ?_ ?_ ⟨.refl _ s, .refl s, hws⟩).1
  · rintro rest t ⟨halters, hhanded, hown⟩
    exact ⟨halters, hhanded, (rauOwn_cons.mp hown).2⟩
  · rintro w rest t ⟨halters, hhanded, hown⟩
    obtain ⟨hw, hrest⟩ := rauOwn_cons.mp hown
    have hregime : t.rau.regime = s.rau.regime := hhanded.regime
    obtain ⟨hstep, hworks⟩ := perform_rauOwn (hhanded.withheld (halters.1 .cal (by decide)) h) (by rw [hregime]; exact hw)
    rw [RauOwn, hregime] at hworks
    exact ⟨halters.trans hstep, hhanded.trans (perform_handedOn w t), rauOwn_append hworks hrest⟩

/-! ### The next head -/

section NextHead

variable {s : State}

theorem run_nextHead_none (hqueue : s.cal.queue = []) (ws : List Work) : run (.nextHead :: ws) s = run ws s := by
  rw [run_cons (postponed_of_ne (by decide) ws)]
  simp [perform, nextHead, Cal.head, hqueue]

variable {e : CalEntry} {rest : List CalEntry} (hqueue : s.cal.queue = e :: rest) (hphase : s.cal.phase = .none)

include hqueue hphase

theorem run_nextHead_waits (hmoving : s.fansMoving = true) (ws : List Work) :
    run (.nextHead :: ws) s = run ws { s with cal := { s.cal with phase := .waitingQuiet } } := by
  have hhead : s.cal.head = some e := by simp [Cal.head, hqueue]
  have hhead' : Cal.head { s.cal with phase := .waitingQuiet } = some e := hhead
  have hmoving' : State.fansMoving { s with cal := { s.cal with phase := .waitingQuiet } } = true := hmoving
  rw [run_cons (postponed_of_ne (by decide) ws)]
  simp only [perform, nextHead, hhead, if_pos hphase, List.cons_append, List.nil_append]
  rw [run_cons (postponed_of_ne (by decide) ws)]
  simp [perform, quietTest, hhead', hmoving']

theorem run_nextHead_purges (hquiet : s.fansMoving = false) (ws : List Work) :
    run (.nextHead :: ws) s = run (contributes s e.channel ++ ws) (enterPurging e s) := by
  have hhead : s.cal.head = some e := by simp [Cal.head, hqueue]
  have hhead' : Cal.head { s.cal with phase := .waitingQuiet } = some e := hhead
  have hquiet' : State.fansMoving { s with cal := { s.cal with phase := .waitingQuiet } } = false := hquiet
  rw [run_cons (postponed_of_ne (by decide) ws)]
  simp only [perform, nextHead, hhead, if_pos hphase, List.cons_append, List.nil_append]
  rw [run_cons (postponed_of_ne (by decide) ws)]
  simp only [perform, quietTest, hhead', hquiet', and_self, if_true]
  rfl

end NextHead

end Sys2Proof.Machine

end

/-! PROOFS. ZERO (R77–R80): the entry that joins the queue, and the first entry of an empty queue as its head at once. -/

section

namespace Sys2Proof.Machine

/-! ### The first entry of an empty queue (R79, R82, R83) -/

/-- From s to t the channel's head has entered PURGING, and the RAU alone has heard of it. -/
structure Purges (e : CalEntry) (s t : State) : Prop where
  cal : t.cal = (enterPurging e s).cal
  channels : t.channels = (enterPurging e s).channels

theorem enterPurging_calibrating (e : CalEntry) (s : State) : ((enterPurging e s).ch e.channel).flags.calibrating = true := by
  change ((s.modCh e.channel (·.setCalibrating true)).ch e.channel).flags.calibrating = true
  rw [State.ch_modCh, if_pos rfl]
  rfl

namespace Purges

variable {e : CalEntry} {s t : State} (h : Purges e s t)

include h

theorem calibrating : (t.ch e.channel).flags.calibrating = true := by
  rw [State.ch, h.channels]
  exact enterPurging_calibrating e s

theorem phase : t.cal.phase = .purging := by rw [h.cal]; rfl

theorem valve : t.cal.valve = true := by rw [h.cal]; rfl

theorem headSelect : t.cal.headSelect = e.channel := by rw [h.cal]; rfl

theorem queue : t.cal.queue = s.cal.queue := by rw [h.cal]; rfl

theorem purgeStart : t.cal.purgeStart = s.tb.uptime := by rw [h.cal]; rfl

theorem purgeTime : t.cal.purgeTime = (s.ch e.channel).cfg.purgeTime e.type := by rw [h.cal]; rfl

end Purges

/-- The hand-over of a head in PURGING moves no fan: the RAU is held back, or hears of no channel. -/
abbrev State.purgeUnheard (s : State) (c : ChanNo) : Prop :=
  s.rau.regime ≠ .auto ∨ (s.ch c).cfg.participates = false ∨ ∀ st ∈ s.rau.steps, st.threshold < s.rau.urgentIndex

theorem run_contributes_purged {e : CalEntry} {s : State} (h : s.purgeUnheard e.channel) :
    Purges e s (run (contributes s e.channel) (enterPurging e s)) := by
  have halters : Alters rauParts (enterPurging e s) (run (contributes s e.channel) (enterPurging e s)) := by
    have hown := contributes_rauOwn (enterPurging e s) s e.channel
    rcases h with hregime | hapart | hsteps
    · exact run_rauOwn (.inl hregime) hown
    · rw [contributes, if_neg (by simp [hapart]), run_nil]
      exact .refl _ _
    · exact run_rauOwn (.inr ⟨rfl, hsteps⟩) hown
  exact ⟨halters.1 .cal (by decide), halters.1 .channels (by decide)⟩

section Enqueue

variable {c : ChanNo} {t : CalType} {s : State}

theorem enqueue_behind (h : s.cal.queue ≠ []) : runEffect (enqueue c t s) =
    { s with cal := { s.cal with queue := s.cal.queue ++ [⟨c, t, false⟩] } } := by
  simp [enqueue, h]

theorem enqueue_handedOn (c : ChanNo) (t : CalType) (s : State) : HandedOn s (runEffect (enqueue c t s)) :=
  (cal_handedOn _ s rfl).trans (runEffect_handedOn (enqueue c t s))

variable (hqueue : s.cal.queue = []) (hphase : s.cal.phase = .none)

include hqueue hphase

theorem enqueue_first_waits (hmoving : s.fansMoving = true) : runEffect (enqueue c t s) =
    { s with cal := { s.cal with queue := [⟨c, t, false⟩], phase := .waitingQuiet } } := by
  have hwaits := run_nextHead_waits (s := { s with cal := { s.cal with queue := [⟨c, t, false⟩] } }) rfl hphase hmoving []
  simp only [runEffect, enqueue, hqueue, List.isEmpty_nil, if_true, List.nil_append]
  rw [hwaits, run_nil]

theorem enqueue_first_purges (hquiet : s.fansMoving = false) (h : s.purgeUnheard c) :
    Purges ⟨c, t, false⟩ { s with cal := { s.cal with queue := [⟨c, t, false⟩] } } (runEffect (enqueue c t s)) := by
  have hpurges := run_nextHead_purges (s := { s with cal := { s.cal with queue := [⟨c, t, false⟩] } }) rfl hphase hquiet []
  simp only [runEffect, enqueue, hqueue, List.isEmpty_nil, if_true, List.nil_append]
  rw [hpurges, List.append_nil]
  exact run_contributes_purged (e := ⟨c, t, false⟩) h

end Enqueue

/-! ### The addressed request -/

@[simp] theorem zeroBarred_contact (s : State) (c : ChanNo) : zeroBarred (contact s) c = zeroBarred s c := by
  simp [zeroBarred, State.inScanList]

@[simp] theorem fansMoving_contact (s : State) : (contact s).fansMoving = s.fansMoving := by
  simp [State.fansMoving]

@[simp] theorem zeroEligible_contact (s : State) (c : ChanNo) : zeroEligible (contact s) c = zeroEligible s c := by
  simp [zeroEligible]

theorem purgeUnheard_contact {s : State} {c : ChanNo} (h : s.purgeUnheard c) : (contact s).purgeUnheard c := by
  simpa [State.purgeUnheard] using h

theorem exec_zero {s : State} (hready : s.ready) (c : ChanNo) (ty : Byte) :
    exec (.zero .addressed [byte c.val, ty]) s = .next (beginService 0x20 (zeroChannel c ty.toNat (contact s))) := by
  rw [exec_served hready rfl rfl rfl]
  simp [serveOf, serveZero, toNat_byte_fin]

section Channel

variable {c : ChanNo} {s : State} (code : Nat)

theorem zeroChannel_barred (h : zeroBarred s c = true) : zeroChannel c code s = refuse .notNow s := if_pos h

variable (h : zeroBarred s c = false)

include h

theorem zeroChannel_inconsistent (hkind : (s.ch c).cfg.kind.calibratable = false) : zeroChannel c code s = refuse .inconsistent s := by
  simp [zeroChannel, h, hkind]

theorem zeroChannel_accepted (hkind : (s.ch c).cfg.kind.calibratable = true) {t : CalType}
    (ht : t = takenType s c (.ofCode code)) : zeroChannel c code s =
      answer (t.code != code) [byte c.val, byte t.code, byte s.cal.queue.length] (runEffect (enqueue c t s)) := by
  simp [zeroChannel, h, hkind, ht]

end Channel

theorem takenType_eq (s : State) (c : ChanNo) (ty : Byte) :
    takenType s c (.ofCode ty.toNat) = if ty = 0 ∨ s.cal.longDone[c] = false then .long else .short := by
  simp only [byte_eq_zero_iff]
  by_cases hzero : ty.toNat = 0
  · simp [takenType, CalType.ofCode, hzero]
  · cases hdone : s.cal.longDone[c] <;> simp [takenType, CalType.ofCode, hzero, hdone]

theorem takenType_short (s : State) (c : ChanNo) : takenType s c .short = if s.cal.longDone[c] then .short else .long := rfl

/-! ### The group request (R80) -/

/-- The entry that a group ZERO queues of a channel. -/
def groupEntry (s : State) (c : ChanNo) : CalEntry := ⟨c, takenType s c .short, false⟩

/-- What eligibility reads apart from the queue is as it was. -/
structure ZeroReads (s t : State) : Prop where
  regime : t.rau.regime = s.rau.regime
  span : t.cal.span = s.cal.span
  longDone : t.cal.longDone = s.cal.longDone
  cfg : ∀ c, (t.ch c).cfg = (s.ch c).cfg
  scn : t.scn = s.scn

theorem HandedOn.zeroReads {s t : State} (h : HandedOn s t) : ZeroReads s t where
  regime := h.regime
  span := (congrArg Cal.span h.cal :)
  longDone := (congrArg Cal.longDone h.cal :)
  cfg c := (congrArg Channel.cfg (h.ch c) :)
  scn := h.scn

namespace ZeroReads

variable {s t : State} (h : ZeroReads s t)

include h

theorem groupEntry (c : ChanNo) : groupEntry t c = groupEntry s c := by
  rw [Machine.groupEntry, takenType_short, h.longDone]
  rfl

theorem eligible {c : ChanNo} (hqueued : t.cal.queued c = s.cal.queued c) : zeroEligible t c = zeroEligible s c := by
  simp only [zeroEligible, zeroBarred, State.inSession, State.inScanList, h.regime, h.span, h.cfg, h.scn, hqueued]

end ZeroReads

theorem queued_appended {k : Cal} {e : CalEntry} {c : ChanNo} (hc : c ≠ e.channel) :
    Cal.queued { k with queue := k.queue ++ [e] } c = k.queued c := by
  simp [Cal.queued, Ne.symm hc]

theorem groupZeroChannel_ineligible {s : State} {c : ChanNo} (h : zeroEligible s c = false) : groupZeroChannel s c = s := by
  simp [groupZeroChannel, h]

theorem groupZeroChannel_eligible {s : State} {c : ChanNo} (h : zeroEligible s c = true) :
    groupZeroChannel s c = runEffect (enqueue c (takenType s c .short) s) := if_pos h

/-- Behind a head the eligible channels of a list join the queue in its order. -/
theorem foldl_groupZero_behind (cs : List ChanNo) {s : State} (hqueue : s.cal.queue ≠ []) (hnodup : cs.Nodup) :
    cs.foldl groupZeroChannel s =
      { s with cal := { s.cal with queue := s.cal.queue ++ (cs.filter (zeroEligible s)).map (groupEntry s) } } := by
  induction cs generalizing s with
  | nil => simp
  | cons c cs ih =>
    obtain ⟨hc, hrest⟩ := List.nodup_cons.mp hnodup
    rw [List.foldl_cons]
    cases heligible : zeroEligible s c with
    | false =>
      rw [groupZeroChannel_ineligible heligible, ih hqueue hrest, List.filter_cons_of_neg (by simp [heligible])]
    | true =>
      rw [groupZeroChannel_eligible heligible, enqueue_behind hqueue, ih (by simp) hrest, List.filter_cons_of_pos heligible]
      have hreads : ZeroReads s { s with cal := { s.cal with queue := s.cal.queue ++ [groupEntry s c] } } := ⟨rfl, rfl, rfl, fun _ => rfl, rfl⟩
      have hfilter : cs.filter (zeroEligible { s with cal := { s.cal with queue := s.cal.queue ++ [groupEntry s c] } }) =
          cs.filter (zeroEligible s) := List.filter_congr fun k hk =>
        hreads.eligible (queued_appended fun e => hc ((show k = c from e) ▸ hk))
      have hentries : groupEntry { s with cal := { s.cal with queue := s.cal.queue ++ [groupEntry s c] } } = groupEntry s :=
        funext hreads.groupEntry
      simp only [groupEntry] at hfilter hentries ⊢
      rw [hfilter, hentries]
      simp [groupEntry]

/-- On an empty queue the first eligible channel of a list is head at once, and the others join behind it. -/
theorem foldl_groupZero_first (cs : List ChanNo) {s : State} (hqueue : s.cal.queue = []) (hnodup : cs.Nodup) {c : ChanNo}
    {ds : List ChanNo} (hfilter : cs.filter (zeroEligible s) = c :: ds) {u : State}
    (hu : u = runEffect (enqueue c (takenType s c .short) s)) (hfirst : u.cal.queue = [groupEntry s c]) :
    cs.foldl groupZeroChannel s = { u with cal := { u.cal with queue := (c :: ds).map (groupEntry s) } } := by
  induction cs with
  | nil => exact nomatch hfilter
  | cons d cs ih =>
    obtain ⟨hd, hrest⟩ := List.nodup_cons.mp hnodup
    rw [List.foldl_cons]
    cases heligible : zeroEligible s d with
    | false =>
      rw [List.filter_cons_of_neg (by simp [heligible])] at hfilter
      rw [groupZeroChannel_ineligible heligible]
      exact ih hrest hfilter
    | true =>
      rw [List.filter_cons_of_pos heligible] at hfilter
      obtain ⟨rfl, hds⟩ := List.cons.inj hfilter
      have hreads : ZeroReads s u := by rw [hu]; exact (enqueue_handedOn _ _ s).zeroReads
      have hstill : cs.filter (zeroEligible u) = ds := by
        rw [← hds]
        refine List.filter_congr fun k hk => hreads.eligible ?_
        have hne : d ≠ k := fun e => hd (e ▸ hk)
        simp [Cal.queued, hfirst, hqueue, groupEntry, hne]
      rw [groupZeroChannel_eligible heligible, ← hu, foldl_groupZero_behind cs (by simp [hfirst]) hrest, hstill, hfirst,
        show groupEntry u = groupEntry s from funext hreads.groupEntry]
      rfl

theorem allChans_nodup : allChans.Nodup := by decide

theorem exec_zero_group {s : State} (hready : s.ready) {map : BitVec 64} (hselected : map.getLsbD s.lif.straps.address.val = true)
    (ty b : Byte) : exec (.zero (.group map) [ty, b]) s =
      .next (if s.rau.regime = .incident then contact s else allChans.foldl groupZeroChannel (contact s)) := by
  have hexec : exec (.zero (.group map) [ty, b]) s = .next (takeZero (.group map) [ty, b] s) := rfl
  have hserved : (serveZero (.group map) [ty, b] (contact s)).state =
      if s.rau.regime = .incident then contact s else allChans.foldl groupZeroChannel (contact s) := by
    simp only [serveZero, contact_rau]
    split
    · rfl
    · dsimp only [answer]
      rw [groupZero]
  rw [hexec, takeZero, takeRequest_group hready hselected (by simp), if_pos (by simp), hserved]

theorem groupZero_handedOn (cs : List ChanNo) (s : State) : HandedOn s (cs.foldl groupZeroChannel s) :=
  foldl_keeps (P := HandedOn s) (fun u c hu => hu.trans (by
    unfold groupZeroChannel
    split
    · exact enqueue_handedOn _ _ u
    · exact .refl u)) cs (.refl s)

theorem foldl_groupZero_none {cs : List ChanNo} {s : State} (h : ∀ c ∈ cs, zeroEligible s c = false) :
    cs.foldl groupZeroChannel s = s := by
  induction cs with
  | nil => rfl
  | cons c cs ih =>
    rw [List.foldl_cons, groupZeroChannel_ineligible (h c (.head _)), ih fun k hk => h k (.tail _ hk)]

end Sys2Proof.Machine

end

/-! PROOFS. ZERO and the group ZERO put together (R77–R80). -/

section

namespace Sys2Proof.Machine

theorem purgeTime_eq (cfg : ChanConfig) (k : CalType) : cfg.purgeTime k = if k = .long then cfg.longPurge else cfg.shortPurge := by
  cases k <;> rfl

/-- What an accepted entry leaves, by the queue that it joins and the fans. -/
theorem enqueued_contact {c : ChanNo} (k : CalType) {s u : State} (hu : u = runEffect (enqueue c k (contact s))) :
    (s.cal.queue ≠ [] → u = { contact s with cal := { s.cal with queue := s.cal.queue ++ [⟨c, k, false⟩] } }) ∧
    (s.cal.queue = [] → s.cal.phase = .none → s.fansMoving = true →
      u = { contact s with cal := { s.cal with queue := [⟨c, k, false⟩], phase := .waitingQuiet } }) ∧
    (s.cal.queue = [] → s.cal.phase = .none → s.fansMoving = false → s.purgeUnheard c →
      u.cal.queue = [⟨c, k, false⟩] ∧ u.cal.phase = .purging ∧ u.cal.valve = true ∧ u.cal.headSelect = c ∧
        (u.ch c).flags.calibrating = true ∧ u.cal.purgeStart = s.tb.uptime ∧
        u.cal.purgeTime = if k = .long then (s.ch c).cfg.longPurge else (s.ch c).cfg.shortPurge) := by
  refine ⟨fun hqueue => ?_, fun hqueue hphase hmoving => ?_, fun hqueue hphase hquiet hunheard => ?_⟩
  · rw [hu, enqueue_behind (by simpa using hqueue), contact_cal]
  · rw [hu, enqueue_first_waits (by simpa using hqueue) (by simpa using hphase) (by simpa using hmoving), contact_cal]
  · have hpurges := enqueue_first_purges (c := c) (t := k) (s := contact s) (by simpa using hqueue) (by simpa using hphase)
      (by simpa using hquiet) (purgeUnheard_contact hunheard)
    rw [← hu] at hpurges
    have htime := hpurges.purgeTime
    rw [purgeTime_eq] at htime
    have hcfg : ((contact s).ch c).cfg = (s.ch c).cfg := by rw [contact_ch]
    refine ⟨hpurges.queue, hpurges.phase, hpurges.valve, hpurges.headSelect, hpurges.calibrating, ?_, ?_⟩
    · exact hpurges.purgeStart.trans (by rw [contact_tb])
    · rw [← hcfg]
      exact htime

/-- What a group ZERO leaves, by the queue that its entries join and the fans. -/
theorem groupQueued {s : State} {c : ChanNo} {ds : List ChanNo} (hfilter : allChans.filter (zeroEligible s) = c :: ds)
    (hqueue : s.cal.queue = []) (hphase : s.cal.phase = .none) :
    (s.fansMoving = true → allChans.foldl groupZeroChannel s =
      { s with cal := { s.cal with queue := (c :: ds).map (groupEntry s), phase := .waitingQuiet } }) ∧
    (s.fansMoving = false → s.purgeUnheard c → ∃ u, Purges (groupEntry s c)
        { s with cal := { s.cal with queue := [groupEntry s c] } } u ∧
      allChans.foldl groupZeroChannel s = { u with cal := { u.cal with queue := (c :: ds).map (groupEntry s) } }) := by
  refine ⟨fun hmoving => ?_, fun hquiet hunheard => ?_⟩
  · have hwaits := enqueue_first_waits (c := c) (t := takenType s c .short) hqueue hphase hmoving
    rw [foldl_groupZero_first allChans hqueue allChans_nodup hfilter hwaits.symm rfl]
  · have hpurges := enqueue_first_purges (t := takenType s c .short) hqueue hphase hquiet hunheard
    exact ⟨_, hpurges, foldl_groupZero_first allChans hqueue allChans_nodup hfilter rfl hpurges.queue⟩

/-- The entries that a group ZERO queues, as R80 names them. -/
theorem groupEntries_contact (s : State) : (allChans.filter (zeroEligible (contact s))).map (groupEntry (contact s)) =
    (allChans.filter (zeroEligible s)).map fun k : ChanNo => ⟨k, if s.cal.longDone[k] then .short else .long, false⟩ := by
  have heligible : zeroEligible (contact s) = zeroEligible s := funext (zeroEligible_contact s)
  have hentry : groupEntry (contact s) = fun k : ChanNo => ⟨k, if s.cal.longDone[k] then .short else .long, false⟩ :=
    funext fun k => by simp [groupEntry, takenType_short]
  rw [heligible, hentry]

/-- Settles O26: one entry, or one for every eligible channel, behind a head or as the head of an empty queue. -/
theorem zeroQueuesEntry : Obligations.ZeroQueuesEntry := by
  intro c ty s hready
  rw [exec_zero hready]
  refine ⟨fun hbarred => ?_, fun hfree hkind => ?_, fun hfree hkind k hk => ?_, fun map b hselected => ?_⟩
  · rw [zeroChannel_barred _ (by simpa using hbarred), beginService_refuse]
  · rw [zeroChannel_inconsistent _ (by simpa using hfree) (by simpa using hkind), beginService_refuse]
  · have htaken : k = takenType (contact s) c (.ofCode ty.toNat) := by rw [hk, takenType_eq, contact_cal]
    obtain ⟨hbehind, hwaits, hpurges⟩ := enqueued_contact k (c := c) (s := s) rfl
    have hmark : (k.code != ty.toNat) = decide (k.code ≠ ty.toNat) := by rw [Bool.eq_iff_iff]; simp
    refine ⟨_, enqueue_handedOn c k (contact s), ?_, hbehind, hwaits, hpurges⟩
    rw [zeroChannel_accepted ty.toNat (by simpa using hfree) (by simpa using hkind) htaken, beginService_answer, hmark, contact_cal]
  refine ⟨_, exec_zero_group hready hselected ty b, ?_, fun hnone => ?_, fun es hes => ⟨fun hregime hqueue => ?_,
    fun hregime hqueue hphase hne => ?_⟩⟩
  · split
    · exact .refl _
    · exact groupZero_handedOn allChans _
  · split
    · rfl
    · next hregime => exact foldl_groupZero_none fun k _ => (zeroEligible_contact s k).trans (hnone.resolve_left hregime k)
  · rw [if_neg hregime, foldl_groupZero_behind allChans (by simpa using hqueue) allChans_nodup, groupEntries_contact, ← hes, contact_cal]
  · have hentries := groupEntries_contact s
    rw [← hes] at hentries
    obtain ⟨d, ds, hfilter⟩ : ∃ d ds, allChans.filter (zeroEligible (contact s)) = d :: ds :=
      List.exists_cons_of_ne_nil fun hnil => hne (by rw [← hentries, hnil]; rfl)
    rw [hfilter] at hentries
    obtain ⟨hmoves, hquiets⟩ := groupQueued hfilter (by simpa using hqueue) (by simpa using hphase)
    rw [if_neg hregime]
    refine ⟨fun hmoving => ?_, fun hquiet hrau => ?_⟩
    · rw [hmoves (by simpa using hmoving), hentries, contact_cal]
    · have hunheard : s.purgeUnheard d := hrau.elim (fun hmanual => .inl (by rw [hmanual]; decide)) fun hsteps => .inr (.inr hsteps)
      obtain ⟨u, hpurges, hfold⟩ := hquiets (by simpa using hquiet) (purgeUnheard_contact hunheard)
      have hselect : u.cal.headSelect = d := hpurges.headSelect
      rw [hfold, hentries]
      refine ⟨rfl, hpurges.phase, hpurges.valve, ?_, ?_⟩
      · rw [← hentries]
        exact congrArg some hselect.symm
      · have hmark := hpurges.calibrating
        rw [show (groupEntry (contact s) d).channel = u.cal.headSelect from hselect.symm] at hmark
        exact hmark

end Sys2Proof.Machine

end

/-! PROOFS. QUIET LOST (R90): what a fan's transition makes of a head in PURGING or ACCUMULATING, and the head that comes after it. -/

section

namespace Sys2Proof.Machine

/-! ### A head has left its phase (R89) -/

/-- The CAL IDLE with its queue in v, in t the next head has made its quiet test, and the fans stand. -/
structure HeadLeft (v t : State) : Prop where
  fans : t.fans = v.fans
  none : v.cal.queue = [] → t.cal = v.cal ∧ t.channels = v.channels
  waits : ∀ e rest, v.cal.queue = e :: rest → v.fansMoving = true →
    t.cal = { v.cal with phase := .waitingQuiet } ∧ t.channels = v.channels
  purges : ∀ e rest, v.cal.queue = e :: rest → v.fansMoving = false →
    t.cal = (enterPurging e v).cal ∧ t.channels = (enterPurging e v).channels

theorem receiveCalEnd_eq (c : ChanNo) (s : State) : ∃ r, (receiveCalEnd c s).1 = { s with rau := r } := by
  simp only [receiveCalEnd]
  split
  · exact ⟨_, rfl⟩
  · exact ⟨s.rau, rfl⟩

theorem run_calEnded {s : State} (hregime : s.rau.regime ≠ .auto) (c : ChanNo) (ws : List Work) :
    run (.calEnded c :: ws) s = run ws (receiveCalEnd c s).1 := by
  rw [run_cons (postponed_of_ne (by simp) ws)]
  simp [perform, receiveCalEnd, hregime]

/-- The next head outside AUTO, with hand-overs to the RAU behind it. -/
theorem run_nextHead_left {s : State} (hregime : s.rau.regime ≠ .auto) (hphase : s.cal.phase = .none) {ws : List Work}
    (hws : RauOwn s ws) : HeadLeft s (run (.nextHead :: ws) s) := by
  have hrau : ∀ {u : State} {vs : List Work}, u.rau = s.rau → RauOwn s vs → Alters rauParts u (run vs u) := fun {u vs} hu hvs => by
    rw [RauOwn, ← hu] at hvs
    exact run_rauOwn (.inl (by rw [hu]; exact hregime)) hvs
  cases hqueue : s.cal.queue with
  | nil =>
    rw [run_nextHead_none hqueue]
    have halters := hrau rfl hws
    refine ⟨halters.1 .fans (by decide), fun _ => ⟨halters.1 .cal (by decide), halters.1 .channels (by decide)⟩,
      fun e rest h => ?_, fun e rest h => ?_⟩
    · rw [hqueue] at h
      exact nomatch h
    · rw [hqueue] at h
      exact nomatch h
  | cons e rest =>
    cases hmoving : s.fansMoving with
    | true =>
      rw [run_nextHead_waits hqueue hphase hmoving]
      have halters := hrau (u := { s with cal := { s.cal with phase := .waitingQuiet } }) rfl hws
      refine ⟨halters.1 .fans (by decide), fun h => ?_, fun _ _ _ _ => ⟨halters.1 .cal (by decide), halters.1 .channels (by decide)⟩,
        fun _ _ _ h => ?_⟩
      · rw [hqueue] at h
        exact nomatch h
      · rw [hmoving] at h
        exact nomatch h
    | false =>
      rw [run_nextHead_purges hqueue hphase hmoving]
      have halters := hrau (u := enterPurging e s) rfl (rauOwn_append (contributes_rauOwn s s e.channel) hws)
      refine ⟨halters.1 .fans (by decide), fun h => ?_, fun _ _ _ h => ?_, fun k ks hk _ => ?_⟩
      · rw [hqueue] at h
        exact nomatch h
      · rw [hmoving] at h
        exact nomatch h
      · obtain ⟨rfl, -⟩ := List.cons.inj (hqueue.symm.trans hk)
        exact ⟨halters.1 .cal (by decide), halters.1 .channels (by decide)⟩

theorem run_calEnded_left {s : State} (hregime : s.rau.regime ≠ .auto) (hphase : s.cal.phase = .none) (c : ChanNo) {ws : List Work}
    (hws : RauOwn s ws) : HeadLeft s (run (.calEnded c :: .nextHead :: ws) s) := by
  have hkept : (receiveCalEnd c s).1.rau.regime = s.rau.regime := (receiveCalEnd_handedOn c s).regime
  have hleft := run_nextHead_left (s := (receiveCalEnd c s).1) (by rw [hkept]; exact hregime)
    (by rw [(receiveCalEnd_alters c s).1 .cal (by decide)]; exact hphase) (ws := ws) (by rw [RauOwn, hkept]; exact hws)
  rw [run_calEnded hregime]
  obtain ⟨r, hr⟩ := receiveCalEnd_eq c s
  rw [hr] at hleft ⊢
  exact ⟨hleft.fans, hleft.none, hleft.waits, hleft.purges⟩

theorem HeadLeft.fansMoving {v t : State} (h : HeadLeft v t) : t.fansMoving = v.fansMoving := by
  simp only [State.fansMoving, State.fan, h.fans]

/-- A head that has left its phase as R90 has it, once the next head has made its quiet test. -/
theorem headAborted_of_left {e : CalEntry} {rest : List CalEntry} {v t : State} (h : HeadLeft v t)
    (hqueue : v.cal.queue = rest ++ if e.retried then [] else [⟨e.channel, e.type, true⟩]) (hphase : v.cal.phase = .none)
    (hvalve : v.cal.valve = false) (hfilter : (v.ch e.channel).filterInit = false)
    (hmark : (v.ch e.channel).flags.calibrating = false) : HeadAborted e rest t := by
  rw [HeadAborted, ← hqueue]
  cases hleft : v.cal.queue with
  | nil =>
    obtain ⟨hcal, hchannels⟩ := h.none hleft
    have hch : t.ch e.channel = v.ch e.channel := by rw [State.ch, hchannels, State.ch]
    simp [hcal, hch, hleft, hphase, hvalve, hfilter, hmark]
  | cons k ks =>
    cases hmoving : v.fansMoving with
    | true =>
      obtain ⟨hcal, hchannels⟩ := h.waits k ks hleft hmoving
      have hch : t.ch e.channel = v.ch e.channel := by rw [State.ch, hchannels, State.ch]
      simp [hcal, hch, hleft, h.fansMoving, hmoving, hvalve, hfilter, hmark]
    | false =>
      obtain ⟨hcal, hchannels⟩ := h.purges k ks hleft hmoving
      have hch : t.ch e.channel = (enterPurging k v).ch e.channel := by rw [State.ch, hchannels, State.ch]
      have hpurging : (enterPurging k v).ch e.channel =
          if e.channel = k.channel then (v.ch k.channel).setCalibrating true else v.ch e.channel :=
        State.ch_modCh v k.channel e.channel (·.setCalibrating true)
      have hphase' : t.cal.phase = .purging := by rw [hcal]; rfl
      have hvalve' : t.cal.valve = true := by rw [hcal]; rfl
      have hqueue' : t.cal.queue = k :: ks := by rw [hcal]; exact hleft
      rw [hqueue', hphase', hvalve', hch, hpurging, h.fansMoving, hmoving]
      refine ⟨rfl, rfl, rfl, ?_, ?_⟩
      · split
        · next hk => rw [← hk]; exact hfilter
        · exact hfilter
      · split
        · next hk => simp [Channel.setCalibrating, hk]
        · next hk => simp [hmark, Ne.symm hk]

/-! ### The abort (R90) -/

/-- The head e has left its phase by QUIET LOST, the next head still to come. -/
def quietLostOf (e : CalEntry) (s : State) : State :=
  dropHead (if e.retried then [] else [{ e with retried := true }])
    (closeCalibration e.channel (abortEntry e.channel .quietLost (!e.retried) s))

theorem rauHears_rauOwn (a b : Option FanState) (s : State) : RauOwn s (rauHears a b) := by
  unfold rauHears
  split <;> rfl

section Aborts

variable {a b : Option FanState} {s : State} {e : CalEntry} {rest : List CalEntry}

theorem quietLost_eq (hair : s.cal.phase.airOn = true) (hqueue : s.cal.queue = e :: rest) :
    quietLost s = (quietLostOf e s, [.calEnded e.channel, .nextHead]) := by
  simp only [quietLost, Cal.head, hqueue, List.head?_cons, if_pos hair]
  rfl

theorem quietLostOf_queue (hqueue : s.cal.queue = e :: rest) :
    (quietLostOf e s).cal.queue = rest ++ if e.retried then [] else [⟨e.channel, e.type, true⟩] := by
  simp [quietLostOf, dropHead, closeCalibration, abortEntry, hqueue]

theorem quietLostOf_ch (c : ChanNo) : (quietLostOf e s).ch c =
    if c = e.channel then { (s.ch c).setCalibrating false with filterInit := false } else s.ch c :=
  closeCalibration_ch e.channel (abortEntry e.channel .quietLost (!e.retried) s) c

/-- CAL ABORTED, cause QUIET LOST, is the abort's entry. -/
theorem quietLostOf_evq : (quietLostOf e s).evq =
    s.evq.push ⟨s.tb.clock, .cal e.channel, .calAborted, some 2, some (if e.retried then 0 else 1), false⟩ := by
  cases hretried : e.retried <;> simp [quietLostOf, dropHead, closeCalibration, abortEntry, appendEvent, hretried, AbortCause.code]

theorem quietLostOf_handedOn : HandedOn s (quietLostOf e s) :=
  (appendEvent_handedOn _ _ _ _ s).trans (endCalibration_handedOn e.channel _ _)

theorem loadedIf_handedOn (c : Bool) (s : State) : HandedOn s (if c then loadCountdowns s else s) := by
  cases c
  · exact .refl s
  · exact loadCountdowns_handedOn s

variable (hdisturbs : disturbs a b = true) (hair : s.cal.phase.airOn = true) (hqueue : s.cal.queue = e :: rest)

include hdisturbs hair hqueue

/-- A disturbing change aborts the head before the RAU hears of it. -/
theorem fanMoved_aborts : fanMoved a b s = (quietLostOf e (if loadsCountdown a b then loadCountdowns s else s),
    .calEnded e.channel :: .nextHead :: rauHears a b) := by
  have hcal := loadedIf_cal (loadsCountdown a b) s
  simp only [fanMoved, calHears, hdisturbs, hcal, hair, Bool.and_self, if_true]
  rw [quietLost_eq (by rw [hcal]; exact hair) (by rw [hcal]; exact hqueue)]
  rfl

theorem run_fanMoved_entry (f : FanNo) (ws : List Work) :
    Appended (s.evq.push ⟨s.tb.clock, .cal e.channel, .calAborted, some 2, some (if e.retried then 0 else 1), false⟩)
      (run (.fanMoved f a b :: ws) s).evq := by
  have hloaded := (loadedIf_handedOn (loadsCountdown a b) s).tb
  have hevq : (if loadsCountdown a b then loadCountdowns s else s).evq = s.evq := by split <;> rfl
  have hentry := quietLostOf_evq (e := e) (s := if loadsCountdown a b then loadCountdowns s else s)
  rw [hloaded, hevq] at hentry
  rw [run_cons (postponed_of_ne (by simp) ws), perform, fanMoved_aborts hdisturbs hair hqueue, ← hentry]
  exact (run_handedOn _ _).2

theorem run_fanMoved_aborts (hregime : s.rau.regime ≠ .auto) (f : FanNo) : HeadAborted e rest (run [.fanMoved f a b] s) := by
  have hcal := loadedIf_cal (loadsCountdown a b) s
  have hhanded := (loadedIf_handedOn (loadsCountdown a b) s).trans (quietLostOf_handedOn (e := e))
  rw [run_singleton, perform, fanMoved_aborts hdisturbs hair hqueue]
  refine headAborted_of_left (run_calEnded_left (by rw [hhanded.regime]; exact hregime) rfl e.channel (rauHears_rauOwn a b _))
    (quietLostOf_queue (by rw [hcal]; exact hqueue)) rfl rfl ?_ ?_
  · rw [quietLostOf_ch, if_pos rfl]
  · rw [quietLostOf_ch, if_pos rfl]
    rfl

end Aborts

/-! ### DEMAND SHORT after a fan's availability has changed (R124, R164) -/

/-- With no calibration at work a change of availability outside AUTO ends in the evaluation of DEMAND SHORT. -/
theorem run_fanMoved_short {a b : Option FanState} {s : State} (hphase : s.cal.phase = .none) (hregime : s.rau.regime ≠ .auto)
    (havailable : availableState a ≠ availableState b) (f : FanNo) :
    run [.fanMoved f a b] s = evaluateShort (if loadsCountdown a b then loadCountdowns s else s) := by
  have hcal := loadedIf_cal (loadsCountdown a b) s
  have hrau : (if loadsCountdown a b then loadCountdowns s else s).rau = s.rau := by split <;> rfl
  have hhears : rauHears a b = [.availability] := if_pos (by simp [havailable])
  have hmoved : fanMoved a b s = (if loadsCountdown a b then loadCountdowns s else s,
      (if movingState a && a != b then [.quietTest] else []) ++ [.availability]) := by
    simp only [fanMoved, calHears, hcal, hphase, CalPhase.airOn, Bool.and_false, Bool.false_eq_true, if_false, hhears]
  rw [run_singleton, perform, hmoved]
  generalize (if loadsCountdown a b then loadCountdowns s else s) = u at hcal hrau
  have hearing : run [.availability] u = run [.demandShort] u := by
    rw [run_singleton, perform, if_neg (by rw [hrau]; exact hregime)]
  rw [run_append _ rfl, run_quietTest_idle (by rw [hcal, hphase]; decide), hearing, run_singleton, perform, run_nil]

end Sys2Proof.Machine

end

/-! PROOFS. The trip sources (R128–R130): the trip with what it leads to, and the changes of level that lead to none. -/

section

namespace Sys2Proof.Machine

/-! ### What a trip leads to -/

/-- The event queue after a trip's own entry. -/
def tripQueue (f : FanNo) (cause : TripCause) (s : State) : EventQueue :=
  s.evq.push ⟨s.tb.clock, .fan f, .fanTrip, some cause.code, none, false⟩

/-- DEMAND SHORT in the record and as an entry after the event queue q, from these two thrusts (R164). -/
theorem evaluateShort_eq {s : State} {delivered sought : Nat} (hdelivered : s.delivered = delivered) (hsought : s.thrustSought = sought) :
    (evaluateShort s).rau = { s.rau with short := decide (delivered < sought) } ∧
    (evaluateShort s).evq = (if delivered < sought ∧ s.rau.short = false then
        s.evq.push ⟨s.tb.clock, .node, .demandShortOn, none, some ((sought - delivered : Nat) : Int), false⟩
      else if sought ≤ delivered ∧ s.rau.short = true then
        s.evq.push ⟨s.tb.clock, .node, .demandShortOff, none, none, false⟩ else s.evq) := by
  have hsame : ∀ b, s.rau.short = b → s.rau = { s.rau with short := b } := fun b hb => by rw [← hb]
  simp only [evaluateShort, hdelivered, hsought]
  by_cases hless : delivered < sought
  · have hnot : ¬sought ≤ delivered := Nat.not_le.mpr hless
    cases hshort : s.rau.short with
    | true => simpa [hless, hnot] using hsame true hshort
    | false => simp [hless, appendEvent]
  · have hle : sought ≤ delivered := Nat.not_lt.mp hless
    cases hshort : s.rau.short with
    | true => simp [hless, hle, appendEvent]
    | false => simpa [hless, hle] using hsame false hshort

theorem disturbs_trip {a : Option FanState} (h : a ≠ some .tripped) : disturbs a (some .tripped) = true := by
  simp [disturbs, h]

section Trip

variable {f : FanNo} {s : State} (hpresent : (s.fan f).state.isSome = true) (hlatch : (s.fan f).latch = none) (cause : TripCause)

include hpresent hlatch

theorem tripFan_evq : (tripFan f cause s).1.evq = tripQueue f cause s := by
  rw [tripFan_eq hpresent hlatch]
  rfl

theorem tripFan_tripped : ((tripFan f cause s).1.fan f).state = some .tripped := by
  rw [tripFan_fan hpresent hlatch]
  rfl

variable (hstate : (s.fan f).state ≠ some .tripped)

include hstate

theorem runEffect_tripFan : runEffect (tripFan f cause s) =
    run [.fanMoved f (s.fan f).state (some .tripped)] (tripFan f cause s).1 := by
  have htripped := tripFan_tripped hpresent hlatch cause
  rw [runEffect, (tripFan_act f cause s).works_of_moved (by rw [htripped]; exact hstate.symm), htripped]

/-- A head in PURGING or ACCUMULATING is aborted after the trip's entry (R90). -/
theorem tripFan_aborts {e : CalEntry} {rest : List CalEntry} (hair : s.cal.phase.airOn = true) (hqueue : s.cal.queue = e :: rest) :
    QuietLostNext e (tripQueue f cause s) s (runEffect (tripFan f cause s)) ∧
      (s.rau.regime ≠ .auto → HeadAborted e rest (runEffect (tripFan f cause s))) := by
  have hact := tripFan_act f cause s
  have hdisturbs := disturbs_trip hstate
  have hair' : (tripFan f cause s).1.cal.phase.airOn = true := by rw [hact.cal]; exact hair
  have hqueue' : (tripFan f cause s).1.cal.queue = e :: rest := by rw [hact.cal]; exact hqueue
  have hentry := run_fanMoved_entry hdisturbs hair' hqueue' f []
  rw [tripFan_evq hpresent hlatch, hact.alters.1 .tb (by decide)] at hentry
  rw [runEffect_tripFan hpresent hlatch cause hstate]
  exact ⟨hentry, fun hregime => run_fanMoved_aborts hdisturbs hair' hqueue' (by rw [hact.rau]; exact hregime) f⟩

/-- With no calibration at work the loss of an available fan is followed by the evaluation of DEMAND SHORT alone (R164). -/
theorem tripFan_short (hregime : s.rau.regime ≠ .auto) (hphase : s.cal.phase = .none)
    (havailable : availableState (s.fan f).state = true) {t : State} (ht : t = runEffect (tripFan f cause s)) {delivered sought : Nat}
    (hdelivered : delivered = ((allFans.filter fun k => availableState (t.fan k).state).map fun k => (s.held k).eff).sum)
    (hsought : sought = if s.rau.regime = .incident then
      ((allFans.filter fun k => (s.fan k).state.isSome).map fun k => (s.held k).req).sum else 0) :
    t.rau = { s.rau with short := decide (delivered < sought) } ∧
    t.evq = (if delivered < sought ∧ s.rau.short = false then
        (tripQueue f cause s).push ⟨s.tb.clock, .node, .demandShortOn, none, some ((sought - delivered : Nat) : Int), false⟩
      else if sought ≤ delivered ∧ s.rau.short = true then
        (tripQueue f cause s).push ⟨s.tb.clock, .node, .demandShortOff, none, none, false⟩ else tripQueue f cause s) := by
  have hact := tripFan_act f cause s
  have htripped := tripFan_tripped hpresent hlatch cause
  have hrun := run_fanMoved_short (a := (s.fan f).state) (b := some .tripped) (s := (tripFan f cause s).1)
    (by rw [hact.cal]; exact hphase) (by rw [hact.rau]; exact hregime) (by rw [havailable]; decide) f
  rw [← runEffect_tripFan hpresent hlatch cause hstate, ← ht] at hrun
  have hhanded := loadedIf_handedOn (loadsCountdown (s.fan f).state (some .tripped)) (tripFan f cause s).1
  have hfans := loadedIf_fans (loadsCountdown (s.fan f).state (some .tripped)) (tripFan f cause s).1
  have hrau : (if loadsCountdown (s.fan f).state (some .tripped) then loadCountdowns (tripFan f cause s).1
      else (tripFan f cause s).1).rau = s.rau := by
    rw [← hact.rau]
    split <;> rfl
  have hevq : (if loadsCountdown (s.fan f).state (some .tripped) then loadCountdowns (tripFan f cause s).1
      else (tripFan f cause s).1).evq = tripQueue f cause s := by
    rw [← tripFan_evq hpresent hlatch]
    split <;> rfl
  have htb := hhanded.tb.trans (hact.alters.1 .tb (by decide))
  generalize (if loadsCountdown (s.fan f).state (some .tripped) then loadCountdowns (tripFan f cause s).1
    else (tripFan f cause s).1) = u at hrun hfans hrau hevq htb
  have hdelivered' : u.delivered = delivered := by
    have hfan : ∀ k, t.fan k = u.fan k := fun k => by
      rw [State.fan, hrun, (evaluateShort_alters u).1 .fans (by decide), State.fan]
    have hheld : ∀ k, u.held k = s.held k := fun k => by rw [State.held, hrau, State.held]
    simp only [hdelivered, State.delivered, hfan, hheld]
    rfl
  have hsought' : u.thrustSought = sought := by
    have hsome : ∀ k, (u.fan k).state.isSome = (s.fan k).state.isSome := fun k => by
      rw [State.fan, hfans, ← State.fan]
      by_cases hk : k = f
      · rw [hk, htripped, hpresent]
        rfl
      · rw [hact.others k hk]
    have hheld : ∀ k, u.held k = s.held k := fun k => by rw [State.held, hrau, State.held]
    rw [hsought]
    cases hr : s.rau.regime with
    | auto => exact absurd hr hregime
    | manual => simp [State.thrustSought, hrau, hr]
    | incident => simp [State.thrustSought, hrau, hr, State.presentFans, hsome, hheld]
  obtain ⟨hshort, hentries⟩ := evaluateShort_eq hdelivered' hsought'
  rw [hrau] at hshort hentries
  rw [hevq, htb] at hentries
  rw [hrun]
  exact ⟨hshort, hentries⟩

end Trip

/-! ### The sources -/

theorem sourceActive_trips {f : FanNo} {cause : TripCause} {s : State} (henabled : (s.fan f).enabled cause = true)
    (hlevel : (s.fan f).sourceLevel cause = true) : sourceActive f cause s = tripFan f cause s :=
  if_pos (by rw [henabled, hlevel]; rfl)

theorem sourceActive_idle {f : FanNo} {cause : TripCause} {s : State}
    (h : (s.fan f).enabled cause = false ∨ (s.fan f).sourceLevel cause = false ∨ (s.fan f).state = none ∨ (s.fan f).latch ≠ none) :
    sourceActive f cause s = (s, []) := by
  unfold sourceActive
  split
  · next hactive =>
    rw [Bool.and_eq_true] at hactive
    refine if_neg fun ⟨hsome, hlatch⟩ => ?_
    rcases h with hoff | hlow | hnone | hset
    · rw [hactive.1] at hoff
      exact nomatch hoff
    · rw [hactive.2] at hlow
      exact nomatch hlow
    · rw [hnone] at hsome
      exact nomatch hsome
    · exact hset hlatch
  · rfl

/-- A trip after a change of the fan's inputs, seen from the state before the change. -/
theorem changed_trips {f : FanNo} {s : State} {g : Fan → Fan} {cause : TripCause} (hstate : (g (s.fan f)).state = (s.fan f).state)
    (hlatch : (g (s.fan f)).latch = (s.fan f).latch) (henabled : (g (s.fan f)).enabled cause = true)
    (hlevel : (g (s.fan f)).sourceLevel cause = true) (hpresent : (s.fan f).state.isSome = true) (hclear : (s.fan f).latch = none) :
    sourceActive f cause (s.modFan f g) = tripFan f cause (s.modFan f g) ∧
      ((s.modFan f g).fan f).state.isSome = true ∧ ((s.modFan f g).fan f).latch = none := by
  have hfan := State.fan_modFan_same s f g
  refine ⟨sourceActive_trips ?_ ?_, ?_, ?_⟩
  · rw [hfan, henabled]
  · rw [hfan, hlevel]
  · rw [hfan, hstate, hpresent]
  · rw [hfan, hlatch, hclear]

section SetTripInput

variable (x : Fan) (i : TripInput) (d : Debounced)

theorem setTripInput_tripInput : (x.setTripInput i d).tripInput i = d := by cases i <;> rfl

theorem setTripInput_sourceLevel : (x.setTripInput i d).sourceLevel (inputCause i) = d.level := by cases i <;> rfl

theorem setTripInput_enabled (cause : TripCause) : (x.setTripInput i d).enabled cause = x.enabled cause := by cases i <;> rfl

theorem setTripInput_latch : (x.setTripInput i d).latch = x.latch := by cases i <;> rfl

end SetTripInput

theorem settleTripInput_eq {f : FanNo} {i : TripInput} {s : State} (h : s.debounced ((s.fan f).tripInput i) = true) :
    settleTripInput f i s = runEffect (sourceActive f (inputCause i)
      (s.modFan f fun x => x.setTripInput i ⟨(x.tripInput i).input, (x.tripInput i).input, none⟩)) := if_pos h

/-- Settles O38: the comparator's trip with all that it leads to, the levels that trip nothing, and the debounced contacts. -/
theorem tripSourcesAct : Obligations.TripSourcesAct := by
  intro f s
  refine ⟨fun hpresent hlatch hlow henabled => ?_, fun level hidle => ?_, fun i cause d hover hd hcause => ?_⟩
  · obtain ⟨htrips, hpresent', hlatch'⟩ := changed_trips (s := s) (g := fun x => { x with overcurrent := true }) (cause := .overcurrent)
      rfl rfl henabled rfl hpresent hlatch
    have hfan := State.fan_modFan_same s f fun x => { x with overcurrent := true }
    have hact : FanAct f s (tripFan f .overcurrent (s.modFan f fun x => { x with overcurrent := true })) :=
      .after_change rfl (tripFan_act f .overcurrent _)
    have hchange : changeOvercurrent f true s =
        runEffect (tripFan f .overcurrent (s.modFan f fun x => { x with overcurrent := true })) := by
      rw [← htrips]
      exact if_pos (by simp [hlow])
    obtain ⟨r, hrests⟩ := tripFan_rests hpresent' hlatch' .overcurrent
    have hnot : (s.fan f).state ≠ some .tripped → ((s.modFan f fun x => { x with overcurrent := true }).fan f).state ≠ some .tripped :=
      fun h => by rw [hfan]; exact h
    refine ⟨_, congrArg Host.Outcome.next hchange, ?_⟩
    rw [hrests, hfan]
    refine ⟨rfl, rfl, rfl, rfl, rfl, rfl, rfl, fun g hg => hact.others_fixed hg, hact.sameBut_run, fun hstate => ?_, ?_⟩
    · exact countdownsLoaded_of_channels rfl (tripFan_loaded hpresent' hlatch' (hnot hstate) .overcurrent)
    rintro q rfl
    refine ⟨tripFan_entry hpresent' hlatch' .overcurrent, fun e rest hstate hair hqueue => ?_,
      fun hregime hphase havailable delivered sought hdelivered hsought => ?_⟩
    · exact tripFan_aborts hpresent' hlatch' .overcurrent (hnot hstate) (s := s.modFan f _) hair hqueue
    · have hstate : (s.fan f).state ≠ some .tripped := fun h => by rw [h] at havailable; exact nomatch havailable
      refine tripFan_short hpresent' hlatch' .overcurrent (hnot hstate) (s := s.modFan f _) hregime hphase
        (by rw [hfan]; exact havailable) rfl hdelivered (hsought.trans ?_)
      have hsome : ∀ k, ((s.modFan f fun x => { x with overcurrent := true }).fan k).state.isSome = (s.fan k).state.isSome := fun k => by
        rw [State.fan_modFan]
        split
        · next hk => rw [hk]
        · rfl
      simp only [hsome]
      rfl
  · have hchange : changeOvercurrent f level s = s.setFan f { s.fan f with overcurrent := level } := by
      simp only [changeOvercurrent]
      split
      · next hrises =>
        rw [Bool.and_eq_true, Bool.not_eq_true'] at hrises
        rw [sourceActive_idle, runEffect_nil]
        · rfl
        · rw [State.fan_modFan_same]
          rcases hidle with hlow | hhigh | hoff | hnone | hset
          · exact absurd hrises.1 (by simp [hlow])
          · exact absurd hrises.2 (by simp [hhigh])
          · exact .inl hoff
          · exact .inr (.inr (.inl hnone))
          · exact .inr (.inr (.inr hset))
      · rfl
    exact congrArg Host.Outcome.next hchange
  · subst hd
    obtain rfl : cause = inputCause i := hcause.trans (by cases i <;> rfl)
    have hfan := State.fan_modFan_same s f fun x => x.setTripInput i ⟨(x.tripInput i).input, (x.tripInput i).input, none⟩
    refine ⟨fun hhigh hpresent hlatch henabled => ?_, fun hidle => ?_⟩
    · obtain ⟨htrips, hpresent', hlatch'⟩ := changed_trips (s := s)
        (g := fun x => x.setTripInput i ⟨(x.tripInput i).input, (x.tripInput i).input, none⟩) (cause := inputCause i)
        (setTripInput_state _ _ _) (setTripInput_latch _ _ _) (by rw [setTripInput_enabled]; exact henabled)
        (by rw [setTripInput_sourceLevel]; exact hhigh) hpresent hlatch
      obtain ⟨r, hrests⟩ := tripFan_rests hpresent' hlatch' (inputCause i)
      have hact : FanAct f s (tripFan f (inputCause i)
          (s.modFan f fun x => x.setTripInput i ⟨(x.tripInput i).input, (x.tripInput i).input, none⟩)) :=
        .after_change (setTripInput_state _ _ _) (tripFan_act f _ _)
      have hset := setTripInput_tripInput (s.fan f) i ⟨((s.fan f).tripInput i).input, ((s.fan f).tripInput i).input, none⟩
      refine ⟨_, congrArg Host.Outcome.next ((settleTripInput_eq hover).trans (by rw [htrips])), ?_⟩
      rw [hrests, hfan]
      refine ⟨rfl, rfl, rfl, rfl, ?_, fun g hg => hact.others_fixed hg, hact.sameBut_run⟩
      rw [hhigh] at hset
      rw [hhigh]
      cases i
      · exact hset
      · exact hset
    · have hstays : settleTripInput f i s = s.setFan f ((s.fan f).setTripInput i
          ⟨((s.fan f).tripInput i).input, ((s.fan f).tripInput i).input, none⟩) := by
        rw [settleTripInput_eq hover, sourceActive_idle, runEffect_nil]
        · rfl
        · rw [hfan, setTripInput_enabled, setTripInput_sourceLevel, setTripInput_state, setTripInput_latch]
          rcases hidle with hlow | hnone | hset | hoff
          · exact .inr (.inl hlow)
          · exact .inr (.inr (.inl hnone))
          · exact .inr (.inr (.inr hset))
          · exact .inl hoff
      exact congrArg Host.Outcome.next hstays

end Sys2Proof.Machine

end

/-! PROOFS. OUTPUT INHIBIT (R125, R126): the fans that take it one after another, the countdowns that they load, and the abort that the
first of them brings. -/

section

namespace Sys2Proof.Machine

/-! ### Countdowns under hand-overs that load none (R52) -/

/-- Hand-overs that, outside AUTO, load no countdown and ask for none that does. -/
def Work.gentle (w : Work) : Bool :=
  match w with
  | .fanMoved _ a b => !loadsCountdown a b
  | .startAttempt _ | .contribution _ | .calEnded _ | .nextHead | .quietTest | .availability | .demandShort => true
  | .handFan _ | .handRegime _ | .reevaluate | .reform | .giveRole _ | .grantDue | .grant _ => false

abbrev Gentle (ws : List Work) : Prop := ws.all Work.gentle = true

theorem gentle_append {ws vs : List Work} (h : Gentle ws) (k : Gentle vs) : Gentle (ws ++ vs) := by
  rw [Gentle, List.all_append, h, k]
  rfl

theorem gentle_cons {w : Work} {ws : List Work} : Gentle (w :: ws) ↔ w.gentle = true ∧ Gentle ws := by
  rw [Gentle, List.all_cons, Bool.and_eq_true]

/-- A start attempt leaves STOPPED for no state that loads the countdowns. -/
theorem startAttempt_gentle (f : FanNo) (s : State) : Gentle (startAttempt f s).2 := by
  have hmoved : ∀ (g : Fan → Fan) (u : State), (u.fan f).state = some .stopped →
      loadsCountdown (some .stopped) (g (u.fan f)).state = false → Gentle (moveFan f g u).2 := fun g u hu hload => by
    simp [moveFan, Work.gentle, hu, hload]
  unfold startAttempt
  dsimp only
  split
  · next hstopped =>
    split
    · exact hmoved _ _ hstopped.1 rfl
    · simp only [budgetAttempt]
      have hstill : ((s.modFan f fun x => { x with history := s.windowStamps f }).fan f).state = some .stopped := by
        rw [State.fan_modFan_same]
        exact hstopped.1
      split
      · exact hmoved _ _ hstill rfl
      · exact hmoved _ _ hstill rfl
  · rfl

theorem contributes_gentle (s : State) (c : ChanNo) : Gentle (contributes s c) := by
  unfold contributes
  split <;> rfl

theorem calHears_gentle (a b : Option FanState) (s : State) : Gentle (calHears a b s).2 := by
  unfold calHears
  split
  · unfold quietLost
    split
    · rfl
    · split <;> rfl
  · dsimp only
    split <;> rfl

/-- What a fan's change asks for loads no countdown. -/
theorem fanMoved_gentle (a b : Option FanState) (s : State) : Gentle (fanMoved a b s).2 := by
  refine gentle_append (calHears_gentle _ _ _) ?_
  unfold rauHears
  split <;> rfl

theorem perform_gentle {w : Work} {s : State} (hregime : s.rau.regime ≠ .auto) (h : w.gentle = true) : Gentle (perform w s).2 := by
  cases w with
  | fanMoved f a b => exact fanMoved_gentle a b s
  | startAttempt f => exact startAttempt_gentle f s
  | contribution c =>
    simp only [perform, receiveContribution, if_neg hregime]
    rfl
  | calEnded c =>
    simp only [perform, receiveCalEnd, if_neg hregime]
    rfl
  | nextHead =>
    simp only [perform, nextHead]
    split
    · rfl
    · split <;> rfl
  | quietTest =>
    simp only [perform, quietTest]
    split
    · rfl
    · split
      · exact contributes_gentle s _
      · rfl
  | availability =>
    simp only [perform, if_neg hregime]
    rfl
  | demandShort => rfl
  | handFan f | handRegime f | reevaluate | reform | giveRole f | grantDue | grant f => exact nomatch h

theorem perform_gentle_countdowns {w : Work} {s : State} (h : w.gentle = true) : CountdownsKept s (perform w s).1 := by
  by_cases hmoved : ∃ f a b, w = .fanMoved f a b
  · obtain ⟨f, a, b, rfl⟩ := hmoved
    exact (fanMoved_countdowns a b s).2 (by simpa [Work.gentle] using h)
  · exact perform_countdownsKept (fun f a b e => hmoved ⟨f, a, b, e⟩) s

/-- Outside AUTO such hand-overs leave every countdown. -/
theorem run_gentle {ws : List Work} {s : State} (hregime : s.rau.regime ≠ .auto) (h : Gentle ws) : CountdownsKept s (run ws s) := by
  refine (run_induction (J := fun vs t => t.rau.regime = s.rau.regime ∧ Gentle vs ∧ CountdownsKept s t) ?_ ?_
    ⟨rfl, h, fun _ => rfl⟩).2.2
  · rintro rest t ⟨hkept, hgentle, hcount⟩
    exact ⟨hkept, (gentle_cons.mp hgentle).2, hcount⟩
  · rintro w rest t ⟨hkept, hgentle, hcount⟩
    obtain ⟨hw, hrest⟩ := gentle_cons.mp hgentle
    exact ⟨(perform_handedOn w t).regime.trans hkept, gentle_append (perform_gentle (hkept ▸ hregime) hw) hrest,
      countdownsKept_trans hcount (perform_gentle_countdowns hw)⟩

theorem countdownsKept_of_channels {s u t : State} (h : u.channels = s.channels) (k : CountdownsKept u t) : CountdownsKept s t :=
  fun c => by rw [k c, State.ch, h, State.ch]

/-- Countdowns once loaded stand under further hand-overs of the same channels. -/
theorem Carried.still_loaded {s u t : State} (hfixed : ∀ c, (u.ch c).fixed = (s.ch c).fixed) (hloaded : CountdownsLoaded s u)
    (k : Carried u t) : CountdownsLoaded s t := fun c => by
  rcases k.countdowns c with hstands | hagain
  · rw [hstands, hloaded c]
  · rw [hagain, fixed_loadedCountdown (hfixed c), hloaded c]
    split_ifs <;> rfl

/-! ### The fans one after another -/

theorem availableState_of_fixed {x y : Option FanState} (h : fixedState y = fixedState x) : availableState y = availableState x := by
  have havailable : ∀ st, availableState st = (fixedState st == some .stopped) := by
    intro st
    rcases st with - | st
    · rfl
    · cases st <;> rfl
  rw [havailable, havailable, h]

theorem state_of_fixed {x y : Fan} (h : y.fixed = x.fixed) : fixedState y.state = fixedState x.state := (congrArg Fan.state h :)

/-- From s the fans outside this list have taken the active inhibit, in the state u. -/
structure Inhibiting (s : State) (rest : List FanNo) (u : State) : Prop where
  kept : ∀ k, (u.fan k).cfg = (s.fan k).cfg ∧ (u.fan k).latch = (s.fan k).latch
  waits : ∀ k ∈ rest, availableState (u.fan k).state = true
  done : ∀ k, k ∉ rest → availableState (s.fan k).state = true →
    (u.fan k).state = some .inhibited ∧ (u.fan k).run = false ∧ (u.fan k).drive = 0
  apart : ∀ k, availableState (s.fan k).state = false → fixedState (u.fan k).state = fixedState (s.fan k).state

theorem inhibitFan_eq {u : State} {f : FanNo} (h : availableState (u.fan f).state = true) :
    inhibitFan u f = runEffect (moveFan f Fan.toInhibited u) := if_pos h

/-- A fan that has taken the inhibit holds it under every hand-over. -/
theorem inhibitFan_fan {u : State} {f : FanNo} (h : availableState (u.fan f).state = true) :
    ∃ r, (inhibitFan u f).fan f = (u.fan f).toInhibited.store r := by
  have hfan := moveFan_fan f Fan.toInhibited u
  obtain ⟨r, hr⟩ := run_resting (moveFan f Fan.toInhibited u).2 (s := (moveFan f Fan.toInhibited u).1) (f := f) (by rw [hfan]; rfl)
  exact ⟨r, by rw [inhibitFan_eq h, runEffect, hr, hfan]⟩

theorem Inhibiting.takes {s u : State} {f : FanNo} {rest : List FanNo} (h : Inhibiting s (f :: rest) u) (hf : f ∉ rest) :
    Inhibiting s rest (inhibitFan u f) := by
  have hfree := h.waits f (.head _)
  obtain ⟨r, hown⟩ := inhibitFan_fan hfree
  have hact := FanAct.move f Fan.toInhibited u
  have hothers : ∀ k, k ≠ f → ((inhibitFan u f).fan k).fixed = (u.fan k).fixed := fun k hk => by
    rw [inhibitFan_eq hfree]
    exact hact.others_fixed hk
  refine ⟨fun k => ?_, fun k hk => ?_, fun k hk hs => ?_, fun k hs => ?_⟩
  · by_cases hkf : k = f
    · rw [hkf, hown]
      exact h.kept f
    · obtain ⟨hcfg, hlatch⟩ := h.kept k
      exact ⟨(congrArg Fan.cfg (hothers k hkf) :).trans hcfg, (congrArg Fan.latch (hothers k hkf) :).trans hlatch⟩
  · have hkf : k ≠ f := fun e => hf (e ▸ hk)
    rw [availableState_of_fixed (state_of_fixed (hothers k hkf))]
    exact h.waits k (.tail _ hk)
  · by_cases hkf : k = f
    · rw [hkf, hown]
      exact ⟨rfl, rfl, rfl⟩
    · obtain ⟨hstate, hrun, hdrive⟩ := h.done k (by simp [hkf, hk]) hs
      have hstill := hact.others k hkf
      obtain ⟨r', hr'⟩ := run_resting (moveFan f Fan.toInhibited u).2 (s := (moveFan f Fan.toInhibited u).1) (f := k)
        (by rw [hstill, hstate]; rfl)
      rw [inhibitFan_eq hfree, runEffect, hr', hstill]
      exact ⟨hstate, hrun, hdrive⟩
  · have hkf : k ≠ f := fun e => by
      rw [← availableState_of_fixed (h.apart k hs), e, hfree] at hs
      exact nomatch hs
    exact (state_of_fixed (hothers k hkf)).trans (h.apart k hs)

/-- From s the fans outside this list have been released from INHIBITED, in the state u. -/
structure Releasing (s : State) (rest : List FanNo) (u : State) : Prop where
  kept : ∀ k, (u.fan k).cfg = (s.fan k).cfg ∧ (u.fan k).latch = (s.fan k).latch
  waits : ∀ k ∈ rest, (u.fan k).state = some .inhibited
  done : ∀ k, k ∉ rest → (u.fan k).state ≠ some .inhibited
  apart : ∀ k, (s.fan k).state ≠ some .inhibited → fixedState (u.fan k).state = fixedState (s.fan k).state

/-- The release of one fan, before its hand-overs. -/
abbrev released (f : FanNo) (u : State) : Effect := ((moveFan f Fan.toStopped u).1, (moveFan f Fan.toStopped u).2 ++ [.startAttempt f])

theorem releaseInhibited_eq {u : State} {f : FanNo} (h : (u.fan f).state = some .inhibited) :
    releaseInhibited u f = runEffect (released f u) := if_pos (by simp [State.inhibited, h])

theorem fixed_inhibited {x : Option FanState} : fixedState x = some .inhibited ↔ x = some .inhibited := by
  rcases x with - | st
  · simp [fixedState]
  · cases st <;> simp [fixedState]

theorem Releasing.takes {s u : State} {f : FanNo} {rest : List FanNo} (h : Releasing s (f :: rest) u) (hf : f ∉ rest) :
    Releasing s rest (releaseInhibited u f) := by
  have hheld := h.waits f (.head _)
  have hhanded := runEffect_handedOn (released f u)
  have hact := FanAct.move f Fan.toStopped u
  rw [← releaseInhibited_eq hheld] at hhanded
  have hown : ((releaseInhibited u f).fan f).fixed = (u.fan f).toStopped.fixed := by rw [hhanded.fan f, moveFan_fan]
  have hothers : ∀ k, k ≠ f → ((releaseInhibited u f).fan k).fixed = (u.fan k).fixed := fun k hk => by
    rw [hhanded.fan k, hact.others k hk]
  refine ⟨fun k => ?_, fun k hk => ?_, fun k hk hstate => ?_, fun k hs => ?_⟩
  · obtain ⟨hcfg, hlatch⟩ := h.kept k
    by_cases hkf : k = f
    · subst hkf
      exact ⟨(congrArg Fan.cfg hown :).trans hcfg, (congrArg Fan.latch hown :).trans hlatch⟩
    · exact ⟨(congrArg Fan.cfg (hothers k hkf) :).trans hcfg, (congrArg Fan.latch (hothers k hkf) :).trans hlatch⟩
  · have hkf : k ≠ f := fun e => hf (e ▸ hk)
    rw [← fixed_inhibited, state_of_fixed (hothers k hkf), fixed_inhibited]
    exact h.waits k (.tail _ hk)
  · rw [← fixed_inhibited] at hstate
    by_cases hkf : k = f
    · rw [hkf, state_of_fixed hown] at hstate
      exact nomatch hstate
    · rw [state_of_fixed (hothers k hkf), fixed_inhibited] at hstate
      exact h.done k (by simp [hkf, hk]) hstate
  · have hkf : k ≠ f := fun e => by
      have hstill := h.apart k hs
      rw [e, hheld] at hstill
      exact hs (by rw [e]; exact fixed_inhibited.mp hstill.symm)
    exact (state_of_fixed (hothers k hkf)).trans (h.apart k hs)

/-- What each fan of a list carries on as it takes its turn, all of them carry to the end. -/
theorem foldl_turns {P : List FanNo → State → Prop} {g : State → FanNo → State}
    (hg : ∀ f rest u, f ∉ rest → P (f :: rest) u → P rest (g u f)) {fs : List FanNo} (hnodup : fs.Nodup) {s : State} (h : P fs s) :
    P [] (fs.foldl g s) := by
  induction fs generalizing s with
  | nil => exact h
  | cons f rest ih =>
    obtain ⟨hf, hrest⟩ := List.nodup_cons.mp hnodup
    exact ih hrest (hg f rest s hf h)

end Sys2Proof.Machine

end

/-! PROOFS. OUTPUT INHIBIT becoming active and inactive (R125, R126), put together from the turns of the fans. -/

section

namespace Sys2Proof.Machine

theorem fixed_tripped {x : Option FanState} : fixedState x = some .tripped ↔ x = some .tripped := by
  rcases x with - | st
  · simp [fixedState]
  · cases st <;> simp [fixedState]

theorem fixed_none {x : Option FanState} : fixedState x = none ↔ x = none := by
  rcases x with - | st
  · simp [fixedState]
  · cases st <;> simp [fixedState]

/-! ### The turns -/

/-- The state in which the fans begin to take the inhibit, whatever their order. -/
def inhibitSettled (code : EventCode) (n : Nat) (s : State) : State := { settleInhibit code s with choices := n }

theorem inFreeOrder_turns (fans : List FanNo) (hnodup : fans.Nodup) (g : State → FanNo → State) (code : EventCode) (s : State) :
    ∃ (l : List FanNo) (n : Nat), l.Perm fans ∧ l.Nodup ∧ inFreeOrder fans g (settleInhibit code s) = l.foldl g (inhibitSettled code n s) :=
  ⟨_, _, freeOrder_perm _ _, (freeOrder_perm s.choices fans).nodup_iff.mpr hnodup, rfl⟩

theorem allFans_nodup : allFans.Nodup := by decide

theorem foldl_inhibit {g : State → FanNo → State} (hg : ∀ u f, Alters Part.reached u (g u f)) (l : List FanNo) {s : State}
    {code : EventCode} {n : Nat} {level : Bool} (hinput : s.inhibit.input = level) :
    (l.foldl g (inhibitSettled code n s)).inhibit = ⟨level, level, none⟩ ∧
      Appended (s.evq.push ⟨s.tb.clock, .node, code, none, none, false⟩) (l.foldl g (inhibitSettled code n s)).evq := by
  have halters := foldl_alters hg l (inhibitSettled code n s)
  have hkept : (l.foldl g (inhibitSettled code n s)).inhibit = (inhibitSettled code n s).inhibit := halters.1 .inhibit (by decide)
  refine ⟨hkept.trans ?_, halters.2.appended⟩
  simp [inhibitSettled, settleInhibit, appendEvent, Debounced.settle, hinput]

/-- A fan's change keeps countdowns that stand loaded. -/
theorem FanAct.still_loaded {f : FanNo} {s u : State} {e : Effect} (h : FanAct f u e) (hfixed : ∀ c, (u.ch c).fixed = (s.ch c).fixed)
    (hloaded : CountdownsLoaded s u) :
    (∀ c, ((runEffect e).ch c).fixed = (s.ch c).fixed) ∧ CountdownsLoaded s (runEffect e) := by
  have hch : ∀ c, e.1.ch c = u.ch c := fun c => by rw [State.ch, h.channels, State.ch]
  refine ⟨fun c => (h.channels_fixed c).trans (hfixed c), Carried.still_loaded (u := e.1) ?_ ?_ (run_carried e.2 e.1)⟩
  · intro c
    rw [hch, hfixed]
  · intro c
    rw [hch, hloaded c]

theorem inhibitFan_still_loaded {s u : State} (f : FanNo)
    (h : (∀ c, (u.ch c).fixed = (s.ch c).fixed) ∧ CountdownsLoaded s u) :
    (∀ c, ((inhibitFan u f).ch c).fixed = (s.ch c).fixed) ∧ CountdownsLoaded s (inhibitFan u f) := by
  unfold inhibitFan
  split
  · exact (FanAct.move f Fan.toInhibited u).still_loaded h.1 h.2
  · exact h

/-! ### The first fan that enters INHIBITED -/

section First

variable {u : State} {f : FanNo} (h : availableState (u.fan f).state = true)

include h

theorem disturbs_inhibited : disturbs (u.fan f).state (some .inhibited) = true := by
  have hne : (u.fan f).state ≠ some .inhibited := fun e => by rw [e] at h; exact nomatch h
  simp [disturbs, hne]

theorem inhibitFan_loaded : CountdownsLoaded u (inhibitFan u f) := by
  rw [inhibitFan_eq h]
  refine (FanAct.move f Fan.toInhibited u).loaded ?_
  have hne : (u.fan f).state ≠ some .inhibited := fun e => by rw [e] at h; exact nomatch h
  have hafter : ((moveFan f Fan.toInhibited u).1.fan f).state = some .inhibited := congrArg Fan.state (moveFan_fan f _ u)
  rw [hafter]
  simp [loadsCountdown, hne]

theorem inhibitFan_aborts {e : CalEntry} {rest : List CalEntry} (hair : u.cal.phase.airOn = true) (hqueue : u.cal.queue = e :: rest) :
    Appended (u.evq.push ⟨u.tb.clock, .cal e.channel, .calAborted, some 2, some (if e.retried then 0 else 1), false⟩)
      (inhibitFan u f).evq := by
  rw [inhibitFan_eq h]
  exact run_fanMoved_entry (s := (moveFan f Fan.toInhibited u).1) (disturbs_inhibited h) hair hqueue f []

end First

/-! ### The release -/

theorem releaseInhibited_countdowns {u : State} (hregime : u.rau.regime ≠ .auto) (f : FanNo) :
    (releaseInhibited u f).rau.regime = u.rau.regime ∧ CountdownsKept u (releaseInhibited u f) := by
  by_cases hheld : (u.fan f).state = some .inhibited
  · rw [releaseInhibited_eq hheld]
    have hgentle : Gentle (released f u).2 := by
      simp only [moveFan, hheld]
      rfl
    exact ⟨(runEffect_handedOn (released f u)).regime, countdownsKept_of_channels rfl (run_gentle hregime hgentle)⟩
  · have hstill : releaseInhibited u f = u := if_neg (by simpa [State.inhibited] using hheld)
    rw [hstill]
    exact ⟨rfl, fun _ => rfl⟩

theorem foldl_release_countdowns (l : List FanNo) {s : State} (hregime : s.rau.regime ≠ .auto) :
    CountdownsKept s (l.foldl releaseInhibited s) :=
  (foldl_keeps (P := fun u => u.rau.regime = s.rau.regime ∧ CountdownsKept s u)
    (fun u f hu => by
      obtain ⟨hkept, hcount⟩ := releaseInhibited_countdowns (u := u) (by rw [hu.1]; exact hregime) f
      exact ⟨hkept.trans hu.1, countdownsKept_trans hu.2 hcount⟩) l ⟨rfl, fun _ => rfl⟩).2

/-! ### The statement -/

theorem exec_inhibitOn {s : State} (hover : s.debounced s.inhibit = true) (hinput : s.inhibit.input = true) :
    exec .inhibitOn s = .next (inFreeOrder (allFans.filter s.inhibitable) inhibitFan (settleInhibit .inhibitOn s)) :=
  congrArg Host.Outcome.next (if_pos (by simp [State.inhibitOver, hover, hinput]))

theorem exec_inhibitOff {s : State} (hover : s.debounced s.inhibit = true) (hinput : s.inhibit.input = false) :
    exec .inhibitOff s = .next (inFreeOrder (allFans.filter s.inhibited) releaseInhibited (settleInhibit .inhibitOff s)) :=
  congrArg Host.Outcome.next (if_pos (by simp [State.inhibitOver, hover, hinput]))

/-- Every fan in operation takes the active inhibit in its turn. -/
theorem inhibiting_end {s : State} {l : List FanNo} (hperm : l.Perm (allFans.filter s.inhibitable)) (hnodup : l.Nodup) (n : Nat) :
    Inhibiting s [] (l.foldl inhibitFan (inhibitSettled .inhibitOn n s)) := by
  have hmem : ∀ k, k ∈ l ↔ availableState (s.fan k).state = true := fun k => by
    rw [hperm.mem_iff]
    simp [mem_allFans, State.inhibitable]
  refine foldl_turns (fun f rest u hf h => h.takes hf) hnodup ⟨fun k => ⟨rfl, rfl⟩, fun k => (hmem k).mp, fun k hk hs => ?_, fun _ _ => rfl⟩
  exact absurd ((hmem k).mpr hs) hk

/-- Every INHIBITED fan is released in its turn. -/
theorem releasing_end {s : State} {l : List FanNo} (hperm : l.Perm (allFans.filter s.inhibited)) (hnodup : l.Nodup) (n : Nat) :
    Releasing s [] (l.foldl releaseInhibited (inhibitSettled .inhibitOff n s)) := by
  have hmem : ∀ k, k ∈ l ↔ (s.fan k).state = some .inhibited := fun k => by
    rw [hperm.mem_iff]
    simp [mem_allFans, State.inhibited]
  exact foldl_turns (fun f rest u hf h => h.takes hf) hnodup
    ⟨fun k => ⟨rfl, rfl⟩, fun k => (hmem k).mp, fun k hk hs => hk ((hmem k).mpr hs), fun _ _ => rfl⟩

/-- What the first fan in operation begins: the countdowns loaded, and a head in PURGING or ACCUMULATING aborted. -/
theorem inhibiting_first {s : State} {l : List FanNo} (hperm : l.Perm (allFans.filter s.inhibitable))
    (hsome : ∃ f, availableState (s.fan f).state = true) (n : Nat) :
    CountdownsLoaded s (l.foldl inhibitFan (inhibitSettled .inhibitOn n s)) ∧
      ∀ (e : CalEntry) (rest : List CalEntry), s.cal.phase.airOn = true → s.cal.queue = e :: rest →
        QuietLostNext e (s.evq.push ⟨s.tb.clock, .node, .inhibitOn, none, none, false⟩) s
          (l.foldl inhibitFan (inhibitSettled .inhibitOn n s)) := by
  obtain ⟨k, hk⟩ := hsome
  cases l with
  | nil =>
    have hin : k ∈ ([] : List FanNo) := hperm.mem_iff.mpr (by simp [mem_allFans, State.inhibitable, hk])
    exact absurd hin (List.not_mem_nil)
  | cons f fs =>
    have hfree : availableState (s.fan f).state = true := by
      have hin := hperm.mem_iff.mp (List.mem_cons_self (a := f) (l := fs))
      simpa [mem_allFans, State.inhibitable] using hin
    have hfree' : availableState ((inhibitSettled .inhibitOn n s).fan f).state = true := hfree
    refine ⟨?_, fun e rest hair hqueue => ?_⟩
    · have hfirst : CountdownsLoaded s (inhibitFan (inhibitSettled .inhibitOn n s) f) := inhibitFan_loaded hfree'
      have hfixed : ∀ c, ((inhibitFan (inhibitSettled .inhibitOn n s) f).ch c).fixed = (s.ch c).fixed := fun c => by
        rw [inhibitFan_eq hfree']
        exact (FanAct.move f Fan.toInhibited (inhibitSettled .inhibitOn n s)).channels_fixed c
      exact (foldl_keeps (P := fun u => (∀ c, (u.ch c).fixed = (s.ch c).fixed) ∧ CountdownsLoaded s u)
        (fun u k hu => inhibitFan_still_loaded k hu) fs ⟨hfixed, hfirst⟩).2
    · exact (inhibitFan_aborts (u := inhibitSettled .inhibitOn n s) hfree' hair hqueue).trans
        (foldl_alters inhibitFan_alters fs _).2.appended

/-- Settles O41: what the turns of the fans leave, in whatever order they come. -/
theorem inhibitActsOnFans : Obligations.InhibitActsOnFans := by
  refine fun s _ hover => ⟨fun hinput => ⟨_, exec_inhibitOn hover hinput, ?_⟩, fun hinput => ⟨_, exec_inhibitOff hover hinput, ?_⟩⟩
  · obtain ⟨l, n, hperm, hnodup, hturns⟩ :=
      inFreeOrder_turns (allFans.filter s.inhibitable) (allFans_nodup.filter _) inhibitFan .inhibitOn s
    have hsame : sameBut (.inhibit :: .choices :: Part.reached) s (inhibitActive s) := (inhibitActive_alters s).1
    rw [inhibitActive, if_pos (by simp [State.inhibitOver, hover, hinput])] at hsame
    obtain ⟨hlevel, hentry⟩ := foldl_inhibit (code := .inhibitOn) (n := n) inhibitFan_alters l hinput
    have hends := inhibiting_end hperm hnodup n
    rw [hturns] at hsame ⊢
    refine ⟨hlevel, fun f => ⟨(hends.kept f).1, (hends.kept f).2, hends.done f (List.not_mem_nil), fun htripped => ?_, fun habsent => ?_⟩,
      hsame, fun hsome => (inhibiting_first hperm hsome n).1, fun hnone => ?_, ?_⟩
    · have hapart := hends.apart f (by rw [htripped]; rfl)
      rw [htripped] at hapart
      exact fixed_tripped.mp hapart
    · have hapart := hends.apart f (by rw [habsent]; rfl)
      rw [habsent] at hapart
      exact fixed_none.mp hapart
    · have hnil : l = [] := List.eq_nil_iff_forall_not_mem.mpr fun k hk => by
        have hin := hperm.mem_iff.mp hk
        simp [mem_allFans, State.inhibitable, hnone k] at hin
      rw [hnil]
      exact ⟨rfl, rfl⟩
    · rintro q rfl
      exact ⟨hentry, fun e rest hsome => (inhibiting_first hperm hsome n).2 e rest⟩
  · obtain ⟨l, n, hperm, hnodup, hturns⟩ :=
      inFreeOrder_turns (allFans.filter s.inhibited) (allFans_nodup.filter _) releaseInhibited .inhibitOff s
    have hsame : sameBut (.inhibit :: .choices :: Part.reached) s (inhibitInactive s) := (inhibitInactive_alters s).1
    rw [inhibitInactive, if_pos (by simp [State.inhibitOver, hover, hinput])] at hsame
    obtain ⟨hlevel, hentry⟩ := foldl_inhibit (code := .inhibitOff) (n := n) releaseInhibited_alters l hinput
    have hends := releasing_end hperm hnodup n
    rw [hturns] at hsame ⊢
    refine ⟨hlevel, fun f => ⟨(hends.kept f).1, (hends.kept f).2, hends.done f (List.not_mem_nil), fun htripped => ?_, fun habsent => ?_⟩,
      hsame, fun hregime => foldl_release_countdowns (s := inhibitSettled .inhibitOff n s) l hregime, hentry⟩
    · have hapart := hends.apart f (by rw [htripped]; decide)
      rw [htripped] at hapart
      exact fixed_tripped.mp hapart
    · have hapart := hends.apart f (by rw [habsent]; decide)
      rw [habsent] at hapart
      exact fixed_none.mp hapart

end Sys2Proof.Machine

end

/-! PROOFS. How a fan follows the stage and direction handed to it (R116–R121, R140), one equation per case. -/

section

namespace Sys2Proof.Machine

/-! ### Following by the fan's state -/

section Follow

variable {f : FanNo} {s : State}

theorem followHandover_coasting (h : (s.fan f).state = some .coasting) (eff : Nat) : followHandover f eff s = (s, []) := by
  simp only [followHandover, h]

theorem followHandover_stopped (h : (s.fan f).state = some .stopped) (eff : Nat) : followHandover f eff s = startAttempt f s := by
  simp only [followHandover, h]

theorem startAttempt_zero (hzero : (s.fan f).effStage = 0) : startAttempt f s = (s, []) :=
  if_neg fun h => by omega

theorem startAttempt_reverses (h : (s.fan f).state = some .stopped) (hpos : (s.fan f).effStage ≠ 0)
    (hdir : (s.fan f).reqDir ≠ (s.fan f).dirOut) (hfast : aboveCoast (s.fan f).cfg (s.fan f).reading = true) :
    startAttempt f s = reverseFan f s := by
  simp only [startAttempt]
  rw [if_pos ⟨h, Nat.pos_of_ne_zero hpos⟩, if_pos ⟨hdir, hfast⟩]

theorem startAttempt_attempts (h : (s.fan f).state = some .stopped) (hpos : (s.fan f).effStage ≠ 0)
    (hslow : ¬((s.fan f).reqDir ≠ (s.fan f).dirOut ∧ aboveCoast (s.fan f).cfg (s.fan f).reading = true)) :
    startAttempt f s = budgetAttempt f s := by
  simp only [startAttempt]
  rw [if_pos ⟨h, Nat.pos_of_ne_zero hpos⟩, if_neg hslow]

theorem followHandover_waits (h : (s.fan f).state = some .waitingBudget) (hpos : (s.fan f).effStage ≠ 0)
    (hregime : s.rau.regime ≠ .incident) (eff : Nat) : followHandover f eff s = (s, []) := by
  simp only [followHandover, h, if_neg hpos, if_neg hregime]

theorem followHandover_stops (h : (s.fan f).state = some .waitingBudget ∨ poweredState (s.fan f).state = true)
    (hzero : (s.fan f).effStage = 0) (eff : Nat) : followHandover f eff s = stopFan f s := by
  rcases h with h | h
  · simp only [followHandover, h, if_pos hzero]
  · rcases poweredState_iff.mp h with h | h | h <;> simp only [followHandover, h, if_pos hzero]

section Powered

variable (h : poweredState (s.fan f).state = true) (hpos : (s.fan f).effStage ≠ 0)

include h hpos

theorem followHandover_reverses (hdir : (s.fan f).reqDir ≠ (s.fan f).dirOut) (eff : Nat) :
    followHandover f eff s = reverseFan f s := by
  rcases poweredState_iff.mp h with h | h | h <;> simp only [followHandover, h, if_neg hpos, if_pos hdir]

variable (hdir : (s.fan f).reqDir = (s.fan f).dirOut)

include hdir

theorem followHandover_changes {eff : Nat} (hstage : (s.fan f).effStage ≠ eff) : followHandover f eff s = changeStage f s := by
  have hsame : ¬(s.fan f).reqDir ≠ (s.fan f).dirOut := not_not.mpr hdir
  rcases poweredState_iff.mp h with h | h | h <;> simp only [followHandover, h, if_neg hpos, if_neg hsame, if_pos hstage]

theorem followHandover_stays {eff : Nat} (hstage : (s.fan f).effStage = eff) : followHandover f eff s = (s, []) := by
  have hsame : ¬(s.fan f).reqDir ≠ (s.fan f).dirOut := not_not.mpr hdir
  have hstill : ¬(s.fan f).effStage ≠ eff := not_not.mpr hstage
  rcases poweredState_iff.mp h with h | h | h <;> simp only [followHandover, h, if_neg hpos, if_neg hsame, if_neg hstill]

end Powered

/-! ### What each act leaves of the fan -/

theorem stopFan_fan : (stopFan f s).1.fan f = (s.fan f).toStopped := moveFan_fan f _ _

theorem reverseFan_fan : (reverseFan f s).1.fan f = (s.fan f).toCoasting s.tb.uptime := moveFan_fan f _ _

theorem changeStage_running (h : (s.fan f).state = some .running) : (changeStage f s).1.fan f = (s.fan f).toChanging s.tb.uptime := by
  simp only [changeStage, h]
  exact moveFan_fan f _ s

theorem changeStage_changing (h : (s.fan f).state = some .changing) : (changeStage f s).1.fan f =
    { s.fan f with drive := (s.fan f).cfg.feedForward (s.fan f).effStage, since := s.tb.uptime } := by
  have hchange : changeStage f s = (s.modFan f fun x =>
      { x with drive := x.cfg.feedForward x.effStage, since := s.tb.uptime }, []) := by simp only [changeStage, h]
  rw [hchange, State.fan_modFan_same]

theorem changeStage_starting (h : (s.fan f).state = some .starting) : (changeStage f s).1.fan f =
    { s.fan f with drive := (s.fan f).cfg.feedForward (s.fan f).effStage } := by
  have hchange : changeStage f s = (s.modFan f fun x => { x with drive := x.cfg.feedForward x.effStage }, []) := by
    simp only [changeStage, h]
  rw [hchange, State.fan_modFan_same]

theorem changeStage_evq : (changeStage f s).1.evq = s.evq := by
  unfold changeStage
  split <;> rfl

theorem reverseFan_evq : (reverseFan f s).1.evq =
    s.evq.push ⟨s.tb.clock, .fan f, .fanReverse, some (s.fan f).reqDir.code, none, false⟩ := rfl

end Follow

theorem aboveCoast_iff {cfg : FanConfig} {r : Option Reading} :
    aboveCoast cfg r = true ↔ ∃ p, r = some (.period p) ∧ p < cfg.coastPeriod := by
  rcases r with - | r
  · simp [aboveCoast]
  · cases r <;> simp [aboveCoast]

/-! ### The entries of a fan set moving -/

/-- The entry of an act that sets the fan moving: FAN REVERSE where it coasts, and none where it starts or changes. -/
structure MovingEntry (f : FanNo) (s : State) (e : Effect) : Prop where
  entry : movingState (e.1.fan f).state = true → (e.1.fan f).state ≠ (s.fan f).state → e.1.evq =
    if (e.1.fan f).state = some .coasting then s.evq.push ⟨s.tb.clock, .fan f, .fanReverse, some (s.fan f).reqDir.code, none, false⟩
    else s.evq

section MovingEntry

variable (f : FanNo) (s : State)

theorem movingEntry_none : MovingEntry f s (s, []) := ⟨fun _ hne => absurd rfl hne⟩

theorem movingEntry_reverse : MovingEntry f s (reverseFan f s) := ⟨fun _ _ => by
  have hcoasts : ((reverseFan f s).1.fan f).state = some .coasting := by rw [reverseFan_fan]; rfl
  rw [if_pos hcoasts, reverseFan_evq]⟩

theorem movingEntry_stop : MovingEntry f s (stopFan f s) := ⟨fun hmoving => by
  rw [stopFan_fan] at hmoving
  exact nomatch hmoving⟩

theorem movingEntry_attempt : MovingEntry f s (budgetAttempt f s) := ⟨fun hmoving _ => by
  by_cases hfree : s.rau.regime = .incident ∨ (s.windowStamps f).length < (s.fan f).cfg.budget
  · have hstarts : ((budgetAttempt f s).1.fan f).state ≠ some .coasting := by rw [budgetAttempt_permitted hfree]; exact nofun
    rw [if_neg hstarts]
    simp only [budgetAttempt, if_pos hfree]
    rfl
  · rw [not_or, Nat.not_lt] at hfree
    rw [budgetAttempt_spent hfree.1 hfree.2] at hmoving
    exact nomatch hmoving⟩

theorem movingEntry_startAttempt : MovingEntry f s (startAttempt f s) := by
  simp only [startAttempt]
  split_ifs
  · exact movingEntry_reverse f s
  · exact movingEntry_attempt f s
  · exact movingEntry_none f s

theorem movingEntry_change : MovingEntry f s (changeStage f s) := ⟨fun _ hne => by
  have hstays : ((changeStage f s).1.fan f).state ≠ some .coasting := by
    intro hcoasts
    cases hstate : (s.fan f).state with
    | none =>
      simp only [changeStage, hstate] at hne
      exact absurd rfl hne
    | some st =>
      cases st with
      | running => rw [changeStage_running hstate] at hcoasts; exact nomatch hcoasts
      | changing =>
        rw [changeStage_changing hstate] at hcoasts
        exact nomatch hstate.symm.trans hcoasts
      | starting =>
        rw [changeStage_starting hstate] at hcoasts
        exact nomatch hstate.symm.trans hcoasts
      | stopped | waitingBudget | coasting | tripped | inhibited =>
        simp only [changeStage, hstate] at hne
        exact absurd rfl hne
  rw [if_neg hstays, changeStage_evq]⟩

theorem movingEntry_follow (eff : Nat) (hregime : s.rau.regime ≠ .incident) : MovingEntry f s (followHandover f eff s) := by
  by_cases hpowered : poweredState (s.fan f).state = true
  · by_cases hzero : (s.fan f).effStage = 0
    · rw [followHandover_stops (.inr hpowered) hzero]
      exact movingEntry_stop f s
    · by_cases hdir : (s.fan f).reqDir = (s.fan f).dirOut
      · by_cases hstage : (s.fan f).effStage = eff
        · rw [followHandover_stays hpowered hzero hdir hstage]
          exact movingEntry_none f s
        · rw [followHandover_changes hpowered hzero hdir hstage]
          exact movingEntry_change f s
      · rw [followHandover_reverses hpowered hzero hdir]
        exact movingEntry_reverse f s
  · cases hstate : (s.fan f).state with
    | none =>
      rw [followHandover_resting (by rw [hstate]; rfl)]
      exact movingEntry_none f s
    | some st =>
      rw [hstate] at hpowered
      cases st with
      | stopped =>
        rw [followHandover_stopped hstate]
        exact movingEntry_startAttempt f s
      | waitingBudget =>
        by_cases hzero : (s.fan f).effStage = 0
        · rw [followHandover_stops (.inl hstate) hzero]
          exact movingEntry_stop f s
        · rw [followHandover_waits hstate hzero hregime]
          exact movingEntry_none f s
      | coasting =>
        rw [followHandover_coasting hstate]
        exact movingEntry_none f s
      | tripped | inhibited =>
        rw [followHandover_resting (by rw [hstate]; rfl)]
        exact movingEntry_none f s
      | starting | changing | running => exact absurd rfl hpowered

end MovingEntry

end Sys2Proof.Machine

end

/-! PROOFS. FAN COMMAND in MANUAL (R151): what the RAU holds, what the fan does with it, and what its change leads to. -/

section

namespace Sys2Proof.Machine

/-! ### Hand-overs in MANUAL -/

/-- In MANUAL nothing is sought, so DEMAND SHORT stays clear (R164). -/
theorem evaluateShort_manual {s : State} (hmanual : s.rau.regime = .manual) (hshort : s.rau.short = false) : evaluateShort s = s := by
  have hnone : s.thrustSought = 0 := by simp [State.thrustSought, hmanual]
  simp [evaluateShort, hnone, hshort]

/-- Outside AUTO what the RAU holds for the fans stands under hand-overs that reach none, and in MANUAL so does DEMAND SHORT clear. -/
theorem perform_aside_rau {w : Work} {s : State} (h : w.aside = true) : (perform w s).1.rau.fans = s.rau.fans ∧
    (s.rau.regime = .manual → s.rau.short = false → (perform w s).1.rau.short = false) := by
  cases w with
  | fanMoved f a b => rw [perform_rau s (.inr (.inl ⟨f, a, b, rfl⟩))]; exact ⟨rfl, fun _ => id⟩
  | nextHead | quietTest | availability => rw [perform_rau s (.inr (.inr (by simp)))]; exact ⟨rfl, fun _ => id⟩
  | contribution c => exact ⟨rfl, fun _ => id⟩
  | calEnded c =>
    simp only [perform, receiveCalEnd]
    split
    · exact ⟨rfl, fun _ => id⟩
    · exact ⟨rfl, fun _ => id⟩
  | demandShort =>
    refine ⟨evaluateShort_rauFans s, fun hmanual hshort => ?_⟩
    rw [perform, evaluateShort_manual hmanual hshort]
    exact hshort
  | startAttempt f | handFan f | handRegime f | reevaluate | reform | giveRole f | grantDue | grant f => exact nomatch h

theorem run_aside_rau {ws : List Work} {s : State} (hregime : s.rau.regime ≠ .auto) (h : Aside ws) :
    (run ws s).rau.fans = s.rau.fans ∧ (s.rau.regime = .manual → s.rau.short = false → (run ws s).rau.short = false) := by
  refine (run_induction (J := fun vs t => t.rau.regime = s.rau.regime ∧ Aside vs ∧ t.rau.fans = s.rau.fans ∧
    (s.rau.regime = .manual → s.rau.short = false → t.rau.short = false)) ?_ ?_ ⟨rfl, h, rfl, fun _ => id⟩).2.2
  · rintro rest t ⟨hkept, haside, hrau⟩
    exact ⟨hkept, (aside_cons.mp haside).2, hrau⟩
  · rintro w rest t ⟨hkept, haside, hfans, hshort⟩
    obtain ⟨hw, hrest⟩ := aside_cons.mp haside
    obtain ⟨hfans', hshort'⟩ := perform_aside_rau (s := t) hw
    exact ⟨(perform_handedOn w t).regime.trans hkept, aside_append (perform_aside (hkept ▸ hregime) hw) hrest, hfans'.trans hfans,
      fun hmanual hclear => hshort' (hkept.trans hmanual) (hshort hmanual hclear)⟩

theorem headAborted_of_same {e : CalEntry} {rest : List CalEntry} {t u : State} (hcal : u.cal = t.cal) (hchannels : u.channels = t.channels)
    (hfans : u.fans = t.fans) (h : HeadAborted e rest t) : HeadAborted e rest u := by
  have hch : u.ch e.channel = t.ch e.channel := by rw [State.ch, hchannels, State.ch]
  have hmoving : u.fansMoving = t.fansMoving := by simp only [State.fansMoving, State.fan, hfans]
  rw [HeadAborted, hcal, hch, hmoving]
  exact h

/-- A change inside the operating states loads the countdowns exactly where it ends a transition (R52). -/
theorem loadsCountdown_operating {a b : Option FanState} (h : fixedState b = fixedState a) (hunmoving : movingState a = false) :
    loadsCountdown a b = false := by
  by_cases hsame : a = b
  · simp [loadsCountdown, hsame]
  · have htripped : b ≠ some .tripped := fun e => hsame (by rw [e] at h ⊢; exact fixed_tripped.mp h.symm)
    have hinhibited : b ≠ some .inhibited := fun e => hsame (by rw [e] at h ⊢; exact fixed_inhibited.mp h.symm)
    simp [loadsCountdown, hunmoving, htripped, hinhibited]

/-! ### The fan's act -/

section Act

variable {f : FanNo} {v : State} {e : Effect} (hact : FanAct f v e)

include hact

/-- A change that ends no transition leaves the countdowns outside AUTO. -/
theorem FanAct.countdowns_kept (hhanded : HandedOn v e.1) (hregime : v.rau.regime ≠ .auto)
    (hstill : movingState (v.fan f).state = false ∨ (e.1.fan f).state = (v.fan f).state) : CountdownsKept v (runEffect e) := by
  refine countdownsKept_of_channels hact.channels (run_gentle (by rw [hact.rau]; exact hregime) ?_)
  rcases hact.works with ⟨hnone, -⟩ | hmoved
  · rw [hnone]
    rfl
  · have hload : loadsCountdown (v.fan f).state (e.1.fan f).state = false := by
      rcases hstill with hunmoving | hsame
      · exact loadsCountdown_operating (state_of_fixed (hhanded.fan f)) hunmoving
      · simp [loadsCountdown, hsame]
    rw [hmoved]
    simp [Work.gentle, hload]

/-- A fan set moving aborts a head in PURGING or ACCUMULATING. -/
theorem FanAct.aborts (hmoving : movingState (e.1.fan f).state = true) (hne : (e.1.fan f).state ≠ (v.fan f).state)
    (hair : v.cal.phase.airOn = true) {k : CalEntry} {rest : List CalEntry} (hqueue : v.cal.queue = k :: rest) :
    Appended (e.1.evq.push ⟨v.tb.clock, .cal k.channel, .calAborted, some 2, some (if k.retried then 0 else 1), false⟩)
        (runEffect e).evq ∧
      (v.rau.regime ≠ .auto → HeadAborted k rest (runEffect e)) := by
  have hdisturbs : disturbs (v.fan f).state (e.1.fan f).state = true := by
    simp [disturbs, hmoving, hne.symm]
  have hair' : e.1.cal.phase.airOn = true := by rw [hact.cal]; exact hair
  have hqueue' : e.1.cal.queue = k :: rest := by rw [hact.cal]; exact hqueue
  have htb : e.1.tb = v.tb := hact.alters.1 .tb (by decide)
  have hentry := run_fanMoved_entry hdisturbs hair' hqueue' f []
  rw [htb] at hentry
  rw [runEffect, hact.works_of_moved hne]
  exact ⟨hentry, fun hregime => run_fanMoved_aborts hdisturbs hair' hqueue' (by rw [hact.rau]; exact hregime) f⟩

end Act

/-! ### The command -/

/-- The fan handed what the RAU holds for it. -/
abbrev handed (f : FanNo) (v : State) : Effect := perform (.handFan f) v

theorem handed_holding {f : FanNo} {v : State} (h : (v.fan f).holds (v.held f) = true) : handed f v = (v, []) := if_pos h

theorem handed_follows {f : FanNo} {v : State} (h : (v.fan f).holds (v.held f) = false) :
    handed f v = followHandover f (v.fan f).effStage (v.modFan f (·.store (v.held f))) := if_neg (ne_true_of_eq_false h)

theorem run_handed {f : FanNo} (v : State) : run [.handFan f, .demandShort] v = evaluateShort (runEffect (handed f v)) := by
  rw [run_cons (postponed_of_ne (by simp) _), run_append _ rfl, run_singleton]
  exact run_nil _

theorem handed_movingEntry (f : FanNo) {v : State} (hregime : v.rau.regime ≠ .incident)
    (hmoving : movingState ((handed f v).1.fan f).state = true) (hne : ((handed f v).1.fan f).state ≠ (v.fan f).state) :
    (handed f v).1.evq = if ((handed f v).1.fan f).state = some .coasting then
      v.evq.push ⟨v.tb.clock, .fan f, .fanReverse, some (v.held f).dir.code, none, false⟩ else v.evq := by
  cases hholds : (v.fan f).holds (v.held f) with
  | true =>
    rw [handed_holding hholds] at hne
    exact absurd rfl hne
  | false =>
    have hfan := State.fan_modFan_same v f (·.store (v.held f))
    rw [handed_follows hholds] at hmoving hne ⊢
    have hentry := (movingEntry_follow f (v.modFan f (·.store (v.held f))) (v.fan f).effStage hregime).entry hmoving
      (by rw [hfan]; exact hne)
    rw [hfan] at hentry
    exact hentry

/-- What FAN COMMAND leaves in MANUAL, of the act by which the fan takes what it is handed. -/
structure CommandLeaves (f : FanNo) (v u : State) : Prop where
  handedOn : HandedOn v u
  fan : u.fan f = (handed f v).1.fan f
  held : ∀ g, u.held g = v.held g
  short : v.rau.short = false → u.rau.short = false
  loaded : movingState (v.fan f).state = true → (u.fan f).state ≠ (v.fan f).state → CountdownsLoaded v u
  kept : movingState (v.fan f).state = false ∨ (u.fan f).state = (v.fan f).state → CountdownsKept v u
  aborts : ∀ (k : CalEntry) (rest : List CalEntry), movingState (u.fan f).state = true → (u.fan f).state ≠ (v.fan f).state →
    v.cal.phase.airOn = true → v.cal.queue = k :: rest → HeadAborted k rest u ∧
      Appended (EventQueue.push (if (u.fan f).state = some .coasting then
          v.evq.push ⟨v.tb.clock, .fan f, .fanReverse, some (v.held f).dir.code, none, false⟩ else v.evq)
        ⟨v.tb.clock, .cal k.channel, .calAborted, some 2, some (if k.retried then 0 else 1), false⟩) u.evq
  entries : Appended (handed f v).1.evq u.evq

theorem run_handed_leaves (f : FanNo) {v : State} (hmanual : v.rau.regime = .manual) :
    CommandLeaves f v (run [.handFan f, .demandShort] v) := by
  have hact : FanAct f v (handed f v) := perform_act rfl v
  have hregime : v.rau.regime ≠ .auto := by rw [hmanual]; decide
  have hhanded : HandedOn v (handed f v).1 := perform_handedOn _ v
  have hrest := runEffect_handedOn (handed f v)
  have hfans := hact.fans_outsideAuto hregime
  have hshort := evaluateShort_alters (runEffect (handed f v))
  obtain ⟨hrau, hclear⟩ := run_aside_rau (s := (handed f v).1) (by rw [hact.rau]; exact hregime) hact.works_aside
  rw [run_handed]
  have hfan : (evaluateShort (runEffect (handed f v))).fan f = (handed f v).1.fan f := by
    rw [State.fan, hshort.1 .fans (by decide), hfans, State.fan]
  have hchannels : (evaluateShort (runEffect (handed f v))).channels = (runEffect (handed f v)).channels :=
    hshort.1 .channels (by decide)
  refine ⟨hhanded.trans (hrest.trans (evaluateShort_handedOn _)), hfan, fun g => ?_, fun hclear' => ?_, fun hmoving hne => ?_,
    fun hstill => ?_, fun k rest hmoving hne hair hqueue => ?_, hrest.2.trans hshort.2.appended⟩
  · rw [State.held, evaluateShort_rauFans, runEffect, hrau, hact.rau, State.held]
  · have hbefore : (runEffect (handed f v)).rau.short = false := hclear (by rw [hact.rau]; exact hmanual) (by rw [hact.rau]; exact hclear')
    rw [evaluateShort_manual ((hhanded.trans hrest).regime.trans hmanual) hbefore]
    exact hbefore
  · rw [hfan] at hne
    have hloads : loadsCountdown (v.fan f).state ((handed f v).1.fan f).state = true := by
      simp [loadsCountdown, hmoving, hne.symm]
    intro c
    rw [State.ch, hchannels, ← State.ch]
    exact hact.loaded hloads c
  · rw [hfan] at hstill
    intro c
    rw [State.ch, hchannels, ← State.ch]
    exact hact.countdowns_kept hhanded hregime hstill c
  · rw [hfan] at hmoving hne ⊢
    obtain ⟨hentry, habort⟩ := hact.aborts hmoving hne hair hqueue
    rw [handed_movingEntry f (by rw [hmanual]; decide) hmoving hne] at hentry
    exact ⟨headAborted_of_same (hshort.1 .cal (by decide)) hchannels (hshort.1 .fans (by decide)) (habort hregime),
      hentry.trans hshort.2.appended⟩

end Sys2Proof.Machine

end

/-! PROOFS. FAN COMMAND put together (R151): the record that it sets, and the fan that follows it. -/

section

namespace Sys2Proof.Machine

theorem exec_fanCommand {s : State} (hready : s.ready) (f : FanNo) (a b : Byte) :
    exec (.fanCommand .addressed [byte f.val, a, b]) s = .next (beginService 0x29 (commandFan f a.toNat b.toNat (contact s))) := by
  rw [exec_served hready rfl rfl rfl]
  simp [serveOf, serveFanCommand, toNat_byte_fin]

theorem commanded_eq {k : Rau} (hmanual : k.regime = .manual) (a b : Byte) : commanded k a.toNat b.toNat =
    { req := min a.toNat 3, eff := if k.doorOpen then min (min a.toNat 3) k.doorCap else min a.toNat 3,
      dir := if b = 0 then .forward else .reverse } := by
  have hdir : Dir.ofCode b.toNat = if b = 0 then .forward else .reverse := by simp only [Dir.ofCode, byte_eq_zero_iff]
  simp [commanded, hdir, Rau.effective, Rau.capped, hmanual]

theorem holds_changed {x : Fan} {r k : RauFan} (h : x.holds k = true) (hne : r ≠ k) : x.holds r = false := by
  rw [Bool.eq_false_iff]
  intro hr
  have htold := (holds_iff.mp hr).symm.trans (holds_iff.mp h)
  obtain ⟨req, eff, dir⟩ := r
  obtain ⟨req', eff', dir'⟩ := k
  obtain ⟨rfl, rfl, rfl⟩ : req = req' ∧ eff = eff' ∧ dir = dir' := by simpa using htold
  exact hne rfl

/-- The state in which a command's record stands, the fan not yet told. -/
abbrev commandedState (f : FanNo) (r : RauFan) (s : State) : State := (contact s).setHeld f r

section Following

variable {f : FanNo} {r : RauFan} {s : State}

theorem commandedState_fan (k : FanNo) : (commandedState f r s).fan k = s.fan k := contact_fan s k

theorem commandedState_held : (commandedState f r s).held f = r := by rw [held_setHeld, if_pos rfl]

theorem commandedState_tb : (commandedState f r s).tb = s.tb := contact_tb s

theorem commandedState_windowStamps : (commandedState f r s).windowStamps f = s.windowStamps f := by
  have hwindow : (commandedState f r s).inWindow = s.inWindow := by
    funext cfg t
    simp only [State.inWindow, State.stampPassed, State.passed, State.age, commandedState_tb]
    rfl
  rw [State.windowStamps, hwindow, commandedState_fan, State.windowStamps]

/-- The fan as it follows a command that changes what it holds, from the state in which it has stored it. -/
theorem commanded_follows (hholds : (s.fan f).holds r = false) : ∃ w : State,
    handed f (commandedState f r s) = followHandover f (s.fan f).effStage w ∧ w.fan f = (s.fan f).store r ∧
      w.evq = (contact s).evq ∧ w.tb = s.tb ∧ w.rau.regime = s.rau.regime ∧ w.windowStamps f = s.windowStamps f := by
  have hheld := commandedState_held (f := f) (r := r) (s := s)
  have hfan := commandedState_fan (f := f) (r := r) (s := s) f
  refine ⟨(commandedState f r s).modFan f (·.store r), ?_, ?_, rfl, contact_tb s, ?_, ?_⟩
  · rw [handed_follows (by rw [hheld, hfan]; exact hholds), hheld, hfan]
  · rw [State.fan_modFan_same, hfan]
  · have hregime : (contact s).rau.regime = s.rau.regime := by rw [contact_rau]
    exact hregime
  · rw [windowStamps_modFan (g := (·.store r)) rfl rfl, commandedState_windowStamps]

/-! ### The fan by the state it stands in -/

variable {u : State} (hleaves : CommandLeaves f (commandedState f r s) u) (hmanual : s.rau.regime = .manual)
  (hholds : (s.fan f).holds r = false)

include hleaves hholds

/-- A fan that only stores what it is handed. -/
theorem commanded_stores (hcase : (s.fan f).state = none ∨ (s.fan f).state = some .tripped ∨ (s.fan f).state = some .inhibited ∨
      (s.fan f).state = some .coasting ∨ ((s.fan f).state = some .stopped ∧ r.eff = 0) ∨
      ((s.fan f).state = some .waitingBudget ∧ r.eff ≠ 0) ∨
      (poweredState (s.fan f).state = true ∧ r.eff ≠ 0 ∧ r.dir = (s.fan f).dirOut ∧ r.eff = (s.fan f).effStage))
    (hregime : s.rau.regime ≠ .incident) : u.fan f = (s.fan f).store r := by
  obtain ⟨w, hfollows, hfan, -, -, hkept, -⟩ := commanded_follows hholds
  have hstill : followHandover f (s.fan f).effStage w = (w, []) := by
    rcases hcase with h | h | h | h | ⟨h, hzero⟩ | ⟨h, hpos⟩ | ⟨h, hpos, hdir, hstage⟩
    · exact followHandover_resting (by rw [hfan]; exact congrArg availableState h) _
    · exact followHandover_resting (by rw [hfan]; exact congrArg availableState h) _
    · exact followHandover_resting (by rw [hfan]; exact congrArg availableState h) _
    · exact followHandover_coasting (by rw [hfan]; exact h) _
    · rw [followHandover_stopped (by rw [hfan]; exact h), startAttempt_zero (by rw [hfan]; exact hzero)]
    · exact followHandover_waits (by rw [hfan]; exact h) (by rw [hfan]; exact hpos) (by rw [hkept]; exact hregime) _
    · exact followHandover_stays (by rw [hfan]; exact h) (by rw [hfan]; exact hpos) (by rw [hfan]; exact hdir) (by rw [hfan]; exact hstage)
  rw [hleaves.fan, hfollows, hstill, hfan]

/-- A waiting or powered fan handed stage 0 stops. -/
theorem commanded_stops (hcase : (s.fan f).state = some .waitingBudget ∨ poweredState (s.fan f).state = true) (hzero : r.eff = 0) :
    (u.fan f).state = some .stopped ∧ (u.fan f).run = false ∧ (u.fan f).drive = 0 ∧
      Appended ((contact s).evq.push ⟨s.tb.clock, .fan f, .fanStop, none, none, false⟩) u.evq := by
  obtain ⟨w, hfollows, hfan, hevq, htb, -, -⟩ := commanded_follows hholds
  have hentries := hleaves.entries
  have hstops := followHandover_stops (f := f) (s := w) (by rw [hfan]; exact hcase) (by rw [hfan]; exact hzero) (s.fan f).effStage
  rw [hfollows, hstops] at hentries
  rw [hleaves.fan, hfollows, hstops, stopFan_fan, ← hevq, ← htb]
  exact ⟨rfl, rfl, rfl, hentries⟩

/-- A fan that turns the other way coasts first. -/
theorem commanded_reverses (hcase : ((s.fan f).state = some .stopped ∧ r.dir ≠ (s.fan f).dirOut ∧
      aboveCoast (s.fan f).cfg (s.fan f).reading = true) ∨ (poweredState (s.fan f).state = true ∧ r.dir ≠ (s.fan f).dirOut))
    (hpos : r.eff ≠ 0) : (u.fan f).state = some .coasting ∧ (u.fan f).run = false ∧ (u.fan f).drive = 0 ∧
      (u.fan f).since = s.tb.uptime ∧ (u.fan f).dirOut = (s.fan f).dirOut ∧
      Appended ((contact s).evq.push ⟨s.tb.clock, .fan f, .fanReverse, some r.dir.code, none, false⟩) u.evq := by
  obtain ⟨w, hfollows, hfan, hevq, htb, -, -⟩ := commanded_follows hholds
  have hentries := hleaves.entries
  have hreverses : followHandover f (s.fan f).effStage w = reverseFan f w := by
    rcases hcase with ⟨h, hdir, hfast⟩ | ⟨h, hdir⟩
    · have hstopped : (w.fan f).state = some .stopped := by rw [hfan]; exact h
      rw [followHandover_stopped hstopped, startAttempt_reverses hstopped (by rw [hfan]; exact hpos) (by rw [hfan]; exact hdir)
        (by rw [hfan]; exact hfast)]
    · exact followHandover_reverses (by rw [hfan]; exact h) (by rw [hfan]; exact hpos) (by rw [hfan]; exact hdir) _
  rw [hfollows, hreverses, reverseFan_evq, hevq, htb, hfan] at hentries
  rw [hleaves.fan, hfollows, hreverses, reverseFan_fan, hfan, htb]
  exact ⟨rfl, rfl, rfl, rfl, rfl, hentries⟩

/-- A STOPPED fan that need not coast first starts, or waits where its budget is spent. -/
theorem commanded_attempts (h : (s.fan f).state = some .stopped)
    (hslow : ¬(r.dir ≠ (s.fan f).dirOut ∧ aboveCoast (s.fan f).cfg (s.fan f).reading = true)) (hpos : r.eff ≠ 0)
    (hregime : s.rau.regime ≠ .incident) :
    ((s.windowStamps f).length < (s.fan f).cfg.budget →
      (u.fan f).state = some .starting ∧ (u.fan f).run = true ∧ (u.fan f).dirOut = r.dir ∧
      (u.fan f).drive = (s.fan f).cfg.feedForward r.eff ∧ (u.fan f).since = s.tb.uptime ∧
      (u.fan f).history = recordStart (s.windowStamps f) ⟨s.tb.uptime, false⟩) ∧
    ((s.fan f).cfg.budget ≤ (s.windowStamps f).length →
      (u.fan f).state = some .waitingBudget ∧ (u.fan f).run = false ∧ (u.fan f).drive = 0 ∧
      Appended ((contact s).evq.push ⟨s.tb.clock, .fan f, .budgetWait, none,
        some (s.waitSeconds (s.fan f).cfg (s.windowStamps f) : Int), false⟩) u.evq) := by
  obtain ⟨w, hfollows, hfan, hevq, htb, hkept, hwindow⟩ := commanded_follows hholds
  have hentries := hleaves.entries
  have hcfg : (w.fan f).cfg = (s.fan f).cfg := by rw [hfan]; rfl
  have hattempts : followHandover f (s.fan f).effStage w = budgetAttempt f w := by
    have hstopped : (w.fan f).state = some .stopped := by rw [hfan]; exact h
    rw [followHandover_stopped hstopped, startAttempt_attempts hstopped (by rw [hfan]; exact hpos) (by rw [hfan]; exact hslow)]
  rw [hfollows, hattempts] at hentries
  rw [hleaves.fan, hfollows, hattempts]
  refine ⟨fun hfree => ?_, fun hspent => ?_⟩
  · rw [budgetAttempt_permitted (.inr (by rw [hwindow, hcfg]; exact hfree)), hwindow, htb, hfan]
    exact ⟨rfl, rfl, rfl, rfl, rfl, rfl⟩
  · have hspent' : (w.fan f).cfg.budget ≤ (w.windowStamps f).length := by rw [hwindow, hcfg]; exact hspent
    have hregime' : w.rau.regime ≠ .incident := by rw [hkept]; exact hregime
    rw [budgetAttempt_spent hregime' hspent']
    refine ⟨rfl, rfl, rfl, ?_⟩
    have hwait : (budgetAttempt f w).1.evq = w.evq.push ⟨w.tb.clock, .fan f, .budgetWait, none,
        some (w.waitSeconds (w.fan f).cfg (w.windowStamps f) : Int), false⟩ := by
      simp only [budgetAttempt, if_neg (not_or.mpr ⟨hregime', Nat.not_lt.mpr hspent'⟩)]
      rfl
    have hseconds : w.waitSeconds (s.fan f).cfg (s.windowStamps f) = s.waitSeconds (s.fan f).cfg (s.windowStamps f) := by
      unfold State.waitSeconds State.age
      rw [htb]
    rw [hwait, hevq, hcfg, hwindow, hseconds, htb] at hentries
    exact hentries

/-- A powered fan handed another stage in its direction changes to it. -/
theorem commanded_changes (h : poweredState (s.fan f).state = true) (hpos : r.eff ≠ 0) (hdir : r.dir = (s.fan f).dirOut)
    (hstage : r.eff ≠ (s.fan f).effStage) :
    (u.fan f).drive = (s.fan f).cfg.feedForward r.eff ∧ (u.fan f).dirOut = (s.fan f).dirOut ∧
      ((s.fan f).state = some .starting → (u.fan f).state = some .starting ∧ (u.fan f).since = (s.fan f).since) ∧
      ((s.fan f).state ≠ some .starting → (u.fan f).state = some .changing ∧ (u.fan f).since = s.tb.uptime) := by
  obtain ⟨w, hfollows, hfan, -, htb, -, -⟩ := commanded_follows hholds
  have hstate : (w.fan f).state = (s.fan f).state := by rw [hfan]; rfl
  rw [hleaves.fan, hfollows, followHandover_changes (by rw [hfan]; exact h) (by rw [hfan]; exact hpos) (by rw [hfan]; exact hdir)
    (by rw [hfan]; exact hstage)]
  rcases poweredState_iff.mp h with hs | hs | hs
  · rw [changeStage_starting (hstate.trans hs), hfan]
    exact ⟨rfl, rfl, fun _ => ⟨hs, rfl⟩, fun hne => absurd hs hne⟩
  · have hnot : (s.fan f).state ≠ some .starting := by rw [hs]; decide
    rw [changeStage_changing (hstate.trans hs), hfan, htb]
    exact ⟨rfl, rfl, fun he => absurd he hnot, fun _ => ⟨hs, rfl⟩⟩
  · have hnot : (s.fan f).state ≠ some .starting := by rw [hs]; decide
    rw [changeStage_running (hstate.trans hs), hfan, htb]
    exact ⟨rfl, rfl, fun he => absurd he hnot, fun _ => ⟨rfl, rfl⟩⟩

end Following

/-! ### The statement -/

/-- What a command leaves, seen from the state before the contact. -/
theorem commandLeaves_contact {f : FanNo} {r : RauFan} {s u : State} (h : CommandLeaves f (commandedState f r s) u) :
    HandedOn (contact s) u ∧ u.held f = r ∧ (∀ g : FanNo, g ≠ f → u.held g = s.held g) ∧
      (s.rau.short = false → u.rau.short = false) ∧
      (movingState (s.fan f).state = true → (u.fan f).state ≠ (s.fan f).state → CountdownsLoaded s u) ∧
      (movingState (s.fan f).state = false ∨ (u.fan f).state = (s.fan f).state → CountdownsKept s u) ∧
      ∀ (e : CalEntry) (rest : List CalEntry), movingState (u.fan f).state = true → (u.fan f).state ≠ (s.fan f).state →
        s.cal.phase.airOn = true → s.cal.queue = e :: rest → HeadAborted e rest u ∧ QuietLostNext e
          (if (u.fan f).state = some .coasting then
            (contact s).evq.push ⟨s.tb.clock, .fan f, .fanReverse, some r.dir.code, none, false⟩ else (contact s).evq) s u := by
  have hfan := commandedState_fan (f := f) (r := r) (s := s) f
  have hch : ∀ c, (commandedState f r s).ch c = s.ch c := contact_ch s
  have hcal : (commandedState f r s).cal = s.cal := contact_cal s
  have htb := commandedState_tb (f := f) (r := r) (s := s)
  have hheld := commandedState_held (f := f) (r := r) (s := s)
  refine ⟨(rau_handedOn _ (contact s) rfl).trans h.handedOn, (h.held f).trans hheld, fun g hg => ?_, fun hshort => h.short ?_,
    fun hmoving hne c => ?_, fun hstill c => ?_, fun e rest hmoving hne hair hqueue => ?_⟩
  · rw [h.held g, held_setHeld, if_neg hg, State.held, contact_rau, State.held]
  · have hkept : (contact s).rau.short = s.rau.short := by rw [contact_rau]
    exact hkept.trans hshort
  · rw [h.loaded (by rw [hfan]; exact hmoving) (by rw [hfan]; exact hne) c, hch]
  · rw [h.kept (by rw [hfan]; exact hstill) c, hch]
  · have haborts := h.aborts e rest hmoving (by rw [hfan]; exact hne) (by rw [hcal]; exact hair) (by rw [hcal]; exact hqueue)
    rw [htb, hheld] at haborts
    exact haborts

theorem commandFan_refused {f : FanNo} {stage dir : Nat} {s : State} (h : s.rau.regime ≠ .manual) :
    commandFan f stage dir s = refuse .notNow s := if_neg h

theorem commandFan_accepted {f : FanNo} {stage dir : Nat} {s : State} (h : s.rau.regime = .manual) {r : RauFan}
    (hr : commanded s.rau stage dir = r) : commandFan f stage dir s = answer (decide (3 < stage) || decide (1 < dir))
      (commandReply f r) (run [.handFan f, .demandShort] (s.setHeld f r)) := by
  rw [← hr]
  exact if_pos h

/-- Settles O43: refused outside MANUAL; in MANUAL the record, the hand-overs, and the fan by the state it stood in. -/
theorem fanCommandHandsStage : Obligations.FanCommandHandsStage := by
  intro f a b s hready
  rw [exec_fanCommand hready]
  refine ⟨fun hregime => ?_, fun hmanual r hr => ?_⟩
  · rw [commandFan_refused (by simpa using hregime), beginService_refuse]
  have hmanual' : (contact s).rau.regime = .manual := by simpa using hmanual
  have hset : commanded (contact s).rau a.toNat b.toNat = r := by
    rw [hr, commanded_eq hmanual', contact_rau]
  have hregime : s.rau.regime ≠ .incident := by rw [hmanual]; decide
  have hleaves := run_handed_leaves f (v := commandedState f r s) hmanual'
  obtain ⟨hhanded, hheld, hothers, hshort, hloaded, hkept, haborts⟩ := commandLeaves_contact hleaves
  have hholding : (s.fan f).holds r = true →
      (run [.handFan f, .demandShort] (commandedState f r s)).fan f = s.fan f := fun hholds => by
    rw [hleaves.fan, handed_holding (by rw [commandedState_fan, commandedState_held]; exact hholds), commandedState_fan]
  refine ⟨_, hhanded, hheld, hothers, hshort, hloaded, hkept, haborts, ?_, fun hstate hstage hzero => ?_, fun hstate => ?_,
    fun hholds hsame => ?_, ?_⟩
  · rw [commandFan_accepted hmanual' hset, beginService_answer, Bool.decide_or]
    rfl
  · have hholds : (s.fan f).holds r = false := by
      rw [Bool.eq_false_iff]
      intro hholds
      have htold := holds_iff.mp hholds
      exact hstage ((congrArg (·.2.1) htold).trans hzero)
    obtain ⟨hstops, hrun, hdrive, -⟩ := commanded_stops hleaves hholds (.inr (by rw [hstate]; rfl)) hzero
    exact ⟨hstops, hrun, hdrive⟩
  · cases hholds : (s.fan f).holds r with
    | true =>
      have htold := holds_iff.mp hholds
      rw [hholding hholds]
      exact ⟨hstate, congrArg (·.1) htold, congrArg (·.2.1) htold, congrArg (·.2.2) htold⟩
    | false =>
      rw [commanded_stores hleaves hholds (.inl hstate) hregime]
      exact ⟨hstate, rfl, rfl, rfl⟩
  · exact hholding (hsame ▸ hholds)
  · rintro hholds hne x coastFirst rfl hcoast
    have hchanged := holds_changed hholds hne
    rw [← aboveCoast_iff] at hcoast
    refine ⟨fun hcase => commanded_stores hleaves hchanged hcase hregime, fun hcase => commanded_stops hleaves hchanged hcase,
      fun hcase => ?_, fun hstate hslow hpos => ?_, fun hpowered hpos hdir => commanded_changes hleaves hchanged hpowered hpos hdir⟩
    · refine commanded_reverses hleaves hchanged (hcase.imp_left fun ⟨hstate, hfirst⟩ => ?_)
      exact ⟨hstate, hcoast.mp hfirst⟩
    · exact commanded_attempts hleaves hchanged hstate (fun hfast => hslow (hcoast.mpr hfast)) hpos hregime

end Sys2Proof.Machine

end

/-! PROOFS. SET FAN by the fan's presence before and after (R106–R109, R129, R135). -/

section

namespace Sys2Proof.Machine

/-! ### The request's cases -/

theorem placeFan_absent {f : FanNo} {cfg : FanConfig} {s : State} (hstate : (s.fan f).state = none) (hpresent : cfg.present = false) :
    placeFan f cfg s = (s.modFan f (·.withCfg cfg), []) := by
  simp only [placeFan, hstate, hpresent]

theorem placeFan_joins {f : FanNo} {cfg : FanConfig} {s : State} (hstate : (s.fan f).state = none) (hpresent : cfg.present = true) :
    placeFan f cfg s = ((tripOrMove f (·.releasedTo s.inhibit.level) (s.modFan f (·.withCfg cfg))).1,
      (tripOrMove f (·.releasedTo s.inhibit.level) (s.modFan f (·.withCfg cfg))).2 ++ joinWork f) := by
  simp only [placeFan, hstate, hpresent]

theorem placeFan_tripped {f : FanNo} {cfg : FanConfig} {s : State} (hstate : (s.fan f).state = some .tripped)
    (hpresent : cfg.present = true) : placeFan f cfg s =
      (s.modFan f fun x => { x.withCfg cfg with retryDue := (x.withCfg cfg).dueRetry s.tb.uptime }, []) := by
  simp only [placeFan, hstate, hpresent, State.modFan_modFan]

theorem placeFan_stopped {f : FanNo} {cfg : FanConfig} {s : State} (hstate : (s.fan f).state = some .stopped)
    (hpresent : cfg.present = true) : placeFan f cfg s =
      if ((s.fan f).withCfg cfg).activeSources = [] then (s.modFan f (·.withCfg cfg), []) else tripOrMove f id (s.modFan f (·.withCfg cfg)) := by
  simp only [placeFan, hstate, hpresent, withCfg_fan, List.isEmpty_iff]

theorem placeFan_leaves {f : FanNo} {cfg : FanConfig} {s : State} (hstate : (s.fan f).state ≠ none) (hpresent : cfg.present = false) :
    placeFan f cfg s = moveFan f (fun x => { x.powerOff with state := none }) (s.modFan f (·.withCfg cfg)) := by
  obtain ⟨st, hst⟩ := Option.ne_none_iff_exists'.mp hstate
  cases st <;> simp only [placeFan, hst, hpresent]

/-! ### Trip or move -/

theorem tripOrMove_idle {f : FanNo} {s : State} (h : (s.fan f).activeSources = []) (g : Fan → Fan) :
    tripOrMove f g s = moveFan f g s := by
  simp only [tripOrMove, firstCause, h]
  rfl

theorem tripOrMove_trips {f : FanNo} {s : State} (h : (s.fan f).activeSources ≠ []) (g : Fan → Fan) :
    ∃ cause ∈ (s.fan f).activeSources, ∃ n, tripOrMove f g s =
      moveFan f (·.toTripped cause s.tb.uptime) (fanEvent f .fanTrip (some cause.code) none { s with choices := n }) := by
  have hperm := freeOrder_perm s.choices (s.fan f).activeSources
  cases hfirst : (freeOrder s.choices (s.fan f).activeSources).1 with
  | nil =>
    rw [hfirst] at hperm
    exact absurd hperm.nil_eq.symm h
  | cons cause rest =>
    refine ⟨cause, hperm.mem_iff.mp (hfirst ▸ .head _), (freeOrder s.choices (s.fan f).activeSources).2, ?_⟩
    simp only [tripOrMove, firstCause, hfirst, List.head?_cons]

/-- What SET FAN stores of the fan, and what it leaves alone. -/
theorem placeFan_own (f : FanNo) (cfg : FanConfig) (s : State) : ((placeFan f cfg s).1.fan f).cfg = cfg ∧
    ((placeFan f cfg s).1.fan f).tachCount = (s.fan f).tachCount ∧ ((placeFan f cfg s).1.fan f).reading = (s.fan f).reading ∧
    ((placeFan f cfg s).1.fan f).retryCount = (s.fan f).retryCount := by
  have htrips : ∀ g : Fan → Fan, (∀ x : Fan, (g x).cfg = x.cfg ∧ (g x).tachCount = x.tachCount ∧ (g x).reading = x.reading ∧
      (g x).retryCount = x.retryCount) →
      ((tripOrMove f g (s.modFan f (·.withCfg cfg))).1.fan f).cfg = cfg ∧
      ((tripOrMove f g (s.modFan f (·.withCfg cfg))).1.fan f).tachCount = (s.fan f).tachCount ∧
      ((tripOrMove f g (s.modFan f (·.withCfg cfg))).1.fan f).reading = (s.fan f).reading ∧
      ((tripOrMove f g (s.modFan f (·.withCfg cfg))).1.fan f).retryCount = (s.fan f).retryCount := fun g hg => by
    refine tripOrMove_keeps (P := fun y => y.cfg = cfg ∧ y.tachCount = (s.fan f).tachCount ∧ y.reading = (s.fan f).reading ∧
      y.retryCount = (s.fan f).retryCount) (fun _ => ?_) fun cause => ?_
    · rw [withCfg_fan]
      exact hg _
    · rw [withCfg_fan]
      exact ⟨rfl, rfl, rfl, rfl⟩
  cases hpresent : cfg.present with
  | false =>
    by_cases hnone : (s.fan f).state = none
    · rw [placeFan_absent hnone hpresent, withCfg_fan]
      exact ⟨rfl, rfl, rfl, rfl⟩
    · rw [placeFan_leaves hnone hpresent, moveFan_fan, withCfg_fan]
      exact ⟨rfl, rfl, rfl, rfl⟩
  | true =>
    cases hstate : (s.fan f).state with
    | none =>
      rw [placeFan_joins hstate hpresent]
      refine htrips _ fun x => ?_
      unfold Fan.releasedTo
      split <;> exact ⟨rfl, rfl, rfl, rfl⟩
    | some st =>
      by_cases htripped : st = .tripped
      · rw [placeFan_tripped (by rw [hstate, htripped]) hpresent, State.fan_modFan_same]
        exact ⟨rfl, rfl, rfl, rfl⟩
      · have hplace : placeFan f cfg s = if ((s.modFan f (·.withCfg cfg)).fan f).activeSources.isEmpty then
            (s.modFan f (·.withCfg cfg), []) else tripOrMove f id (s.modFan f (·.withCfg cfg)) := by
          cases st with
          | tripped => exact absurd rfl htripped
          | stopped | waitingBudget | starting | changing | running | coasting | inhibited => simp only [placeFan, hstate, hpresent]
        rw [hplace]
        split
        · rw [withCfg_fan]
          exact ⟨rfl, rfl, rfl, rfl⟩
        · exact htrips id fun x => ⟨rfl, rfl, rfl, rfl⟩

/-! ### A fan at rest after the request -/

/-- A fan that the request leaves out of operation keeps its record under the hand-overs. -/
theorem placeFan_rests {f : FanNo} {cfg : FanConfig} {s : State} {z : Fan} (hfan : (placeFan f cfg s).1.fan f = z)
    (hz : availableState z.state = false) : ∃ r, (runEffect (placeFan f cfg s)).fan f = z.store r := by
  obtain ⟨r, hr⟩ := run_resting (placeFan f cfg s).2 (s := (placeFan f cfg s).1) (f := f) (by rw [hfan]; exact hz)
  exact ⟨r, by rw [runEffect, hr, hfan]⟩

/-- An enabled source that is active trips the fan at once, FAN TRIP being the first entry (R129). -/
theorem placeFan_trips {f : FanNo} {cfg : FanConfig} {s : State} (hpresent : cfg.present = true)
    (hstate : (s.fan f).state = none ∨ (s.fan f).state = some .stopped) (hactive : ((s.fan f).withCfg cfg).activeSources ≠ []) :
    ∃ cause ∈ ((s.fan f).withCfg cfg).activeSources, ∃ r,
      (runEffect (placeFan f cfg s)).fan f = (((s.fan f).withCfg cfg).toTripped cause s.tb.uptime).store r ∧
      Appended (s.evq.push ⟨s.tb.clock, .fan f, .fanTrip, some cause.code, none, false⟩) (runEffect (placeFan f cfg s)).evq := by
  have hfan := withCfg_fan f cfg s
  have hone : ∃ (g : Fan → Fan) (ws : List Work), placeFan f cfg s = ((tripOrMove f g (s.modFan f (·.withCfg cfg))).1, ws) := by
    rcases hstate with hnone | hstopped
    · exact ⟨_, _, placeFan_joins hnone hpresent⟩
    · exact ⟨id, _, (placeFan_stopped hstopped hpresent).trans (if_neg hactive)⟩
  obtain ⟨g, ws, hplace⟩ := hone
  obtain ⟨cause, hcause, n, htrips⟩ := tripOrMove_trips (s := s.modFan f (·.withCfg cfg)) (by rw [hfan]; exact hactive) g
  rw [hfan] at hcause
  rw [htrips] at hplace
  have hafter : (placeFan f cfg s).1.fan f = ((s.fan f).withCfg cfg).toTripped cause s.tb.uptime := by
    rw [hplace, moveFan_fan]
    exact congrArg (Fan.toTripped · cause s.tb.uptime) hfan
  obtain ⟨r, hrests⟩ := placeFan_rests hafter rfl
  refine ⟨cause, hcause, r, hrests, ?_⟩
  rw [hplace]
  exact (runEffect_handedOn _).2

/-! ### A fan made present -/

section Joins

variable {f : FanNo} {cfg : FanConfig} {s : State} (hstate : (s.fan f).state = none) (hpresent : cfg.present = true)
  (hidle : ((s.fan f).withCfg cfg).activeSources = [])

include hstate hpresent hidle

theorem placeFan_released : placeFan f cfg s =
    ((moveFan f (·.releasedTo s.inhibit.level) (s.modFan f (·.withCfg cfg))).1,
      (moveFan f (·.releasedTo s.inhibit.level) (s.modFan f (·.withCfg cfg))).2 ++ joinWork f) := by
  rw [placeFan_joins hstate hpresent, tripOrMove_idle (by rw [withCfg_fan]; exact hidle)]

/-- While OUTPUT INHIBIT is active it is INHIBITED. -/
theorem placeFan_inhibited (hinhibit : s.inhibit.level = true) :
    ∃ r, (runEffect (placeFan f cfg s)).fan f = ((s.fan f).withCfg cfg).toInhibited.store r := by
  refine placeFan_rests ?_ rfl
  rw [placeFan_released hstate hpresent hidle, moveFan_fan, withCfg_fan, Fan.releasedTo, if_pos hinhibit]

/-- Otherwise, in MANUAL with DEMAND SHORT clear, it makes its start attempt from STOPPED, and nothing else happens. -/
theorem placeFan_attempts (hinhibit : s.inhibit.level = false) (hmanual : s.rau.regime = .manual) (hshort : s.rau.short = false) :
    ∃ m : State, runEffect (placeFan f cfg s) = runEffect (startAttempt f m) ∧ m.fan f = ((s.fan f).withCfg cfg).toStopped ∧
      m.evq = s.evq ∧ m.tb = s.tb ∧ m.rau = s.rau := by
  have hrelease : ∀ x : Fan, x.releasedTo s.inhibit.level = x.toStopped := fun x => by simp [Fan.releasedTo, hinhibit]
  have hplace := placeFan_released hstate hpresent hidle
  simp only [hrelease] at hplace
  have hbefore : ((s.modFan f (·.withCfg cfg)).fan f).state = none := by rw [withCfg_fan]; exact hstate
  refine ⟨(moveFan f Fan.toStopped (s.modFan f (·.withCfg cfg))).1, ?_, ?_, rfl, rfl, rfl⟩
  · have hworks : (moveFan f Fan.toStopped (s.modFan f (·.withCfg cfg))).2 = [.fanMoved f none (some .stopped)] := by
      rw [moveFan, hbefore]
      rfl
    rw [runEffect, hplace, hworks]
    generalize hm : (moveFan f Fan.toStopped (s.modFan f (·.withCfg cfg))).1 = m
    have hrau : m.rau = s.rau := by rw [← hm]; rfl
    have hmoved : perform (.fanMoved f none (some .stopped)) m = (m, [.availability]) := rfl
    have hhears : perform .availability m = (m, [.demandShort]) := by
      rw [perform, if_neg (by rw [hrau, hmanual]; decide)]
    have hevaluates : perform .demandShort m = (m, []) := by
      rw [perform, evaluateShort_manual (by rw [hrau]; exact hmanual) (by rw [hrau]; exact hshort)]
    have hgives : perform (.giveRole f) m = (m, []) := if_neg (by rw [hrau, hmanual]; simp)
    simp only [List.cons_append, List.nil_append, joinWork]
    rw [run_cons (postponed_of_ne (by simp) _), hmoved, List.cons_append, List.nil_append, run_cons (postponed_of_ne (by simp) _),
      hhears, List.cons_append, List.nil_append, run_cons (postponed_of_handsNone _ rfl), hevaluates, List.nil_append,
      run_cons (postponed_of_ne (by simp) _), hgives, List.nil_append, run_singleton]
    rfl
  · rw [moveFan_fan, withCfg_fan]

end Joins

end Sys2Proof.Machine

end

/-! PROOFS. SET FAN put together (R106–R109), with the role that INCIDENT gives a fan made present (R149). -/

section

namespace Sys2Proof.Machine

/-! ### What the RAU holds while fans take it -/

/-- The hand-overs that leave what the RAU holds for the fans, outside AUTO. -/
def Work.handing (w : Work) : Bool := w.aside || w.actsOn.isSome || w == .grantDue

abbrev Handing (ws : List Work) : Prop := ws.all Work.handing = true

theorem handing_of_aside {ws : List Work} (h : Aside ws) : Handing ws :=
  List.all_eq_true.mpr fun w hw => by simp [Work.handing, List.all_eq_true.mp h w hw]

theorem handing_append {ws vs : List Work} (h : Handing ws) (k : Handing vs) : Handing (ws ++ vs) := by
  rw [Handing, List.all_append, h, k]
  rfl

theorem handing_cons {w : Work} {ws : List Work} : Handing (w :: ws) ↔ w.handing = true ∧ Handing ws := by
  rw [Handing, List.all_cons, Bool.and_eq_true]

theorem perform_handing {w : Work} {s : State} (hregime : s.rau.regime ≠ .auto) (h : w.handing = true) :
    Handing (perform w s).2 ∧ (perform w s).1.rau.fans = s.rau.fans := by
  rw [Work.handing, Bool.or_eq_true, Bool.or_eq_true, beq_iff_eq] at h
  rcases h with (haside | hacts) | hgrant
  · exact ⟨handing_of_aside (perform_aside hregime haside), (perform_aside_rau haside).1⟩
  · obtain ⟨f, hf⟩ := Option.isSome_iff_exists.mp hacts
    have hact := perform_act hf s
    exact ⟨handing_of_aside hact.works_aside, by rw [hact.rau]⟩
  · rw [hgrant]
    refine ⟨?_, rfl⟩
    rw [perform]
    split <;> rfl

theorem run_handing_held {ws : List Work} {s : State} (hregime : s.rau.regime ≠ .auto) (h : Handing ws) (k : FanNo) :
    (run ws s).held k = s.held k := by
  have hfans : (run ws s).rau.fans = s.rau.fans := by
    refine (run_induction (J := fun vs t => t.rau.regime = s.rau.regime ∧ Handing vs ∧ t.rau.fans = s.rau.fans) ?_ ?_
      ⟨rfl, h, rfl⟩).2.2
    · rintro rest t ⟨hkept, hhanding, hsame⟩
      exact ⟨hkept, (handing_cons.mp hhanding).2, hsame⟩
    · rintro w rest t ⟨hkept, hhanding, hsame⟩
      obtain ⟨hw, hrest⟩ := handing_cons.mp hhanding
      obtain ⟨hworks, hstep⟩ := perform_handing (s := t) (hkept ▸ hregime) hw
      exact ⟨(perform_handedOn w t).regime.trans hkept, handing_append hworks hrest, hstep.trans hsame⟩
  rw [State.held, hfans, State.held]

/-! ### A fan made present in INCIDENT (R149) -/

theorem tripOrMove_works (f : FanNo) (g : Fan → Fan) (s : State) : Aside (tripOrMove f g s).2 := by
  unfold tripOrMove
  split <;> rfl

theorem isSome_of_fixed {x y : Fan} (h : y.fixed = x.fixed) : y.state.isSome = x.state.isSome := by
  have hsome : ∀ st : Option FanState, st.isSome = (fixedState st).isSome := by
    intro st
    rcases st with - | st
    · rfl
    · cases st <;> rfl
  rw [hsome, state_of_fixed h, ← hsome]

/-- The role's stage and direction stand for a fan made present, whatever it does with them. -/
theorem placeFan_role {f : FanNo} {cfg : FanConfig} {s : State} (hstate : (s.fan f).state = none) (hpresent : cfg.present = true)
    (hincident : s.rau.regime = .incident) : ((runEffect (placeFan f cfg s)).held f).dir = s.rau.incDir ∧
      ((runEffect (placeFan f cfg s)).held f).req = if s.rau.role = some .fireZone then 0 else s.rau.incStage := by
  have hplace := placeFan_joins hstate hpresent
  have hworks := tripOrMove_works f (·.releasedTo s.inhibit.level) (s.modFan f (·.withCfg cfg))
  have hsome : ((tripOrMove f (·.releasedTo s.inhibit.level) (s.modFan f (·.withCfg cfg))).1.fan f).state.isSome = true :=
    tripOrMove_keeps (P := fun y => y.state.isSome = true) (fun _ => by unfold Fan.releasedTo; split <;> rfl) fun _ => rfl
  have hrau : (tripOrMove f (·.releasedTo s.inhibit.level) (s.modFan f (·.withCfg cfg))).1.rau = s.rau :=
    (tripOrMove_led f _ (s.modFan f (·.withCfg cfg))).alters.1 .rau (by decide)
  generalize tripOrMove f (·.releasedTo s.inhibit.level) (s.modFan f (·.withCfg cfg)) = e at hplace hworks hsome hrau
  have hhanded := run_handedOn e.2 e.1
  have hregime : (run e.2 e.1).rau.regime = .incident := by rw [hhanded.regime, hrau, hincident]
  have hpresent' : ((run e.2 e.1).fan f).state.isSome = true := by rw [isSome_of_fixed (hhanded.fan f)]; exact hsome
  have hgives : perform (.giveRole f) (run e.2 e.1) =
      (formEffective ((run e.2 e.1).setHeld f ((run e.2 e.1).rau.roleRequest true ((run e.2 e.1).held f))), [.handFan f, .demandShort]) :=
    if_pos ⟨hregime, hpresent'⟩
  have hrun : runEffect (placeFan f cfg s) = run ([.handFan f, .demandShort] ++ [.startAttempt f])
      (formEffective ((run e.2 e.1).setHeld f ((run e.2 e.1).rau.roleRequest true ((run e.2 e.1).held f)))) := by
    rw [runEffect, hplace, run_append e.2 rfl, joinWork, run_cons (postponed_of_ne (by simp) _), hgives]
  have hincDir : (run e.2 e.1).rau.incDir = s.rau.incDir := by rw [hhanded.incDir, hrau]
  have hincStage : (run e.2 e.1).rau.incStage = s.rau.incStage := by rw [hhanded.incStage, hrau]
  have hrole : (run e.2 e.1).rau.role = s.rau.role := by rw [hhanded.role, hrau]
  have hmanual : (formEffective ((run e.2 e.1).setHeld f ((run e.2 e.1).rau.roleRequest true ((run e.2 e.1).held f)))).rau.regime ≠
      .auto := by
    change (run e.2 e.1).rau.regime ≠ .auto
    rw [hregime]
    decide
  rw [hrun, run_handing_held hmanual rfl, formEffective_held, held_setHeld, if_pos rfl]
  refine ⟨hincDir, ?_⟩
  change (run e.2 e.1).rau.roleStage = _
  rw [Rau.roleStage, hrole, hincStage]

end Sys2Proof.Machine

end

/-! PROOFS. SET FAN as its request is answered (R106–R109, R129, R135, R137, R139, R149). -/

section

namespace Sys2Proof.Machine

/-! ### The start attempt of a fan made present -/

theorem windowStamps_congr {f : FanNo} {m v : State} (htb : m.tb = v.tb) (hcfg : (m.fan f).cfg = (v.fan f).cfg)
    (hhistory : (m.fan f).history = (v.fan f).history) : m.windowStamps f = v.windowStamps f := by
  have hwindow : m.inWindow = v.inWindow := by
    funext cfg t
    simp only [State.inWindow, State.stampPassed, State.passed, State.age, htb]
    rfl
  rw [State.windowStamps, hwindow, hcfg, hhistory, State.windowStamps]

theorem waitSeconds_congr {m v : State} (htb : m.tb = v.tb) : m.waitSeconds = v.waitSeconds := by
  funext cfg stamps
  unfold State.waitSeconds State.age
  rw [htb]

section Attempt

variable {f : FanNo} {m : State} (hmanual : m.rau.regime = .manual)

include hmanual

theorem startAttempt_manual_fan : (runEffect (startAttempt f m)).fan f = (startAttempt f m).1.fan f :=
  runEffect_fan ((startAttempt_act f m).fans_outsideAuto (by rw [hmanual]; decide)) f

variable (hstopped : (m.fan f).state = some .stopped) (hpos : (m.fan f).effStage ≠ 0)

include hstopped hpos

/-- A fan asked for the other direction while it turns fast coasts first. -/
theorem startAttempt_coasts (hdir : (m.fan f).reqDir ≠ (m.fan f).dirOut) (hfast : aboveCoast (m.fan f).cfg (m.fan f).reading = true) :
    (runEffect (startAttempt f m)).fan f = (m.fan f).toCoasting m.tb.uptime ∧
      Appended (m.evq.push ⟨m.tb.clock, .fan f, .fanReverse, some (m.fan f).reqDir.code, none, false⟩)
        (runEffect (startAttempt f m)).evq := by
  have hreverses := startAttempt_reverses hstopped hpos hdir hfast
  have hentries := (runEffect_handedOn (startAttempt f m)).2
  rw [startAttempt_manual_fan hmanual, hreverses, reverseFan_fan]
  rw [hreverses, reverseFan_evq] at hentries
  exact ⟨rfl, hentries⟩

variable (hslow : ¬((m.fan f).reqDir ≠ (m.fan f).dirOut ∧ aboveCoast (m.fan f).cfg (m.fan f).reading = true))

include hslow

theorem startAttempt_starts (hfree : (m.windowStamps f).length < (m.fan f).cfg.budget) :
    (runEffect (startAttempt f m)).fan f = { m.fan f with history := m.windowStamps f }.toStarting m.tb.uptime := by
  rw [startAttempt_manual_fan hmanual, startAttempt_attempts hstopped hpos hslow, budgetAttempt_permitted (.inr hfree)]

theorem startAttempt_waits (hspent : (m.fan f).cfg.budget ≤ (m.windowStamps f).length) :
    (runEffect (startAttempt f m)).fan f = { m.fan f with history := m.windowStamps f }.toWaiting ∧
      Appended (m.evq.push ⟨m.tb.clock, .fan f, .budgetWait, none,
        some (m.waitSeconds (m.fan f).cfg (m.windowStamps f) : Int), false⟩) (runEffect (startAttempt f m)).evq := by
  have hregime : m.rau.regime ≠ .incident := by rw [hmanual]; decide
  rw [startAttempt_manual_fan hmanual, startAttempt_attempts hstopped hpos hslow]
  exact ⟨budgetAttempt_spent hregime hspent, budgetAttempt_spent_entry hregime hspent⟩

end Attempt

/-! ### A fan that leaves service -/

/-- A fan taken out of service has no state and RUN off, and keeps the rest of its record (R109). -/
theorem placeFan_retires {f : FanNo} {cfg : FanConfig} {s : State} (hstate : (s.fan f).state ≠ none) (hpresent : cfg.present = false) :
    ∃ r, (runEffect (placeFan f cfg s)).fan f = { ((s.fan f).withCfg cfg).powerOff with state := none }.store r := by
  refine placeFan_rests ?_ rfl
  rw [placeFan_leaves hstate hpresent, moveFan_fan, withCfg_fan]

/-! ### What else the request leaves -/

theorem fanConfig_present {fields : List Byte} : (takenFan (fields.drop 1)).present = decide (u8 fields 1 ≠ 0) := yes_drop fields

theorem consistentFan_iff {cfg : FanConfig} :
    consistentFan cfg = true ↔ cfg.stage1 < cfg.stage2 ∧ cfg.stage2 < cfg.stage3 ∧ cfg.targetPeriod 1 ≤ 65534 := by
  simp only [consistentFan, Bool.and_eq_true, decide_eq_true_eq, and_assoc]

/-- The other fans, the channels, the RAU's settings and the blocks that no hand-over reaches. -/
theorem placeFan_apart (f : FanNo) (cfg : FanConfig) (s : State) :
    (∀ g : FanNo, g ≠ f → ((runEffect (placeFan f cfg s)).fan g).fixed = (s.fan g).fixed) ∧
      (∀ c : ChanNo, ((runEffect (placeFan f cfg s)).ch c).fixed = (s.ch c).fixed) ∧
      (runEffect (placeFan f cfg s)).rau.fixed = s.rau.fixed ∧
      sameBut (.choices :: Part.reached) s (runEffect (placeFan f cfg s)) := by
  have hled := placeFan_led f cfg s
  have hhanded := runEffect_handedOn (placeFan f cfg s)
  have hchannels : (placeFan f cfg s).1.channels = s.channels := hled.alters.1 .channels (by decide)
  have hrau : (placeFan f cfg s).1.rau = s.rau := hled.alters.1 .rau (by decide)
  refine ⟨fun g hg => ?_, fun c => ?_, ?_, ?_⟩
  · rw [hhanded.fan g, hled.others g hg]
  · rw [hhanded.ch c, State.ch, hchannels, State.ch]
  · rw [hhanded.rau, hrau]
  · exact (Alters.runEffect (placeFan_alters f cfg s) (by decide)).1

/-- The tach measurement and the retry count stand, and the configuration is the one taken. -/
theorem placeFan_stores (f : FanNo) (cfg : FanConfig) (s : State) : ((runEffect (placeFan f cfg s)).fan f).cfg = cfg ∧
    ((runEffect (placeFan f cfg s)).fan f).tachCount = (s.fan f).tachCount ∧
    ((runEffect (placeFan f cfg s)).fan f).reading = (s.fan f).reading ∧
    ((runEffect (placeFan f cfg s)).fan f).retryCount = (s.fan f).retryCount := by
  obtain ⟨hcfg, hcount, hreading, hretry⟩ := placeFan_own f cfg s
  have hfixed := (runEffect_handedOn (placeFan f cfg s)).fan f
  exact ⟨(congrArg Fan.cfg hfixed :).trans hcfg, (congrArg Fan.tachCount hfixed :).trans hcount,
    (congrArg Fan.reading hfixed :).trans hreading, (congrArg Fan.retryCount hfixed :).trans hretry⟩

/-! ### The fan made present or kept present -/

section Present

variable {f : FanNo} {cfg : FanConfig} {w : State} (hpresent : cfg.present = true)

include hpresent

theorem placeFan_retries (hstate : (w.fan f).state = some .tripped) : (runEffect (placeFan f cfg w)).fan f =
    { (w.fan f).withCfg cfg with retryDue := ((w.fan f).withCfg cfg).dueRetry w.tb.uptime } := by
  rw [placeFan_tripped hstate hpresent, runEffect_nil, State.fan_modFan_same]

theorem placeFan_keeps (hstate : (w.fan f).state = some .stopped) (hidle : ((w.fan f).withCfg cfg).activeSources = []) :
    (runEffect (placeFan f cfg w)).fan f = (w.fan f).withCfg cfg := by
  rw [placeFan_stopped hstate hpresent, if_pos hidle, runEffect_nil, withCfg_fan]

/-- The fan made present in MANUAL, by the stage that it holds, its direction and its budget. -/
theorem placeFan_manual (hstate : (w.fan f).state = none) (hidle : ((w.fan f).withCfg cfg).activeSources = [])
    (hinhibit : w.inhibit.level = false) (hmanual : w.rau.regime = .manual) (hshort : w.rau.short = false) {u : State}
    (hu : u = runEffect (placeFan f cfg w)) {kept : List Stamp} (hkept : kept = (w.setFan f ((w.fan f).withCfg cfg)).windowStamps f) :
    ((w.fan f).effStage = 0 → (u.fan f).state = some .stopped ∧ (u.fan f).run = false ∧ (u.fan f).drive = 0) ∧
    (0 < (w.fan f).effStage → (w.fan f).reqDir ≠ (w.fan f).dirOut → aboveCoast cfg (w.fan f).reading = true →
      (u.fan f).state = some .coasting ∧ (u.fan f).run = false ∧ (u.fan f).since = w.tb.uptime ∧
      Appended (w.evq.push ⟨w.tb.clock, .fan f, .fanReverse, some (w.fan f).reqDir.code, none, false⟩) u.evq) ∧
    (0 < (w.fan f).effStage → (w.fan f).reqDir = (w.fan f).dirOut ∨ aboveCoast cfg (w.fan f).reading = false →
      (kept.length < cfg.budget → (u.fan f).state = some .starting ∧ (u.fan f).run = true ∧
        (u.fan f).dirOut = (w.fan f).reqDir ∧ (u.fan f).drive = cfg.feedForward (w.fan f).effStage ∧
        (u.fan f).history = recordStart kept ⟨w.tb.uptime, false⟩) ∧
      (cfg.budget ≤ kept.length → (u.fan f).state = some .waitingBudget ∧ (u.fan f).run = false ∧
        Appended (w.evq.push ⟨w.tb.clock, .fan f, .budgetWait, none, some (w.waitSeconds cfg kept : Int), false⟩) u.evq)) := by
  obtain ⟨m, hattempts, hfan, hevq, htb, hrau⟩ := placeFan_attempts hstate hpresent hidle hinhibit hmanual hshort
  have hmanual' : m.rau.regime = .manual := by rw [hrau, hmanual]
  have hstopped : (m.fan f).state = some .stopped := by rw [hfan]; rfl
  have hstage : (m.fan f).effStage = (w.fan f).effStage := by rw [hfan]; rfl
  have hset : (w.setFan f ((w.fan f).withCfg cfg)).fan f = (w.fan f).withCfg cfg := by rw [State.fan_setFan, if_pos rfl]
  have hstamps : m.windowStamps f = kept := by
    rw [hkept]
    exact windowStamps_congr htb (by rw [hfan, hset]; rfl) (by rw [hfan, hset]; rfl)
  subst hu
  rw [hattempts, ← hevq, ← htb]
  refine ⟨fun hzero => ?_, fun hpos hdir hfast => ?_, fun hpos hcalm => ⟨fun hfree => ?_, fun hspent => ?_⟩⟩
  · rw [startAttempt_zero (hstage.trans hzero), runEffect_nil, hfan]
    exact ⟨rfl, rfl, rfl⟩
  · obtain ⟨hcoasts, hentry⟩ := startAttempt_coasts hmanual' hstopped (by omega) (by rw [hfan]; exact hdir) (by rw [hfan]; exact hfast)
    rw [hfan] at hcoasts hentry
    rw [hcoasts]
    exact ⟨rfl, rfl, rfl, hentry⟩
  · have hslow : ¬((m.fan f).reqDir ≠ (m.fan f).dirOut ∧ aboveCoast (m.fan f).cfg (m.fan f).reading = true) := by
      rw [hfan]
      exact fun ⟨hdir, hfast⟩ => hcalm.elim hdir fun hcalm => by simp_all [Fan.toStopped, Fan.powerOff, Fan.withCfg]
    rw [startAttempt_starts hmanual' hstopped (by omega) hslow (by rw [hstamps, hfan]; exact hfree), hstamps, hfan]
    exact ⟨rfl, rfl, rfl, rfl, rfl⟩
  · have hslow : ¬((m.fan f).reqDir ≠ (m.fan f).dirOut ∧ aboveCoast (m.fan f).cfg (m.fan f).reading = true) := by
      rw [hfan]
      exact fun ⟨hdir, hfast⟩ => hcalm.elim hdir fun hcalm => by simp_all [Fan.toStopped, Fan.powerOff, Fan.withCfg]
    obtain ⟨hwaits, hentry⟩ := startAttempt_waits hmanual' hstopped (by omega) hslow (by rw [hstamps, hfan]; exact hspent)
    rw [hstamps, hfan, waitSeconds_congr htb] at hentry
    rw [hwaits]
    exact ⟨rfl, rfl, hentry⟩

end Present

/-! ### The statement -/

theorem exec_setFan {fields : List Byte} {s : State} (hready : s.ready) (hlength : fields.length = 22) :
    exec (.setFan .addressed fields) s = .next (beginService 0x13 (serveSetFan fields (contact s))) :=
  exec_served (i := .setFan .addressed fields) (r := ⟨0x13, false, 22, .addressed, fields⟩) hready rfl rfl hlength

theorem serveSetFan_fan {f : FanNo} {fields : List Byte} (h : u8 fields 0 = f.val) (s : State) :
    serveSetFan fields s = setFanConfig f (fields.drop 1) s := by
  rw [serveSetFan, h, indexOf_val]

theorem setFanConfig_barred {f : FanNo} {sent : List Byte} {s : State} (h : fanSetBarred (s.fan f).state (yes sent 0) = true) :
    setFanConfig f sent s = refuse .notNow s := by
  rw [setFanConfig, if_pos h]

theorem setFanConfig_inconsistent {f : FanNo} {sent : List Byte} {s : State}
    (h : fanSetBarred (s.fan f).state (yes sent 0) = false) (hinconsistent : ¬consistentFan (takenFan sent) = true) :
    setFanConfig f sent s = refuse .inconsistent s := by
  rw [setFanConfig, h, if_neg (by simp), if_neg hinconsistent]

theorem setFanConfig_taken {f : FanNo} {sent : List Byte} {s : State}
    (h : fanSetBarred (s.fan f).state (yes sent 0) = false) (hconsistent : consistentFan (takenFan sent) = true) :
    setFanConfig f sent s = answer ((takenFan sent).bytes != sent) (byte f.val :: (takenFan sent).bytes)
      (runEffect (placeFan f (takenFan sent) s)) := by
  rw [setFanConfig, h, if_neg (by simp), if_pos hconsistent]

theorem contact_windowStamps (f : FanNo) (y : Fan) (s : State) :
    ((contact s).setFan f y).windowStamps f = (s.setFan f y).windowStamps f :=
  windowStamps_congr (contact_tb s) (by rw [State.fan_setFan, State.fan_setFan, if_pos rfl, if_pos rfl])
    (by rw [State.fan_setFan, State.fan_setFan, if_pos rfl, if_pos rfl])

/-- Settles O33: refused by the fan's number, state and stages; accepted, by the fan's presence before and after. -/
theorem setFanStores : Obligations.SetFanStores := by
  refine ⟨fun fields s hready hlength hnumber => ?_, fun f fields s cfg hready hlength hnumber hcfg => ?_⟩
  · rw [exec_setFan hready hlength, serveSetFan, indexOf_none hnumber, beginService_refuse]
  rw [exec_setFan hready hlength, serveSetFan_fan hnumber, ← yes_drop, ← contact_fan s f]
  subst hcfg
  refine ⟨fun hbarred => ?_, fun hfree hinconsistent => ?_, fun hfree hlow hhigh hperiod => ?_⟩
  · rw [setFanConfig_barred hbarred, beginService_refuse]
  · rw [setFanConfig_inconsistent hfree (fun h => hinconsistent (consistentFan_iff.mp h)), beginService_refuse]
  obtain ⟨hothers, hchannels, hrau, hparts⟩ := placeFan_apart f (takenFan (fields.drop 1)) (contact s)
  obtain ⟨hcfg, hcount, hreading, hretry⟩ := placeFan_stores f (takenFan (fields.drop 1)) (contact s)
  refine ⟨runEffect (placeFan f (takenFan (fields.drop 1)) (contact s)), ?_, hcfg, hcount, hreading, hretry,
    fun hzero hnone => ?_, fun hzero hsome => ?_, fun g hg => ?_, fun c => ?_, ?_, hparts, ?_⟩
  · rw [setFanConfig_taken hfree (consistentFan_iff.mpr ⟨hlow, hhigh, hperiod⟩), beginService_answer]
  · rw [placeFan_absent hnone (by rw [fanConfig_present, hzero]; rfl), runEffect_nil, withCfg_fan]
    rfl
  · obtain ⟨r, hretires⟩ := placeFan_retires hsome (by rw [fanConfig_present, hzero]; rfl)
    rw [hretires]
    exact ⟨rfl, rfl, rfl, rfl, rfl, rfl⟩
  · rw [hothers g hg, contact_fan]
  · rw [hchannels c, contact_ch]
  · rw [hrau, contact_rau]
  · rintro hone y due kept rfl rfl rfl
    have hpresent : (takenFan (fields.drop 1)).present = true := by rw [fanConfig_present]; exact decide_eq_true hone
    rw [← contact_windowStamps, ← contact_tb s]
    refine ⟨placeFan_retries hpresent, placeFan_keeps hpresent, fun hstate hactive => ?_, fun hnone hidle hinhibit => ?_,
      fun hnone hidle hinhibit hmanual hshort => ?_, fun hnone hincident => ?_⟩
    · obtain ⟨cause, hcause, r, htrips, hentry⟩ := placeFan_trips hpresent hstate hactive
      refine ⟨cause, hcause, ?_⟩
      rw [htrips]
      exact ⟨rfl, rfl, rfl, rfl, rfl, hentry⟩
    · obtain ⟨r, hheld⟩ := placeFan_inhibited hnone hpresent hidle (by rw [contact_inhibit]; exact hinhibit)
      rw [hheld]
      exact ⟨rfl, rfl, rfl⟩
    · have hmoves := placeFan_manual hpresent hnone hidle (by rw [contact_inhibit]; exact hinhibit) (by rw [contact_rau]; exact hmanual)
        (by rw [contact_rau]; exact hshort) rfl rfl
      rw [waitSeconds_congr (contact_tb s)] at hmoves
      exact hmoves
    · have hrole := placeFan_role hnone hpresent (by rw [contact_rau]; exact hincident)
      rw [contact_rau] at hrole
      exact hrole

end Sys2Proof.Machine

end

/-! PROOFS. Hand-overs to the fans that the CAL makes nothing of, as equations: it is IDLE, or a head waits for quiet behind a fan
that is in transition (R82, R90). -/

section

namespace Sys2Proof.Machine

/-! ### One act -/

/-- The CAL makes nothing of a fan's change: IDLE, or WAITING QUIET behind a fan that is in transition. -/
abbrev State.calRests (s : State) : Prop := s.cal.phase = .none ∨ (s.cal.phase = .waitingQuiet ∧ s.fansMoving = true)

theorem State.calRests.airOff {s : State} (h : s.calRests) : s.cal.phase.airOn = false := by
  rcases h with h | ⟨h, -⟩ <;> rw [h] <;> rfl

theorem State.calRests.congr {s t : State} (h : s.calRests) (hcal : t.cal = s.cal) (hfans : t.fans = s.fans) : t.calRests := by
  have hmoving : t.fansMoving = s.fansMoving := by simp only [State.fansMoving, State.fan, hfans]
  rw [State.calRests, hcal, hmoving]
  exact h

theorem quietTest_rests {s : State} (h : s.calRests) : quietTest s = (s, []) := by
  rcases h with hnone | ⟨-, hmoving⟩
  · exact quietTest_idle (by rw [hnone]; decide)
  · unfold quietTest
    split
    · rfl
    · rw [if_neg fun e => by rw [hmoving] at e; exact nomatch e.2]

/-- A change inside the operating states, with the air off: the RAU does not hear of it, and no head is aborted. -/
theorem fanMoved_airOff {a b : Option FanState} (hfixed : fixedState b = fixedState a) {s : State} (h : s.cal.phase.airOn = false) :
    fanMoved a b s = (if loadsCountdown a b then loadCountdowns s else s,
      if movingState a && a != b then [.quietTest] else []) := by
  have hrau := rauHears_fixed hfixed
  simp only [fanMoved, calHears, loadedIf_cal, h, Bool.and_false, hrau, List.append_nil]
  rfl

/-- A change inside the operating states loads at most the countdowns. -/
theorem run_fanMoved_rests {a b : Option FanState} (hfixed : fixedState b = fixedState a) {s : State} (hrests : s.calRests)
    (f : FanNo) (rest : List Work) :
    run (.fanMoved f a b :: rest) s = run rest (if loadsCountdown a b then loadCountdowns s else s) := by
  have hquiet := quietTest_rests (hrests.congr (loadedIf_cal (loadsCountdown a b) s) (loadedIf_fans _ _))
  have hmoved : perform (.fanMoved f a b) s = _ := fanMoved_airOff hfixed hrests.airOff
  rw [run_cons (postponed_of_ne (by simp) rest), hmoved]
  generalize (if loadsCountdown a b then loadCountdowns s else s) = u at hquiet
  dsimp only
  split
  · rw [List.cons_append, List.nil_append, run_cons (postponed_of_ne (by decide) rest), perform, hquiet]
    rfl
  · rfl

/-- An act of a fan that the CAL makes nothing of: besides the act, at most the countdowns are loaded. -/
theorem run_act_rests {w : Work} {f : FanNo} (hw : w.actsOn = some f) {s : State} (hrests : (perform w s).1.calRests)
    (rest : List Work) :
    ∃ b : Bool, run (w :: rest) s = run rest (if b then loadCountdowns (perform w s).1 else (perform w s).1) := by
  have hact := perform_act hw s
  have hfixed := state_of_fixed ((perform_handedOn w s).fan f)
  rw [run_cons (postponed_of_ne (by rintro rfl; exact nomatch hw) rest)]
  rcases hact.works with ⟨hnone, -⟩ | hmoved
  · exact ⟨false, by rw [hnone]; rfl⟩
  · exact ⟨_, by rw [hmoved]; exact run_fanMoved_rests hfixed hrests f rest⟩

/-! ### Fans handed what the RAU holds for them -/

/-- The fan stays in transition whatever it is handed: COASTING, or STARTING or CHANGING with an effective stage above 0. -/
abbrev State.keepsMoving (s : State) (f : FanNo) : Prop :=
  (s.fan f).state = some .coasting ∨ (movingState (s.fan f).state = true ∧ 0 < (s.held f).eff)

/-- The CAL makes nothing of hand-overs of what the RAU holds. -/
abbrev State.calStays (s : State) : Prop := s.cal.phase = .none ∨ (s.cal.phase = .waitingQuiet ∧ ∃ f, s.keepsMoving f)

theorem movingState_iff {x : Option FanState} :
    movingState x = true ↔ x = some .starting ∨ x = some .changing ∨ x = some .coasting := by
  rcases x with - | x
  · simp [movingState]
  · cases x <;> simp [movingState, FanState.moving]

theorem fansMoving_of {s : State} {f : FanNo} (h : movingState (s.fan f).state = true) : s.fansMoving = true :=
  List.any_eq_true.mpr ⟨f, mem_allFans f, h⟩

theorem State.keepsMoving.moving {s : State} {f : FanNo} (h : s.keepsMoving f) : movingState (s.fan f).state = true := by
  rcases h with h | ⟨h, -⟩
  · rw [h]
    rfl
  · exact h

theorem State.calStays.calRests {s : State} (h : s.calStays) : s.calRests := h.imp_right fun ⟨hwaits, _, hf⟩ => ⟨hwaits, fansMoving_of hf.moving⟩

/-- A fan with a start that is due. -/
abbrev Fan.dueToStart (x : Fan) : Prop := x.state = some .waitingBudget ∧ x.startDue = true

section Handed

variable {f : FanNo} {s : State}

/-- A fan that is handed its record holds it. -/
theorem handed_holds (f : FanNo) (s : State) : ((handed f s).1.fan f).holds (s.held f) = true := by
  cases hholds : (s.fan f).holds (s.held f) with
  | true => rw [handed_holding hholds, hholds]
  | false =>
    rw [handed_follows hholds, holds_iff]
    exact (receiveHandover_complies f s).told

theorem handed_waits (hregime : s.rau.regime ≠ .incident) (hdue : (s.fan f).dueToStart) (hpos : 0 < (s.held f).eff) :
    ((handed f s).1.fan f).dueToStart := by
  cases hholds : (s.fan f).holds (s.held f) with
  | true => rw [handed_holding hholds]; exact hdue
  | false =>
    have hfan := State.fan_modFan_same s f (·.store (s.held f))
    rw [handed_follows hholds, followHandover_waits (s := s.modFan f (·.store (s.held f))) (by rw [hfan]; exact hdue.1)
      (by rw [hfan]; exact hpos.ne') hregime, hfan]
    exact hdue

/-- A powered fan that is handed a stage above 0 turns on, or coasts. -/
theorem handed_transition (hmoving : (s.fan f).state = some .starting ∨ (s.fan f).state = some .changing) (hpos : 0 < (s.held f).eff) :
    ((handed f s).1.fan f).state = (s.fan f).state ∧ ((handed f s).1.fan f).dirOut = (s.fan f).dirOut ∨
      ((handed f s).1.fan f).state = some .coasting ∧ (s.held f).dir ≠ (s.fan f).dirOut := by
  cases hholds : (s.fan f).holds (s.held f) with
  | true => rw [handed_holding hholds]; exact .inl ⟨rfl, rfl⟩
  | false =>
    have hfan := State.fan_modFan_same s f (·.store (s.held f))
    have hpowered : poweredState ((s.modFan f (·.store (s.held f))).fan f).state = true := by
      rw [hfan]
      exact poweredState_iff.mpr (hmoving.imp_right .inl)
    have hpos' : ((s.modFan f (·.store (s.held f))).fan f).effStage ≠ 0 := by rw [hfan]; exact hpos.ne'
    rw [handed_follows hholds]
    by_cases hdir : (s.held f).dir = (s.fan f).dirOut
    · have hdir' : ((s.modFan f (·.store (s.held f))).fan f).reqDir = ((s.modFan f (·.store (s.held f))).fan f).dirOut := by
        rw [hfan]; exact hdir
      refine .inl ?_
      by_cases hstage : ((s.modFan f (·.store (s.held f))).fan f).effStage = (s.fan f).effStage
      · rw [followHandover_stays hpowered hpos' hdir' hstage, hfan]
        exact ⟨rfl, rfl⟩
      · rw [followHandover_changes hpowered hpos' hdir' hstage]
        rcases hmoving with hst | hst
        · rw [changeStage_starting (by rw [hfan]; exact hst), hfan]
          exact ⟨rfl, rfl⟩
        · rw [changeStage_changing (by rw [hfan]; exact hst), hfan]
          exact ⟨rfl, rfl⟩
    · rw [followHandover_reverses hpowered hpos' (by rw [hfan]; exact hdir), reverseFan_fan]
      exact .inr ⟨rfl, hdir⟩

theorem handed_coasts (hcoasts : (s.fan f).state = some .coasting) : ((handed f s).1.fan f).state = some .coasting := by
  cases hholds : (s.fan f).holds (s.held f) with
  | true => rw [handed_holding hholds]; exact hcoasts
  | false =>
    have hfan := State.fan_modFan_same s f (·.store (s.held f))
    rw [handed_follows hholds, followHandover_coasting (by rw [hfan]; exact hcoasts), hfan]
    exact hcoasts

end Handed

/-- The fans of the list have taken what the RAU holds for them, beside which at most countdowns and entries have changed. -/
structure HandedTo (fs : List FanNo) (s t : State) : Prop where
  cal : t.cal = s.cal
  rau : t.rau = s.rau
  handedOn : HandedOn s t
  holds : ∀ f ∈ fs, (t.fan f).holds (s.held f) = true
  others : ∀ f, f ∉ fs → t.fan f = s.fan f
  waits : s.rau.regime ≠ .incident → ∀ f, (s.fan f).dueToStart → 0 < (s.held f).eff → (t.fan f).dueToStart
  moving : ∀ f, s.keepsMoving f → t.keepsMoving f

namespace HandedTo

variable {s t u : State}

theorem held {fs : List FanNo} (h : HandedTo fs s t) (f : FanNo) : t.held f = s.held f := by rw [State.held, h.rau, State.held]

theorem nil (s : State) : HandedTo [] s s := ⟨rfl, rfl, .refl s, nofun, fun _ _ => rfl, fun _ _ h _ => h, fun _ => id⟩

theorem calStays {fs : List FanNo} (h : HandedTo fs s t) (k : s.calStays) : t.calStays := by
  rw [State.calStays, h.cal]
  exact k.imp_right fun ⟨hwaits, f, hf⟩ => ⟨hwaits, f, h.moving f hf⟩

theorem cons {f : FanNo} {fs : List FanNo} (h : HandedTo [f] s t) (k : HandedTo fs t u) : HandedTo (f :: fs) s u where
  cal := k.cal.trans h.cal
  rau := k.rau.trans h.rau
  handedOn := h.handedOn.trans k.handedOn
  holds g hg := by
    rw [← h.held]
    by_cases hmem : g ∈ fs
    · exact k.holds g hmem
    · have hgf : g = f := (List.mem_cons.mp hg).resolve_right hmem
      rw [k.others g hmem, h.held, hgf]
      exact h.holds f (List.mem_singleton_self f)
  others g hg := by
    rw [List.mem_cons, not_or] at hg
    rw [k.others g hg.2, h.others g (by simpa using hg.1)]
  waits hregime g hdue hpos := k.waits (by rw [h.rau]; exact hregime) g (h.waits hregime g hdue hpos) (by rw [h.held]; exact hpos)
  moving g hg := k.moving g (h.moving g hg)

end HandedTo

/-- One fan handed its record, and the countdowns loaded or not. -/
theorem handedTo_one (f : FanNo) (s : State) (b : Bool) :
    HandedTo [f] s (if b then loadCountdowns (handed f s).1 else (handed f s).1) := by
  have hact : FanAct f s (handed f s) := perform_act rfl s
  have hfan : ∀ g, (if b then loadCountdowns (handed f s).1 else (handed f s).1).fan g = (handed f s).1.fan g := fun g => by
    rw [State.fan, loadedIf_fans, State.fan]
  have hrau : (if b then loadCountdowns (handed f s).1 else (handed f s).1).rau = s.rau := by
    rw [← hact.rau]
    cases b <;> rfl
  have hheld : ∀ g, (if b then loadCountdowns (handed f s).1 else (handed f s).1).held g = s.held g := fun g => by
    rw [State.held, hrau, State.held]
  refine ⟨(loadedIf_cal b _).trans hact.cal, hrau, (perform_handedOn (.handFan f) s).trans (loadedIf_handedOn b _), fun g hg => ?_,
    fun g hg => ?_, fun hregime g hdue hpos => ?_, fun g hg => ?_⟩
  · rw [List.mem_singleton.mp hg, hfan]
    exact handed_holds f s
  · rw [hfan, hact.others g (by simpa using hg)]
  · rw [hfan]
    by_cases hgf : g = f
    · subst hgf
      exact handed_waits hregime hdue hpos
    · rw [hact.others g hgf]
      exact hdue
  · rw [State.keepsMoving, hfan, hheld]
    by_cases hgf : g = f
    · subst hgf
      rcases hg with hcoasts | ⟨hmoving, hpos⟩
      · exact .inl (handed_coasts hcoasts)
      · rcases movingState_iff.mp hmoving with hst | hst | hst
        · exact (handed_transition (.inl hst) hpos).elim (fun e => .inr ⟨by rw [e.1]; exact hmoving, hpos⟩) fun e => .inl e.1
        · exact (handed_transition (.inr hst) hpos).elim (fun e => .inr ⟨by rw [e.1]; exact hmoving, hpos⟩) fun e => .inl e.1
        · exact .inl (handed_coasts hst)
    · rw [hact.others g hgf]
      exact hg

theorem run_handFans {s : State} (hcalm : s.calStays) (fs : List FanNo) (rest : List Work) :
    ∃ t, run (fs.map Work.handFan ++ rest) s = run rest t ∧ HandedTo fs s t := by
  induction fs generalizing s with
  | nil => exact ⟨s, rfl, .nil s⟩
  | cons f fs ih =>
    have hact : FanAct f s (handed f s) := perform_act rfl s
    have hone := handedTo_one f s false
    have hcalm' : (perform (.handFan f) s).1.calRests := (hone.calStays hcalm).calRests
    obtain ⟨b, hrun⟩ := run_act_rests rfl hcalm' (fs.map Work.handFan ++ rest)
    have hstep := handedTo_one f s b
    obtain ⟨t, hrest, hhanded⟩ := ih (hstep.calStays hcalm)
    exact ⟨t, hrun.trans hrest, hstep.cons hhanded⟩

/-! ### Starts granted -/

/-- The starts that are due have been granted, beside which at most countdowns and entries have changed. -/
structure GrantedTo (fs : List FanNo) (s t : State) : Prop where
  cal : t.cal = s.cal
  rau : t.rau = s.rau
  handedOn : HandedOn s t
  fans : ∀ f, t.fan f = if f ∈ fs then (s.fan f).granted s.tb.uptime else s.fan f

theorem granted_moving {x : Fan} {now : Ms} (h : movingState x.state = true) : x.granted now = x :=
  if_neg fun e => by rw [e.1] at h; exact nomatch h

theorem run_grants_rests {s : State} (hcalm : s.calRests) (fs : List FanNo) (rest : List Work) :
    ∃ t, run (fs.map Work.grant ++ rest) s = run rest t ∧ GrantedTo fs s t := by
  induction fs generalizing s with
  | nil => exact ⟨s, rfl, rfl, rfl, .refl s, fun _ => by simp⟩
  | cons f fs ih =>
    have hact := grantStart_act f s
    have hhanded : HandedOn s (grantStart f s).1 := perform_handedOn (.grant f) s
    have hfan : ∀ g, (grantStart f s).1.fan g = if g = f then (s.fan g).granted s.tb.uptime else s.fan g := fun g => by
      split
      · next hg => rw [hg, grantStart_fan]
      · next hg => exact hact.others g hg
    have hcalm' : (perform (.grant f) s).1.calRests := by
      have hcal : (perform (.grant f) s).1.cal = s.cal := hact.cal
      rw [State.calRests, hcal]
      refine hcalm.imp_right fun ⟨hwaits, hmoving⟩ => ⟨hwaits, ?_⟩
      obtain ⟨g, -, hg⟩ := List.any_eq_true.mp hmoving
      refine fansMoving_of (f := g) ?_
      have hsame : (perform (.grant f) s).1.fan g = s.fan g := by
        refine (hfan g).trans ?_
        split
        · exact granted_moving hg
        · rfl
      rw [hsame]
      exact hg
    obtain ⟨b, hrun⟩ := run_act_rests rfl hcalm' (fs.map Work.grant ++ rest)
    obtain ⟨t, hrest, hgranted⟩ := ih (hcalm'.congr (loadedIf_cal b _) (loadedIf_fans b _))
    have hstep : HandedOn s (if b then loadCountdowns (grantStart f s).1 else (grantStart f s).1) :=
      hhanded.trans (loadedIf_handedOn b _)
    refine ⟨t, hrun.trans hrest, (hgranted.cal.trans (loadedIf_cal b _)).trans hact.cal, hgranted.rau.trans ?_,
      hstep.trans hgranted.handedOn, fun g => ?_⟩
    · rw [← hact.rau]
      cases b <;> rfl
    · have hloaded : (if b then loadCountdowns (grantStart f s).1 else (grantStart f s).1).fan g = (grantStart f s).1.fan g := by
        rw [State.fan, loadedIf_fans, State.fan]
      rw [hgranted.fans g]
      simp only [perform] at hloaded ⊢
      rw [hloaded, hstep.tb, hfan g]
      by_cases hgf : g = f
      · subst hgf
        simp [granted_twice]
      · simp [hgf]

end Sys2Proof.Machine

end

/-! PROOFS. The RAU's re-evaluation in AUTO, where the CAL makes nothing of it (R157–R163, R167). -/

section

namespace Sys2Proof.Machine

/-! ### DEMAND SHORT and the due starts that follow an allocation -/

theorem evaluateShort_record (s : State) : (evaluateShort s).rau = { s.rau with short := decide (s.delivered < s.thrustSought) } :=
  (evaluateShort_eq rfl rfl).1

theorem mayGrant_of_airOff {s : State} (hauto : s.rau.regime = .auto) (hair : s.cal.phase.airOn = false) : s.mayGrant = true := by
  simp [State.mayGrant, hauto, State.heldBack, State.deferral, hair]

/-- DEMAND SHORT has been evaluated and every due start granted. -/
structure Concluded (s t : State) : Prop where
  cal : t.cal = s.cal
  rau : ∃ b, t.rau = { s.rau with short := b }
  handedOn : HandedOn s t
  fans : ∀ f, t.fan f = (s.fan f).granted s.tb.uptime

theorem run_afterAllocation {s : State} (hauto : s.rau.regime = .auto) (hrests : s.calRests) {rest : List Work}
    (hrest : rest.any Work.handsFan = false) : ∃ t, run (afterAllocation ++ rest) s = run rest t ∧ Concluded s t := by
  have halters := evaluateShort_alters s
  have hhanded := evaluateShort_handedOn s
  have hcal : (evaluateShort s).cal = s.cal := halters.1 .cal (by decide)
  have hfans : (evaluateShort s).fans = s.fans := halters.1 .fans (by decide)
  have hrests' := hrests.congr hcal hfans
  have hgrants := mayGrant_of_airOff (s := evaluateShort s) (hhanded.regime.trans hauto) hrests'.airOff
  obtain ⟨t, hrun, hgranted⟩ := run_grants_rests hrests' [0, 1, 2, 3] rest
  refine ⟨t, ?_, hgranted.cal.trans hcal, ⟨_, hgranted.rau.trans (evaluateShort_record s)⟩, hhanded.trans hgranted.handedOn, fun f => ?_⟩
  · rw [← hrun, afterAllocation, List.cons_append, List.cons_append, List.nil_append,
      run_cons (postponed_of_handsNone _ (by simpa [Work.handsFan] using hrest))]
    change run (.grantDue :: rest) (evaluateShort s) = _
    rw [run_cons (postponed_of_ne (by decide) rest), perform, hgrants]
    rfl
  · rw [hgranted.fans f, if_pos (show f ∈ [0, 1, 2, 3] from mem_allFans f), hhanded.tb, State.fan, hfans, State.fan]

/-! ### What an allocation rests on -/

/-- The states agree on what the ranking rests on. -/
structure SameRanking (s t : State) : Prop where
  fans : t.fans = s.fans
  tb : t.tb = s.tb
  autoDir : t.rau.autoDir = s.rau.autoDir

namespace SameRanking

variable {s t : State} (h : SameRanking s t)

include h

theorem fan (f : FanNo) : t.fan f = s.fan f := by rw [State.fan, h.fans, State.fan]

theorem windowStamps (f : FanNo) : t.windowStamps f = s.windowStamps f :=
  windowStamps_congr h.tb (by rw [h.fan]) (by rw [h.fan])

theorem rankedBefore : t.rankedBefore = s.rankedBefore := by
  have hclass : ∀ f, t.rankClass f = s.rankClass f := fun f => by
    rw [State.rankClass, h.fan, h.autoDir, h.windowStamps, State.rankClass]
  funext f g
  simp only [State.rankedBefore, hclass, h.windowStamps]

theorem insertRanked (f : FanNo) (l : List FanNo) : insertRanked t f l = insertRanked s f l := by
  induction l with
  | nil => rfl
  | cons g rest ih => rw [Machine.insertRanked, h.rankedBefore, ih, Machine.insertRanked]

theorem ranking : t.ranking = s.ranking := by
  have havailable : t.available = s.available := by
    funext f
    rw [State.available, h.fan, State.available]
  have hinsert : Machine.insertRanked t = Machine.insertRanked s := by
    funext f l
    exact h.insertRanked f l
  rw [State.ranking, hinsert, havailable, State.ranking]

theorem allocatedStage : t.allocatedStage = s.allocatedStage := by
  funext demand f
  rw [State.allocatedStage, h.ranking, State.allocatedStage]

theorem allocationChanges (hheld : t.rau.fans = s.rau.fans) : t.allocationChanges = s.allocationChanges := by
  have hsame : ∀ f, t.held f = s.held f := fun f => by rw [State.held, hheld, State.held]
  funext demand
  simp only [State.allocationChanges, h.allocatedStage, h.autoDir, hsame]

end SameRanking

/-! ### The re-evaluation as an equation -/

/-- The demand that a re-evaluation puts in force: a rise, or a fall whose hold has passed, at once (R157, R162). -/
def State.nextDemand (s : State) : Nat :=
  if s.rau.demand ≤ s.rau.sought ∨ s.holdPassed = true then s.rau.sought else s.rau.demand

theorem nextDemand_of_fall {s : State} (h : s.holdPassed = true) : s.nextDemand = s.rau.sought := if_pos (.inr h)

/-- The RAU's record with the demand in force. -/
abbrev State.inForce (s : State) (d : Nat) : State := setDemandInForce d (decide (s.rau.sought < d)) s

theorem reevaluate_free {s : State} (hauto : s.rau.regime = .auto) (hfree : s.heldBack = false) : reevaluate s =
    if s.allocationChanges s.nextDemand then applied s.nextDemand (s.inForce s.nextDemand)
    else (s.inForce s.nextDemand, afterAllocation) := by
  have hsame : ∀ d b, (setDemandInForce d b s).allocationChanges = s.allocationChanges :=
    fun _ _ => SameRanking.allocationChanges ⟨rfl, rfl, rfl⟩ rfl
  simp only [reevaluate, hauto, ne_eq, not_true_eq_false, if_false, hfree, Bool.not_false, Bool.and_true, hsame, State.nextDemand,
    State.inForce]
  by_cases hrise : s.rau.demand ≤ s.rau.sought
  · simp [hrise]
  · by_cases hpassed : s.holdPassed = true
    · simp only [hrise, hpassed, if_false, if_true, or_true, Nat.lt_irrefl, decide_false, Bool.false_eq_true]
      cases s.allocationChanges s.rau.sought <;> rfl
    · simp [hrise, hpassed, Nat.lt_of_not_le hrise]

/-- What a re-evaluation in AUTO leaves, with the demand d in force. -/
structure Allocated (d : Nat) (s t : State) : Prop where
  cal : t.cal = s.cal
  handedOn : HandedOn s t
  step : t.rau.step = s.rau.step
  imax : t.rau.imax = s.rau.imax
  sought : t.rau.sought = s.rau.sought
  demand : t.rau.demand = d
  waiting : t.rau.fallWaiting = decide (s.rau.sought < d)
  change : t.rau.lastChange = if s.allocationChanges d then some s.stampNow else s.rau.lastChange
  req : ∀ f, (t.held f).req = s.allocatedStage d f
  dir : ∀ f, (t.held f).dir = s.rau.autoDir
  formed : s.allocationChanges d = true → ∀ f, (t.held f).eff = s.rau.effective (t.held f).req
  holds : s.allocationChanges d = true → ∀ f, (t.fan f).holds (t.held f) = true
  starts : ∀ f, (s.fan f).dueToStart → 0 < s.rau.effective (s.allocatedStage d f) → (t.fan f).state = some .starting

theorem held_of_unchanged {s : State} {d : Nat} (h : s.allocationChanges d = false) (f : FanNo) :
    (s.held f).req = s.allocatedStage d f ∧ (s.held f).dir = s.rau.autoDir := by
  have hf := List.any_eq_false.mp h f (mem_allFans f)
  simpa [not_or] using hf

theorem granted_due {x : Fan} (h : x.dueToStart) (now : Ms) : (x.granted now).state = some .starting := by
  rw [Fan.granted, if_pos h]
  rfl

theorem granted_told (x : Fan) (now : Ms) : (x.granted now).told = x.told := by
  unfold Fan.granted
  split <;> rfl

/-- The allocation of a demand put in force, every fan handed its own, the rest concluded. -/
theorem run_applied {s : State} (hauto : s.rau.regime = .auto) {d : Nat} (hunmoved : s.calUnmoved d)
    {rest : List Work} (hrest : rest.any Work.handsFan = false) :
    ∃ t, run ((applied d (s.inForce d)).2 ++ rest) (applied d (s.inForce d)).1 = run rest t ∧ Allocated d s t := by
  have hsame : SameRanking s (s.inForce d) := ⟨rfl, rfl, rfl⟩
  have hreq : ∀ f, ((applyAllocation d (s.inForce d)).held f).req = s.allocatedStage d f := fun f => by
    rw [applyAllocation_req, hsame.allocatedStage]
  have hdir : ∀ f, ((applyAllocation d (s.inForce d)).held f).dir = s.rau.autoDir := applyAllocation_dir d _
  have heff : ∀ f, ((applyAllocation d (s.inForce d)).held f).eff = s.rau.effective (s.allocatedStage d f) := fun f => by
    rw [applyAllocation_formed, hreq]
    rfl
  have hchange : (applyAllocation d (s.inForce d)).rau.lastChange =
      if s.allocationChanges d then some s.stampNow else s.rau.lastChange := by
    rw [← hsame.allocationChanges rfl]
    rfl
  have hstays : (applyAllocation d (s.inForce d)).calStays := hunmoved.imp_right fun ⟨hwaits, f, hf⟩ =>
    ⟨hwaits, f, hf.imp_right fun ⟨hmoving, hpos⟩ => ⟨hmoving, by rw [heff]; exact hpos⟩⟩
  obtain ⟨u, hhands, hhanded⟩ := run_handFans hstays [0, 1, 2, 3] (afterAllocation ++ rest)
  obtain ⟨t, hafter, hdone⟩ := run_afterAllocation (s := u) (by rw [hhanded.rau]; exact hauto) (hhanded.calStays hstays).calRests hrest
  obtain ⟨b, hrau⟩ := hdone.rau
  rw [hhanded.rau] at hrau
  have hrecord : HandedOn s (applyAllocation d (s.inForce d)) := rau_handedOn _ s rfl
  have hheld : ∀ f, t.held f = (applyAllocation d (s.inForce d)).held f := fun f => by rw [State.held, hrau, State.held]
  refine ⟨t, ?_, hdone.cal.trans hhanded.cal, (hrecord.trans hhanded.handedOn).trans hdone.handedOn, ?_, ?_, ?_, ?_, ?_, ?_,
    fun f => ?_, fun f => ?_, fun _ f => ?_, fun _ f => ?_, fun f hdue hpos => ?_⟩
  · rw [← hafter, ← hhands, applied, List.append_assoc]
    rfl
  · rw [hrau]; rfl
  · rw [hrau]; rfl
  · rw [hrau]; rfl
  · rw [hrau]; rfl
  · rw [hrau]; rfl
  · rw [hrau]; exact hchange
  · rw [hheld, hreq]
  · rw [hheld, hdir]
  · rw [hheld, heff, hreq]
  · rw [hheld, hdone.fans, holds_iff, granted_told, ← holds_iff]
    exact hhanded.holds f (mem_allFans f)
  · rw [hdone.fans]
    refine granted_due (hhanded.waits ?_ f hdue (by rw [heff]; exact hpos)) _
    change s.rau.regime ≠ .incident
    rw [hauto]
    decide

theorem run_unchanged {s : State} (hauto : s.rau.regime = .auto) {d : Nat} (hrests : s.calRests)
    (hchanges : s.allocationChanges d = false) {rest : List Work} (hrest : rest.any Work.handsFan = false) :
    ∃ t, run (afterAllocation ++ rest) (s.inForce d) = run rest t ∧ Allocated d s t := by
  obtain ⟨t, hafter, hdone⟩ := run_afterAllocation (s := s.inForce d) hauto hrests hrest
  obtain ⟨b, hrau⟩ := hdone.rau
  have hheld : ∀ f, t.held f = s.held f := fun f => by rw [State.held, hrau]; rfl
  have hrecord : HandedOn s (s.inForce d) := rau_handedOn _ s rfl
  refine ⟨t, hafter, hdone.cal, hrecord.trans hdone.handedOn, ?_, ?_, ?_, ?_, ?_, ?_, fun f => ?_, fun f => ?_,
    fun h => ?_, fun h => ?_, fun f hdue _ => ?_⟩
  · rw [hrau]; rfl
  · rw [hrau]; rfl
  · rw [hrau]; rfl
  · rw [hrau]; rfl
  · rw [hrau]; rfl
  · rw [hrau, hchanges]; rfl
  · rw [hheld, (held_of_unchanged hchanges f).1]
  · rw [hheld, (held_of_unchanged hchanges f).2]
  · rw [hchanges] at h
    exact nomatch h
  · rw [hchanges] at h
    exact nomatch h
  · rw [hdone.fans]
    exact granted_due hdue _

theorem calRests_of_unmoved {s : State} {d : Nat} (h : s.calUnmoved d) : s.calRests := h.imp_right fun ⟨hwaits, f, hf⟩ => by
  refine ⟨hwaits, fansMoving_of (f := f) ?_⟩
  rcases hf with hcoasts | ⟨hmoving, -⟩
  · rw [hcoasts]
    rfl
  · exact hmoving

/-- A re-evaluation in AUTO that leaves the CAL where it is. -/
theorem run_reevaluate {s : State} (hauto : s.rau.regime = .auto) (hunmoved : s.calUnmoved s.nextDemand) {rest : List Work}
    (hrest : rest.any Work.handsFan = false) : ∃ t, run (.reevaluate :: rest) s = run rest t ∧ Allocated s.nextDemand s t := by
  have hrests := calRests_of_unmoved hunmoved
  have hfree : s.heldBack = false := by simp [State.heldBack, State.deferral, hrests.airOff]
  have hperform : perform .reevaluate s = reevaluate s := rfl
  rw [run_cons (postponed_of_ne (by decide) rest), hperform, reevaluate_free hauto hfree]
  cases hchanges : s.allocationChanges s.nextDemand with
  | true => exact run_applied hauto hunmoved hrest
  | false => exact run_unchanged hauto hrests hchanges hrest

end Sys2Proof.Machine

end

/-! PROOFS. The timers of the queue's head (R84, R91), and the end of the calibration deferral (R167). -/

section

namespace Sys2Proof.Machine

/-! ### The end of the purge time -/

theorem exec_purgeTimeExpiry {s : State} (hphase : s.cal.phase = .purging)
    (hpassed : s.passed s.cal.purgeStart (1000 * s.cal.purgeTime) = true) :
    exec .purgeTimeExpiry s = .next (enterAccumulating s) :=
  congrArg Host.Outcome.next (if_pos (by simp [State.purgeOver, hphase, hpassed]))

theorem exec_purgeTimeExpiry_idle {s : State} (hphase : s.cal.phase ≠ .purging) : exec .purgeTimeExpiry s = .next s :=
  congrArg Host.Outcome.next (if_neg (by simp [State.purgeOver, hphase]))

/-! ### The abort of a head without sums -/

theorem exec_noSamples {s : State} {e : CalEntry} {rest : List CalEntry} (hqueue : s.cal.queue = e :: rest)
    (hphase : s.cal.phase = .accumulating) (hpassed : s.passed s.cal.lastSum 120000 = true) :
    exec .noSamples s = .next (runEffect (abortHead e .noSamples s)) := by
  have hover : s.samplesOver = true := by simp [State.samplesOver, hphase, hpassed]
  have habort : noSamplesAbort s = runEffect (abortHead e .noSamples s) := by
    simp only [noSamplesAbort, Cal.head, hqueue, List.head?_cons, if_pos hover]
  exact congrArg Host.Outcome.next habort

theorem abortHead_handedOn (e : CalEntry) (a : AbortCause) (s : State) :
    HandedOn (appendEvent (.cal e.channel) .calAborted (some a.code) (some 0) s) (abortHead e a s).1 :=
  endCalibration_handedOn e.channel [] (abortEntry e.channel a false s)

section Abort

variable {e : CalEntry} {rest : List CalEntry} {s : State} (hqueue : s.cal.queue = e :: rest)

include hqueue

theorem abortHead_queue (a : AbortCause) : (abortHead e a s).1.cal.queue = rest := by
  have hleft := endCalibration_queue e.channel (abortEntry e.channel a false s)
  have hbefore : (abortEntry e.channel a false s).cal.queue = e :: rest := hqueue
  rw [hbefore] at hleft
  exact hleft

theorem abortHead_unqueued (hnodup : (s.cal.queue.map (·.channel)).Nodup) (a : AbortCause) :
    (abortHead e a s).1.cal.queued e.channel = false := by
  rw [hqueue, List.map_cons, List.nodup_cons] at hnodup
  rw [Cal.queued, abortHead_queue hqueue]
  simpa using hnodup.1

theorem abortHead_calIdle (hlast : rest = []) (a : AbortCause) : (abortHead e a s).1.calIdle e.channel :=
  endCalibration_calIdle e.channel (by
    have hbefore : (abortEntry e.channel a false s).cal.queue = e :: rest := hqueue
    rw [hbefore, hlast]
    rfl)

end Abort

/-! ### The next head, where no queued channel participates -/

theorem contributes_none {s : State} {c : ChanNo} (h : (s.ch c).cfg.participates = false) : contributes s c = [] :=
  if_neg (by rw [h]; decide)

theorem run_calEnded_apart {s : State} {c : ChanNo} (hauto : s.rau.regime = .auto) (hapart : (s.ch c).cfg.participates = false)
    (ws : List Work) : run (.calEnded c :: ws) s = run (.reevaluate :: ws) s := by
  rw [run_cons (postponed_of_ne (by simp) ws)]
  simp only [perform, receiveCalEnd, hapart, hauto, Bool.false_eq_true, if_false, if_true]
  rfl

/-- The next head makes its quiet test, and the RAU does not hear of it. -/
theorem run_nextHead_apart {s : State} (hphase : s.cal.phase = .none)
    (hapart : ∀ x ∈ s.cal.queue, (s.ch x.channel).cfg.participates = false) :
    (run [.nextHead] s).rau = s.rau ∧ (run [.nextHead] s).fans = s.fans ∧ (run [.nextHead] s).cal.queue = s.cal.queue ∧
      (run [.nextHead] s).cal.phase =
        if s.cal.queue = [] then .none else if s.fansMoving = true then .waitingQuiet else .purging := by
  cases hqueue : s.cal.queue with
  | nil =>
    rw [run_nextHead_none hqueue, run_nil]
    exact ⟨rfl, rfl, hqueue, hphase⟩
  | cons e rest =>
    cases hmoving : s.fansMoving with
    | true =>
      rw [run_nextHead_waits hqueue hphase hmoving, run_nil]
      exact ⟨rfl, rfl, hqueue, rfl⟩
    | false =>
      have hnone : contributes s e.channel = [] := contributes_none (hapart e (by rw [hqueue]; exact .head _))
      rw [run_nextHead_purges hqueue hphase hmoving, hnone, List.append_nil, run_nil]
      exact ⟨rfl, rfl, hqueue, rfl⟩

/-- The deferral ends with the abort (R167): the RAU re-evaluates before the next head makes its quiet test. -/
theorem runEffect_abortHead {e : CalEntry} {rest : List CalEntry} {s : State} (hqueue : s.cal.queue = e :: rest)
    (hauto : s.rau.regime = .auto) (hapart : ∀ x ∈ s.cal.queue, (s.ch x.channel).cfg.participates = false) (a : AbortCause) :
    ∃ u, Allocated s.nextDemand (abortHead e a s).1 u ∧ runEffect (abortHead e a s) = run [.nextHead] u ∧
      ∀ x ∈ u.cal.queue, (u.ch x.channel).cfg.participates = false := by
  have hhanded := abortHead_handedOn e a s
  have hrau : (abortHead e a s).1.rau = s.rau := rfl
  have hapart' : ∀ x ∈ s.cal.queue, ((abortHead e a s).1.ch x.channel).cfg.participates = false := fun x hx => by
    have hcfg : ((abortHead e a s).1.ch x.channel).cfg = (s.ch x.channel).cfg := (congrArg Channel.cfg (hhanded.ch x.channel) :)
    rw [hcfg]
    exact hapart x hx
  have hnext : (abortHead e a s).1.nextDemand = s.nextDemand := rfl
  obtain ⟨u, hrun, hallocated⟩ := run_reevaluate (s := (abortHead e a s).1) hauto (.inl rfl) (rest := [.nextHead]) rfl
  rw [hnext] at hallocated
  refine ⟨u, hallocated, ?_, fun x hx => ?_⟩
  · have hworks : (abortHead e a s).2 = [.calEnded e.channel, .nextHead] := rfl
    rw [runEffect, hworks, run_calEnded_apart (s := (abortHead e a s).1) hauto (hapart' e (by rw [hqueue]; exact .head _)), hrun]
  · have hcfg : (u.ch x.channel).cfg = ((abortHead e a s).1.ch x.channel).cfg :=
      (congrArg Channel.cfg (hallocated.handedOn.ch x.channel) :)
    rw [hcfg]
    rw [hallocated.cal, abortHead_queue hqueue] at hx
    exact hapart' x (by rw [hqueue]; exact .tail _ hx)

/-- Settles O28: the purge time, the abort for want of sums, and the re-evaluation with which the deferral ends. -/
theorem headTimersAct : Obligations.HeadTimersAct := by
  refine fun s => ⟨exec_purgeTimeExpiry, exec_purgeTimeExpiry_idle, fun e rest ⟨hnodup, _⟩ hqueue hphase hpassed => ?_⟩
  refine ⟨_, exec_noSamples hqueue hphase hpassed, (abortHead_handedOn e .noSamples s).trans (runEffect_handedOn _),
    run_queued_eq_false _ (abortHead_unqueued hqueue hnodup .noSamples), fun hlast => ?_, ?_⟩
  · obtain ⟨-, hidle⟩ := run_calIdle (abortHead e .noSamples s).2 (abortHead_calIdle hqueue hlast .noSamples)
    exact hidle
  · rintro hauto hapart D rfl
    obtain ⟨u, hallocated, hrun, hapart'⟩ := runEffect_abortHead hqueue hauto hapart .noSamples
    have hcal := hallocated.cal
    have hleft : u.cal.queue = rest := by rw [hcal, abortHead_queue hqueue]
    obtain ⟨hrau, hfans, hkept, hnext⟩ := run_nextHead_apart (by rw [hcal]; rfl) hapart'
    have hsame : SameRanking s (abortHead e .noSamples s).1 := ⟨rfl, rfl, rfl⟩
    have hheld : ∀ f, (run [.nextHead] u).held f = u.held f := fun f => by rw [State.held, hrau, State.held]
    have hmoving : (run [.nextHead] u).fansMoving = u.fansMoving := by simp only [State.fansMoving, State.fan, hfans]
    rw [hrun, hrau]
    refine ⟨hallocated.sought, hallocated.demand, hallocated.waiting, ?_, fun f => ⟨?_, ?_, fun hwaits hdue hpos => ?_⟩, ?_, ?_⟩
    · rw [hallocated.change, hsame.allocationChanges rfl]
      rfl
    · rw [hheld, hallocated.req, hsame.allocatedStage]
      rfl
    · rw [hheld, hallocated.dir]
      rfl
    · rw [State.fan, hfans]
      exact hallocated.starts f ⟨hwaits, hdue⟩ (by rw [hsame.allocatedStage]; exact hpos)
    · rw [hkept, hleft]
    · rw [hnext, hleft, hmoving]

end Sys2Proof.Machine

end

/-! PROOFS. The calibration deferral (R165, R166): the re-evaluation that it holds back, and the one of an urgent step. -/

section

namespace Sys2Proof.Machine

/-! ### Urgency -/

theorem urgent_iff {s : State} : s.urgent = true ↔ s.rau.stepUrgent := by
  unfold State.urgent Rau.stepUrgent
  cases hstep : s.rau.step with
  | zero => simp
  | succ n => cases hat : s.rau.steps[n]? <;> simp [hat]

theorem heldBack_iff {s : State} (hauto : s.rau.regime = .auto) (hair : s.cal.phase.airOn = true) :
    s.heldBack = true ↔ ¬s.rau.stepUrgent := by
  rw [← urgent_iff, State.heldBack, State.deferral, hauto, hair]
  simp

/-! ### A change that is held back -/

/-- What a re-evaluation that is held back leaves of the demand: a rise at once, and a fall by its hold and its allocation. -/
def State.deferred (s : State) : State :=
  if s.rau.demand ≤ s.rau.sought ∨ (s.holdPassed = true ∧ s.allocationChanges s.rau.sought = false) then
    setDemandInForce s.rau.sought false s
  else if s.holdPassed = true then s else setDemandInForce s.rau.demand true s

theorem reevaluate_deferred {s : State} (hauto : s.rau.regime = .auto) (hheld : s.heldBack = true) :
    reevaluate s = (s.deferred, afterAllocation) := by
  simp only [reevaluate, hauto, ne_eq, not_true_eq_false, if_false, hheld, Bool.not_true, Bool.and_false, Bool.false_eq_true, if_true,
    State.deferred]
  by_cases hrise : s.rau.demand ≤ s.rau.sought
  · simp [hrise]
  · by_cases hpassed : s.holdPassed = true
    · simp only [hrise, hpassed, if_false, if_true, false_or, true_and]
      cases s.allocationChanges s.rau.sought <;> rfl
    · simp [hrise, hpassed]

theorem deferred_rau (s : State) : ∃ d b, s.deferred = { s with rau := { s.rau with demand := d, fallWaiting := b } } := by
  unfold State.deferred
  split
  · exact ⟨_, _, rfl⟩
  · split
    · exact ⟨s.rau.demand, s.rau.fallWaiting, rfl⟩
    · exact ⟨_, _, rfl⟩

theorem deferred_heldBack (s : State) : s.deferred.heldBack = s.heldBack := by
  obtain ⟨d, b, h⟩ := deferred_rau s
  rw [h]
  rfl

theorem evaluateShort_heldBack (s : State) : (evaluateShort s).heldBack = s.heldBack := by
  have hcal : (evaluateShort s).cal = s.cal := (evaluateShort_alters s).1 .cal (by decide)
  simp only [State.heldBack, State.deferral, State.urgent, evaluateShort_record, hcal]

/-- A re-evaluation that is held back moves no fan and grants no start. -/
theorem run_reevaluate_deferred {s : State} (hauto : s.rau.regime = .auto) (hheld : s.heldBack = true) :
    run [.reevaluate] s = evaluateShort s.deferred := by
  have hperform : perform .reevaluate s = reevaluate s := rfl
  have hregime : (evaluateShort s.deferred).rau.regime = .auto := by
    obtain ⟨d, b, h⟩ := deferred_rau s
    rw [evaluateShort_record, h]
    exact hauto
  have hwithheld := mayGrant_heldBack hregime ((evaluateShort_heldBack s.deferred).trans ((deferred_heldBack s).trans hheld))
  rw [run_singleton, hperform, reevaluate_deferred hauto hheld, afterAllocation, run_cons (postponed_of_handsNone _ rfl)]
  exact run_grantDue_withheld hwithheld

section Deferred

variable {s : State}

theorem deferred_rise (h : s.rau.demand ≤ s.rau.sought) : s.deferred.rau.demand = s.rau.sought ∧ s.deferred.rau.fallWaiting = false := by
  rw [State.deferred, if_pos (.inl h)]
  exact ⟨rfl, rfl⟩

theorem deferred_applied (hpassed : s.holdPassed = true) (hsame : s.allocationChanges s.rau.sought = false) :
    s.deferred.rau.demand = s.rau.sought ∧ s.deferred.rau.fallWaiting = false := by
  rw [State.deferred, if_pos (.inr ⟨hpassed, hsame⟩)]
  exact ⟨rfl, rfl⟩

variable (hfall : s.rau.sought < s.rau.demand)

include hfall

theorem deferred_stands (hpassed : s.holdPassed = true) (hchanges : s.allocationChanges s.rau.sought = true) : s.deferred = s := by
  have hnot : ¬(s.rau.demand ≤ s.rau.sought ∨ (s.holdPassed = true ∧ s.allocationChanges s.rau.sought = false)) := by
    simp [hchanges, Nat.not_le.mpr hfall]
  rw [State.deferred, if_neg hnot, if_pos hpassed]

theorem deferred_waits (hholding : s.holdPassed = false) :
    s.deferred.rau.demand = s.rau.demand ∧ s.deferred.rau.fallWaiting = true := by
  have hnot : ¬(s.rau.demand ≤ s.rau.sought ∨ (s.holdPassed = true ∧ s.allocationChanges s.rau.sought = false)) := by
    simp [hholding, Nat.not_le.mpr hfall]
  rw [State.deferred, if_neg hnot, if_neg (by simp [hholding])]
  exact ⟨rfl, rfl⟩

end Deferred

/-! ### The hold's expiry -/

theorem holdPassed_of {s : State} {t0 : Stamp} (hchange : s.rau.lastChange = some t0)
    (hpassed : t0.expired = true ∨ s.passed t0.time (1000 * s.rau.autoHold) = true) : s.holdPassed = true := by
  simpa [State.holdPassed, hchange, State.stampPassed] using hpassed

theorem exec_autoHoldExpiry {s : State} (hauto : s.rau.regime = .auto) (hwaiting : s.rau.fallWaiting = true)
    (hpassed : s.holdPassed = true) : exec .autoHoldExpiry s = .next (run [.reevaluate] s) :=
  congrArg Host.Outcome.next (if_pos (by simp [State.holdOverAuto, hauto, hwaiting, hpassed]))

theorem exec_autoHoldExpiry_idle {s : State} (h : s.rau.regime ≠ .auto ∨ s.rau.fallWaiting = false) :
    exec .autoHoldExpiry s = .next s := by
  have hidle : s.holdOverAuto = false := by
    rcases h with h | h <;> simp [State.holdOverAuto, h]
  exact congrArg Host.Outcome.next (if_neg (by simp [hidle]))

theorem effective_auto {k : Rau} (hauto : k.regime = .auto) (req : Nat) :
    k.effective req = if k.doorOpen then min req k.doorCap else req := by
  simp [Rau.effective, Rau.capped, hauto]

/-- A waiting fall applied at the hold's expiry, the CAL left where it is. -/
theorem autoHoldExpiry_applies {s : State} {t0 : Stamp} (hauto : s.rau.regime = .auto) (hwaiting : s.rau.fallWaiting = true)
    (hchange : s.rau.lastChange = some t0) (hpassed : t0.expired = true ∨ s.passed t0.time (1000 * s.rau.autoHold) = true)
    (hunmoved : s.calUnmoved s.rau.sought) :
    ∃ t, exec .autoHoldExpiry s = .next t ∧ Allocated s.rau.sought s t := by
  have hhold := holdPassed_of hchange hpassed
  obtain ⟨t, hrun, hallocated⟩ := run_reevaluate hauto (by rw [nextDemand_of_fall hhold]; exact hunmoved) (rest := []) rfl
  rw [nextDemand_of_fall hhold] at hallocated
  refine ⟨t, ?_, hallocated⟩
  rw [exec_autoHoldExpiry hauto hwaiting hhold, hrun, run_nil]

theorem Allocated.formed_auto {d : Nat} {s t : State} (h : Allocated d s t) (hauto : s.rau.regime = .auto)
    (hchanges : s.allocationChanges d = true) (f : FanNo) :
    (t.held f).eff = if s.rau.doorOpen then min (t.held f).req s.rau.doorCap else (t.held f).req := by
  rw [h.formed hchanges f, effective_auto hauto]

theorem deferred_alters (s : State) : Alters rauParts s s.deferred := by
  obtain ⟨d, b, h⟩ := deferred_rau s
  rw [h]
  exact alters_rau (.refl _) _

/-- What a re-evaluation that is held back leaves alone. -/
theorem evaluateShort_deferred (s : State) : sameBut [.evq, .rau] s (evaluateShort s.deferred) ∧
    (∀ f, (evaluateShort s.deferred).held f = s.held f) ∧ (evaluateShort s.deferred).rau.step = s.rau.step ∧
    (evaluateShort s.deferred).rau.sought = s.rau.sought ∧ (evaluateShort s.deferred).rau.lastChange = s.rau.lastChange ∧
    (evaluateShort s.deferred).rau.demand = s.deferred.rau.demand ∧
    (evaluateShort s.deferred).rau.fallWaiting = s.deferred.rau.fallWaiting := by
  have hparts := ((deferred_alters s).trans (evaluateShort_alters s.deferred)).1
  obtain ⟨d, b, h⟩ := deferred_rau s
  have hrecord := evaluateShort_record s.deferred
  have hheld : ∀ f, (evaluateShort s.deferred).held f = s.held f := fun f => by
    rw [State.held, evaluateShort_rauFans, h, State.held]
  refine ⟨hparts, hheld, ?_⟩
  rw [hrecord]
  refine ⟨?_, ?_, ?_, rfl, rfl⟩ <;> rw [h]

/-- A waiting fall at its hold's expiry while the deferral holds it back. -/
theorem autoHoldExpiry_deferred {s : State} {t0 : Stamp} (hauto : s.rau.regime = .auto) (hwaiting : s.rau.fallWaiting = true)
    (hchange : s.rau.lastChange = some t0) (hpassed : t0.expired = true ∨ s.passed t0.time (1000 * s.rau.autoHold) = true)
    (hair : s.cal.phase.airOn = true) (hcalm : ¬s.rau.stepUrgent) :
    exec .autoHoldExpiry s = .next (evaluateShort s.deferred) := by
  rw [exec_autoHoldExpiry hauto hwaiting (holdPassed_of hchange hpassed),
    run_reevaluate_deferred hauto ((heldBack_iff hauto hair).mpr hcalm)]

end Sys2Proof.Machine

end

/-! PROOFS. An urgent step applied while the deferral holds (R166): a fan set moving aborts the head, the RAU re-evaluates in the
midst of its hand-overs, and all that follows finds its record in force. -/

section

namespace Sys2Proof.Machine

/-! ### A demand at the capacity or above (R160) -/

theorem splitStage_full {demand available place : Nat} (hplace : place < available) (hfull : 3 * available ≤ demand) :
    splitStage demand available place = 3 := by
  have hdm : 3 * available = min demand (3 * available) := by omega
  have hn : available = (3 * available + 2) / 3 := by omega
  have hpos : 0 < available := by omega
  rw [splitStage_eq hdm hn, if_pos hplace, Nat.mul_div_cancel _ hpos, Nat.mul_mod_left, if_neg (by omega)]

theorem allocatedStage_full {s : State} {demand : Nat} (hfull : 3 * (allFans.filter s.available).length ≤ demand) (f : FanNo) :
    s.allocatedStage demand f = if s.available f then 3 else 0 := by
  cases havailable : s.available f with
  | false => rw [State.allocatedStage_unavailable havailable]; rfl
  | true =>
    obtain ⟨i, hi, hat⟩ := List.mem_iff_getElem.mp (State.mem_ranking.mpr havailable)
    rw [← s.ranking_perm.length_eq] at hfull
    rw [State.allocatedStage_ranked (List.getElem?_eq_some_iff.mpr ⟨hi, hat⟩), splitStage_full hi hfull]
    rfl

/-! ### Hand-overs after which the record stands -/

/-- The hand-overs that an allocation in force leads to, where no queued channel participates: a fan is handed its record only
where the stages have been formed. -/
def Work.settledIn (s : State) (w : Work) : Prop :=
  match w with
  | .handFan f => (s.held f).eff = s.rau.effective (s.held f).req
  | .calEnded c => (s.ch c).cfg.participates = false
  | .fanMoved _ _ _ | .nextHead | .quietTest | .availability | .reevaluate | .demandShort | .grantDue | .grant _ => True
  | .startAttempt _ | .handRegime _ | .contribution _ | .reform | .giveRole _ => False

/-- From s, with these hand-overs to come, the record of the RAU stands but for DEMAND SHORT. -/
structure Standing (s : State) (ws : List Work) (t : State) : Prop where
  handedOn : HandedOn s t
  rau : ∃ b, t.rau = { s.rau with short := b }
  apart : ∀ c, (s.ch c).cfg.participates = true → t.cal.queued c = false
  works : ∀ w ∈ ws, w.settledIn s

/-- The record that an urgent step has put in force: the demand sought, with its allocation. -/
structure State.inForceUrgently (s : State) : Prop where
  auto : s.rau.regime = .auto
  demand : s.rau.demand = s.rau.sought
  noFall : s.rau.fallWaiting = false
  full : 3 * (allFans.filter s.available).length ≤ s.rau.sought
  urgent : s.urgent = true
  req : ∀ f, (s.held f).req = if s.available f then 3 else 0
  dir : ∀ f, (s.held f).dir = s.rau.autoDir

namespace Standing

variable {s t : State} {ws : List Work}

theorem held (h : Standing s ws t) (f : FanNo) : t.held f = s.held f := by
  obtain ⟨b, hb⟩ := h.rau
  rw [State.held, hb, State.held]

theorem available (h : Standing s ws t) (f : FanNo) : t.available f = s.available f := by
  rw [State.available, availableState_of_fixed (state_of_fixed (h.handedOn.fan f)), State.available]

theorem tail {w : Work} {rest : List Work} (h : Standing s (w :: rest) t) : Standing s rest t :=
  ⟨h.handedOn, h.rau, h.apart, fun v hv => h.works v (.tail _ hv)⟩

theorem inForce (h : Standing s ws t) (k : s.inForceUrgently) : t.inForceUrgently := by
  obtain ⟨b, hb⟩ := h.rau
  have havailable : t.available = s.available := funext h.available
  refine ⟨?_, ?_, ?_, ?_, ?_, fun f => ?_, fun f => ?_⟩
  · rw [hb]; exact k.auto
  · rw [hb]; exact k.demand
  · rw [hb]; exact k.noFall
  · rw [hb, havailable]; exact k.full
  · have hurgent := k.urgent
    rw [State.urgent] at hurgent ⊢
    rw [hb]
    exact hurgent
  · rw [h.held, havailable]; exact k.req f
  · rw [h.held, hb]; exact k.dir f

/-- The head, if there is one, does not participate. -/
theorem head_apart (h : Standing s ws t) {e : CalEntry} (hhead : t.cal.head = some e) : (s.ch e.channel).cfg.participates = false := by
  cases hpart : (s.ch e.channel).cfg.participates with
  | false => rfl
  | true =>
    have hqueued : t.cal.queued e.channel = true := List.any_eq_true.mpr ⟨e, List.mem_of_mem_head? hhead, by simp⟩
    rw [h.apart e.channel hpart] at hqueued
    exact nomatch hqueued

theorem participates (h : Standing s ws t) (c : ChanNo) : (t.ch c).cfg.participates = (s.ch c).cfg.participates :=
  (congrArg (fun x : Channel => x.cfg.participates) (h.handedOn.ch c) :)

end Standing

/-- A re-evaluation that finds the record in force only concludes. -/
theorem reevaluate_inForce {s : State} (h : s.inForceUrgently) : reevaluate s = (s, afterAllocation) := by
  have hfree : s.heldBack = false := by simp [State.heldBack, h.urgent]
  have hnext : s.nextDemand = s.rau.sought := if_pos (.inl h.demand.le)
  have hsame : s.allocationChanges s.rau.sought = false := by
    rw [State.allocationChanges, List.any_eq_false]
    intro f _
    simp [h.req f, h.dir f, allocatedStage_full h.full]
  have hrecord : s.inForce s.rau.sought = s := by
    have hrau : { s.rau with demand := s.rau.sought, fallWaiting := decide (s.rau.sought < s.rau.sought) } = s.rau := by
      rw [← h.demand]
      simp only [Nat.lt_irrefl, decide_false]
      rw [← h.noFall]
    rw [State.inForce, setDemandInForce, hrau]
  rw [reevaluate_free h.auto hfree, hnext, hsame, hrecord]
  rfl

section Perform

variable {s t : State} {w : Work} {rest : List Work} (hs : s.inForceUrgently) (h : Standing s (w :: rest) t)

include h

theorem calHears_settledIn (a b : Option FanState) {u : State} (hu : u.cal = t.cal) : ∀ v ∈ (calHears a b u).2, v.settledIn s :=
  fun v hv => by
    unfold calHears at hv
    split at hv
    · unfold quietLost at hv
      split at hv
      · exact nomatch hv
      · next e hhead =>
        split at hv
        · rw [hu] at hhead
          simp only [endCalibration, List.mem_cons, List.not_mem_nil, or_false] at hv
          rcases hv with rfl | rfl
          · exact h.head_apart hhead
          · trivial
        · exact nomatch hv
    · dsimp only at hv
      split at hv
      · rw [List.mem_singleton.mp hv]
        trivial
      · exact nomatch hv

theorem fanMoved_settledIn (a b : Option FanState) : ∀ v ∈ (fanMoved a b t).2, v.settledIn s := fun v hv => by
  simp only [fanMoved, List.mem_append] at hv
  rcases hv with hv | hv
  · exact calHears_settledIn h a b (loadedIf_cal _ t) v hv
  · unfold rauHears at hv
    split at hv
    · rw [List.mem_singleton.mp hv]
      trivial
    · exact nomatch hv

theorem quietTest_settledIn : ∀ v ∈ (quietTest t).2, v.settledIn s := fun v hv => by
  unfold quietTest at hv
  split at hv
  · exact nomatch hv
  · next e hhead =>
    split at hv
    · rw [contributes_none ((h.participates e.channel).trans (h.head_apart hhead))] at hv
      exact nomatch hv
    · exact nomatch hv

include hs

/-- What a hand-over asks for, and what it leaves of the record. -/
theorem perform_settledIn : (∀ v ∈ (perform w t).2, v.settledIn s) ∧ ∃ b, (perform w t).1.rau = { t.rau with short := b } := by
  have hsame : ∀ {u : State}, u.rau = t.rau → ∃ b, u.rau = { t.rau with short := b } := fun hu => ⟨t.rau.short, hu⟩
  have hforce := h.inForce hs
  have hw := h.works w (.head _)
  have hact : ∀ f, w.actsOn = some f →
      (∀ v ∈ (perform w t).2, v.settledIn s) ∧ ∃ b, (perform w t).1.rau = { t.rau with short := b } := fun f hf => by
    have hled := perform_act hf t
    refine ⟨fun v hv => ?_, hsame hled.rau⟩
    rcases hled.works with ⟨hnone, -⟩ | hmoved
    · rw [hnone] at hv
      exact nomatch hv
    · rw [hmoved] at hv
      rw [List.mem_singleton.mp hv]
      trivial
  cases w with
  | startAttempt f | handRegime f | contribution c | reform | giveRole f => exact hw.elim
  | handFan f | grant f => exact hact f rfl
  | fanMoved f a b => exact ⟨fanMoved_settledIn h a b, hsame ((fanMoved_alters a b t).1 .rau (by decide))⟩
  | quietTest => exact ⟨quietTest_settledIn h, hsame ((quietTest_alters t).1 .rau (by decide))⟩
  | nextHead =>
    refine ⟨fun v hv => ?_, hsame ((nextHead_alters t).1 .rau (by decide))⟩
    simp only [perform, nextHead] at hv
    split at hv
    · exact nomatch hv
    · split at hv
      · rw [List.mem_singleton.mp hv]
        trivial
      · exact nomatch hv
  | calEnded c =>
    have hapart : (t.ch c).cfg.participates = false := (h.participates c).trans hw
    have hperform : perform (.calEnded c) t = (t, [.reevaluate]) := by simp [perform, receiveCalEnd, hapart, hforce.auto]
    rw [hperform]
    exact ⟨fun v hv => by rw [List.mem_singleton.mp hv]; trivial, hsame rfl⟩
  | availability =>
    have hperform : perform .availability t = (t, [.reevaluate]) := by simp [perform, hforce.auto]
    rw [hperform]
    exact ⟨fun v hv => by rw [List.mem_singleton.mp hv]; trivial, hsame rfl⟩
  | reevaluate =>
    simp only [perform, reevaluate_inForce hforce]
    refine ⟨fun v hv => ?_, hsame rfl⟩
    simp only [afterAllocation, List.mem_cons, List.not_mem_nil, or_false] at hv
    rcases hv with rfl | rfl <;> trivial
  | demandShort => exact ⟨nofun, _, evaluateShort_record t⟩
  | grantDue =>
    refine ⟨fun v hv => ?_, hsame rfl⟩
    simp only [perform] at hv
    split at hv
    · simp only [List.mem_cons, List.not_mem_nil, or_false] at hv
      rcases hv with rfl | rfl | rfl | rfl <;> trivial
    · exact nomatch hv

theorem perform_standing : Standing s ((perform w t).2 ++ rest) (perform w t).1 := by
  obtain ⟨hworks, b, hrau⟩ := perform_settledIn hs h
  obtain ⟨b', hb'⟩ := h.rau
  refine ⟨h.handedOn.trans (perform_handedOn w t), ⟨b, by rw [hrau, hb']⟩,
    fun c hc => (perform_calMove w t).queued_eq_false (h.apart c hc), fun v hv => ?_⟩
  exact (List.mem_append.mp hv).elim (hworks v) fun hv => h.works v (.tail _ hv)

end Perform

/-! ### A start that is due -/

/-- The fan runs up in the auto direction, or is granted its start by the hand-overs still to come. -/
def State.startsIn (s : State) (f : FanNo) (ws : List Work) (t : State) : Prop :=
  ((t.fan f).state = some .starting ∧ (t.fan f).dirOut = s.rau.autoDir) ∨
    ((t.fan f).dueToStart ∧ (t.fan f).reqDir = s.rau.autoDir ∧ (.grantDue ∈ ws ∨ .grant f ∈ ws))

theorem mem_grants : ∀ f : FanNo, Work.grant f ∈ [.grant 0, .grant 1, .grant 2, .grant 3] := by decide

theorem startsIn_tail {s t : State} {f : FanNo} {rest : List Work} (h : s.startsIn f (.demandShort :: rest) t) :
    s.startsIn f rest t := by
  refine h.imp_right fun ⟨hdue, hdir, hgrants⟩ => ⟨hdue, hdir, hgrants.imp (fun hm => ?_) fun hm => ?_⟩
  · exact (List.mem_cons.mp hm).resolve_left (by decide)
  · exact (List.mem_cons.mp hm).resolve_left (by simp)

theorem grantStart_startsIn {f : FanNo} {s t : State} (h : ((t.fan f).state = some .starting ∧ (t.fan f).dirOut = s.rau.autoDir) ∨
      ((t.fan f).dueToStart ∧ (t.fan f).reqDir = s.rau.autoDir)) :
    ((grantStart f t).1.fan f).state = some .starting ∧ ((grantStart f t).1.fan f).dirOut = s.rau.autoDir := by
  rw [grantStart_fan]
  rcases h with ⟨hstarting, hdir⟩ | ⟨hdue, hdir⟩
  · rw [granted_moving (by rw [hstarting]; rfl)]
    exact ⟨hstarting, hdir⟩
  · rw [Fan.granted, if_pos hdue]
    exact ⟨rfl, hdir⟩

section Starts

variable {s t : State} {f : FanNo} {w : Work} {rest : List Work} (hs : s.inForceUrgently)
  (h : Standing s (w :: rest) t) (k : s.startsIn f (w :: rest) t)

include hs h k

theorem handFan_startsIn (havailable : s.available f = true) (hopen : 0 < s.rau.effective 3) (hw : w = .handFan f) : s.startsIn f ((perform w t).2 ++ rest) (perform w t).1 := by
  subst hw
  have hpos : 0 < (t.held f).eff := by
    have hformed : (s.held f).eff = s.rau.effective (s.held f).req := h.works _ (.head _)
    rw [h.held, hformed, hs.req, if_pos havailable]
    exact hopen
  have hdir : (t.held f).dir = s.rau.autoDir := by rw [h.held, hs.dir]
  rcases k with ⟨hstarting, hruns⟩ | ⟨hdue, -, hgrants⟩
  · left
    rcases handed_transition (.inl hstarting) hpos with ⟨hstate, hdirOut⟩ | ⟨-, hne⟩
    · exact ⟨hstate.trans hstarting, hdirOut.trans hruns⟩
    · rw [hdir, hruns] at hne
      exact absurd rfl hne
  · right
    have hregime : t.rau.regime ≠ .incident := by
      rw [(h.inForce hs).auto]
      decide
    refine ⟨handed_waits hregime hdue hpos, ?_, hgrants.imp (fun hm => ?_) fun hm => ?_⟩
    · rw [← hdir]
      exact (congrArg (·.2.2) (holds_iff.mp (handed_holds f t)) :)
    · exact List.mem_append_right _ ((List.mem_cons.mp hm).resolve_left nofun)
    · exact List.mem_append_right _ ((List.mem_cons.mp hm).resolve_left nofun)

/-- A hand-over that is no act of the fan's own leaves it, with its grant to come. -/
theorem elsewhere_startsIn (hne : w.actsOn ≠ some f) : s.startsIn f ((perform w t).2 ++ rest) (perform w t).1 := by
  have hfan : (perform w t).1.fan f = t.fan f := by
    cases hw : w.actsOn with
    | none => rw [State.fan, perform_fans hw, State.fan]
    | some g =>
      refine (perform_act hw t).others f fun hg => hne ?_
      rw [hw, hg]
  rw [State.startsIn, hfan]
  refine k.imp_right fun ⟨hdue, hdir, hgrants⟩ => ⟨hdue, hdir, ?_⟩
  by_cases hgrant : w = .grantDue
  · right
    have hmay : t.mayGrant = true := by simp [State.mayGrant, (h.inForce hs).auto, State.heldBack, (h.inForce hs).urgent]
    have hworks : (perform w t).2 = [.grant 0, .grant 1, .grant 2, .grant 3] := by
      rw [hgrant, perform, hmay]
      rfl
    rw [hworks]
    exact List.mem_append_left _ (mem_grants f)
  · refine hgrants.imp (fun hm => ?_) fun hm => ?_
    · exact List.mem_append_right _ ((List.mem_cons.mp hm).resolve_left fun hw => hgrant hw.symm)
    · exact List.mem_append_right _ ((List.mem_cons.mp hm).resolve_left fun hw => hne (by rw [← hw]; rfl))

theorem perform_startsIn (havailable : s.available f = true) (hopen : 0 < s.rau.effective 3) :
    s.startsIn f ((perform w t).2 ++ rest) (perform w t).1 := by
  by_cases hw : w.actsOn = some f
  · have hsettled := h.works w (.head _)
    cases w <;> simp only [Work.actsOn, reduceCtorEq, Option.some.injEq] at hw
    case startAttempt | handRegime => exact hsettled.elim
    case handFan => exact handFan_startsIn hs h k havailable hopen (by rw [hw])
    case grant =>
      subst hw
      exact .inl (grantStart_startsIn (k.imp_right fun ⟨hdue, hdir, _⟩ => ⟨hdue, hdir⟩))
  · exact elsewhere_startsIn hs h k hw

end Starts

/-- At the end of the hand-overs the record stands, and the starts that were due have been made. -/
theorem run_standing {s : State} (hs : s.inForceUrgently) {ws : List Work} (h : Standing s ws s) : Standing s [] (run ws s) :=
  run_induction (J := fun vs t => Standing s vs t) (fun _ _ hj => hj.tail) (fun _ _ _ hj => perform_standing hs hj) h

theorem run_startsIn {s : State} {f : FanNo} (hs : s.inForceUrgently) (havailable : s.available f = true)
    (hopen : 0 < s.rau.effective 3) {ws : List Work} (h : Standing s ws s) (hgrant : .grantDue ∈ ws) (hdue : (s.fan f).dueToStart)
    (hdir : (s.fan f).reqDir = s.rau.autoDir) : ((run ws s).fan f).state = some .starting := by
  have hend := run_induction (J := fun vs t => Standing s vs t ∧ s.startsIn f vs t)
    (fun _ _ ⟨hj, hk⟩ => ⟨hj.tail, startsIn_tail hk⟩)
    (fun _ _ _ ⟨hj, hk⟩ => ⟨perform_standing hs hj, perform_startsIn hs hj hk havailable hopen⟩)
    ⟨h, .inr ⟨hdue, hdir, .inl hgrant⟩⟩
  rcases hend.2 with ⟨hstarting, -⟩ | ⟨-, -, hnone⟩
  · exact hstarting
  · simp at hnone

/-! ### The urgent re-evaluation -/

/-- The record is in force, with the hand-overs that it leads to. -/
theorem reevaluate_urgent {s : State} (hauto : s.rau.regime = .auto) (hurgent : s.urgent = true) (hrise : s.rau.demand ≤ s.rau.sought)
    (hfull : 3 * (allFans.filter s.available).length ≤ s.rau.sought)
    (hapart : ∀ x ∈ s.cal.queue, (s.ch x.channel).cfg.participates = false) :
    (reevaluate s).1.inForceUrgently ∧ Standing (reevaluate s).1 (reevaluate s).2 (reevaluate s).1 ∧
      .grantDue ∈ (reevaluate s).2 := by
  have hfree : s.heldBack = false := by simp [State.heldBack, hurgent]
  have hnext : s.nextDemand = s.rau.sought := if_pos (.inl hrise)
  have hunqueued : ∀ c, (s.ch c).cfg.participates = true → s.cal.queued c = false := fun c hc => by
    rw [Cal.queued, List.any_eq_false]
    intro x hx heq
    rw [← beq_iff_eq.mp heq, hapart x hx] at hc
    exact nomatch hc
  have hstage := allocatedStage_full hfull
  have hsame : SameRanking s (s.inForce s.rau.sought) := ⟨rfl, rfl, rfl⟩
  rw [reevaluate_free hauto hfree, hnext]
  cases hchanges : s.allocationChanges s.rau.sought with
  | false =>
    refine ⟨⟨hauto, rfl, ?_, hfull, hurgent, fun f => ?_, fun f => ?_⟩, ⟨.refl _, ⟨_, rfl⟩, hunqueued, ?_⟩, by simp [afterAllocation]⟩
    · exact decide_eq_false (Nat.lt_irrefl _)
    · exact (held_of_unchanged hchanges f).1.trans (hstage f)
    · exact (held_of_unchanged hchanges f).2
    · intro w hw
      have hmem : w = .demandShort ∨ w = .grantDue := by simpa [afterAllocation] using hw
      rcases hmem with rfl | rfl <;> trivial
  | true =>
    refine ⟨⟨hauto, rfl, ?_, hfull, hurgent, fun f => ?_, fun f => ?_⟩, ⟨.refl _, ⟨_, rfl⟩, hunqueued, ?_⟩,
      by simp [applied, afterAllocation]⟩
    · exact decide_eq_false (Nat.lt_irrefl _)
    · exact (applyAllocation_req _ _ f).trans ((congrFun (congrFun hsame.allocatedStage _) f).trans (hstage f))
    · exact applyAllocation_dir _ _ f
    · intro w hw
      have hmem : w = .handFan 0 ∨ w = .handFan 1 ∨ w = .handFan 2 ∨ w = .handFan 3 ∨ w = .demandShort ∨ w = .grantDue := by
        simpa [applied, handAll, afterAllocation] using hw
      rcases hmem with rfl | rfl | rfl | rfl | rfl | rfl
      · exact applyAllocation_formed _ _ 0
      · exact applyAllocation_formed _ _ 1
      · exact applyAllocation_formed _ _ 2
      · exact applyAllocation_formed _ _ 3
      · trivial
      · trivial

end Sys2Proof.Machine

end

/-! PROOFS. SET DEMAND and the auto hold's expiry (R155–R158, R161–R166). -/

section

namespace Sys2Proof.Machine

/-! ### The table sent and the table taken (R155) -/

theorem consistentSteps_iff (steps : List DemandStep) :
    consistentSteps steps = true ↔ steps.IsChain fun x y => x.threshold < y.threshold ∧ x.thrust ≤ y.thrust := by
  match steps with
  | [] => simp [consistentSteps]
  | [_] => simp [consistentSteps]
  | a :: b :: rest => simp [consistentSteps, consistentSteps_iff (b :: rest), and_assoc]

theorem take_pairs {α : Type} (d : α) (l : List α) (n : Nat) (h : 2 * n ≤ l.length) :
    l.take (2 * n) = (List.range n).flatMap fun i => [l.getD (2 * i) d, l.getD (2 * i + 1) d] := by
  induction n with
  | zero => rfl
  | succ n ih =>
    have hfirst : l.getD (2 * n) d = l[2 * n] := List.getD_eq_getElem l d (by omega)
    have hsecond : l.getD (2 * n + 1) d = l[2 * n + 1] := List.getD_eq_getElem l d (by omega)
    rw [List.range_succ, List.flatMap_append, ← ih (by omega), List.flatMap_singleton, hfirst, hsecond,
      show 2 * (n + 1) = 2 * n + 1 + 1 by omega, List.take_succ_eq_append_getElem (by omega),
      List.take_succ_eq_append_getElem (by omega), List.append_assoc]
    rfl

theorem pairs_eq_iff {α : Type} (a b c d : Nat → α) (n : Nat) :
    ((List.range n).flatMap fun i => [a i, b i]) = ((List.range n).flatMap fun i => [c i, d i]) ↔
      ∀ i < n, a i = c i ∧ b i = d i := by
  induction n with
  | zero => simp
  | succ n ih =>
    rw [List.range_succ, List.flatMap_append, List.flatMap_append]
    constructor
    · intro h i hi
      obtain ⟨hfront, hlast⟩ := List.append_inj' h rfl
      rcases Nat.lt_succ_iff_lt_or_eq.mp hi with hlt | rfl
      · exact ih.mp hfront i hlt
      · simpa using hlast
    · intro h
      rw [ih.mpr fun i hi => h i (by omega)]
      simp [h n (by omega)]

theorem byte_clampNat_iff {lo hi : Nat} (hhi : hi < 256) (hlo : lo ≤ hi) (b : Byte) :
    byte (clampNat lo hi b.toNat) = b ↔ lo ≤ b.toNat ∧ b.toNat ≤ hi := by
  have hrange : clampNat lo hi b.toNat < 256 := by
    unfold clampNat
    split_ifs <;> omega
  constructor
  · intro h
    have hsame : clampNat lo hi b.toNat = b.toNat := by
      rw [← toNat_byte hrange, h]
    unfold clampNat at hsame
    split_ifs at hsame <;> omega
  · rintro ⟨hge, hle⟩
    rw [clampNat, if_neg (by omega), if_neg (by omega), byte_toNat]

/-- SET DEMAND is CLAMPED where a field that it reads lies outside its range. -/
theorem clampedDemand_iff {fields : List Byte} (hlength : fields.length = 14) :
    clampedDemand fields (takenSteps fields) = true ↔ 6 < u8 fields 0 ∨ 50 < u8 fields 13 ∨ ∃ i, i < min (u8 fields 0) 6 ∧
      (u8 fields (1 + 2 * i) = 0 ∨ 250 < u8 fields (1 + 2 * i) ∨ u8 fields (2 + 2 * i) = 0 ∨ 12 < u8 fields (2 + 2 * i)) := by
  have hcount : (takenSteps fields).length = min (u8 fields 0) 6 := by simp [takenSteps]
  have hsent : (fields.drop 1).take (2 * (takenSteps fields).length) = (List.range (min (u8 fields 0) 6)).flatMap fun i =>
      [fields.getD (1 + 2 * i) 0, fields.getD (2 + 2 * i) 0] := by
    rw [hcount, take_pairs 0 _ _ (by simp [hlength]; omega)]
    refine List.flatMap_congr fun i _ => ?_
    simp only [List.getD_eq_getElem?_getD, List.getElem?_drop]
    rw [show 1 + (2 * i + 1) = 2 + 2 * i by omega]
  have htaken : ((takenSteps fields).flatMap fun st => [byte st.threshold, byte st.thrust]) =
      (List.range (min (u8 fields 0) 6)).flatMap fun i =>
        [byte (clampNat 1 250 (u8 fields (1 + 2 * i))), byte (clampNat 1 12 (u8 fields (2 + 2 * i)))] := by
    rw [takenSteps, List.flatMap_map]
    rfl
  rw [clampedDemand, hsent, htaken]
  simp only [Bool.or_eq_true, decide_eq_true_eq, bne_iff_ne, ne_eq, pairs_eq_iff, or_assoc]
  refine or_congr_right (or_congr_right ?_)
  simp only [u8, byte_clampNat_iff (lo := 1) (hi := 250) (by decide) (by decide),
    byte_clampNat_iff (lo := 1) (hi := 12) (by decide) (by decide)]
  rw [not_forall]
  refine exists_congr fun i => ?_
  rw [Classical.not_imp]
  refine and_congr_right fun _ => ?_
  omega

end Sys2Proof.Machine

end

/-! PROOFS. SET DEMAND by the regime and the phase of the CAL, and O44 put together (R155–R166). -/

section

namespace Sys2Proof.Machine

/-! ### The request -/

theorem exec_setDemand {fields : List Byte} {s : State} (hready : s.ready) (hlength : fields.length = 14) :
    exec (.setDemand .addressed fields) s = .next (beginService 0x15 (serveSetDemand fields (contact s))) :=
  exec_served (i := .setDemand .addressed fields) (r := ⟨0x15, false, 14, .addressed, fields⟩) hready rfl rfl hlength

/-- What SET DEMAND leaves: the table replaced, and what the RAU makes of it. -/
def demandServed (steps : List DemandStep) (dh : Nat) (w : State) : State :=
  run (if w.rau.regime = .auto then [.reevaluate] else [.demandShort]) (replaceDemand steps dh w)

theorem serveSetDemand_accepted {fields : List Byte} {w : State} (h : consistentSteps (takenSteps fields) = true) :
    serveSetDemand fields w = answer (clampedDemand fields (takenSteps fields))
      (demandBytes (takenSteps fields) (min (u8 fields 13) 50)) (demandServed (takenSteps fields) (min (u8 fields 13) 50) w) :=
  if_pos h

theorem serveSetDemand_refused {fields : List Byte} {w : State} (h : ¬consistentSteps (takenSteps fields) = true) :
    serveSetDemand fields w = refuse .inconsistent w := if_neg h

section Served

variable {steps : List DemandStep} {dh : Nat} {w : State}

/-- The record with the new table, from which the step is selected. -/
abbrev Rau.withTable (k : Rau) (steps : List DemandStep) (dh : Nat) : Rau := { k with steps := steps, dh := dh }

theorem demandServed_handedOn (steps : List DemandStep) (dh : Nat) (w : State) :
    HandedOn (replaceDemand steps dh w) (demandServed steps dh w) := run_handedOn _ _

/-- The table and the settings that it stands with, and the blocks that no hand-over reaches. -/
theorem demandServed_apart (steps : List DemandStep) (dh : Nat) (w : State) :
    (demandServed steps dh w).rau.steps = steps ∧ (demandServed steps dh w).rau.dh = dh ∧
      (demandServed steps dh w).rau.regime = w.rau.regime ∧ (demandServed steps dh w).rau.floor = w.rau.floor ∧
      (∀ f : FanNo, ((demandServed steps dh w).fan f).fixed = (w.fan f).fixed) ∧
      (∀ c : ChanNo, ((demandServed steps dh w).ch c).fixed = (w.ch c).fixed) ∧ sameBut Part.reached w (demandServed steps dh w) := by
  have hhanded := demandServed_handedOn steps dh w
  exact ⟨hhanded.steps, hhanded.dh, hhanded.regime, hhanded.floor, hhanded.fan, hhanded.ch,
    ((replaceDemand_alters steps dh w).run (by decide) _).1⟩

theorem replaceDemand_demand (hauto : w.rau.regime = .auto) : (replaceDemand steps dh w).rau.demand = w.rau.demand := if_pos hauto

theorem replaceDemand_ranking : SameRanking w (replaceDemand steps dh w) := ⟨rfl, rfl, rfl⟩

/-- Outside AUTO D follows what is sought, and DEMAND SHORT alone is evaluated. -/
theorem demandServed_outside (hregime : w.rau.regime ≠ .auto) :
    (demandServed steps dh w).rau.step = selectedStep (w.rau.withTable steps dh) w.rau.imax 0 ∧
      (demandServed steps dh w).rau.sought = max ((demandServed steps dh w).rau.thrustOf (demandServed steps dh w).rau.step) w.rau.floor ∧
      (demandServed steps dh w).rau.demand = (demandServed steps dh w).rau.sought ∧
      ∀ f : FanNo, (demandServed steps dh w).held f = w.held f := by
  have hrun : demandServed steps dh w = evaluateShort (replaceDemand steps dh w) := by
    rw [demandServed, if_neg hregime, run_singleton, perform, run_nil]
  have hdemand : (replaceDemand steps dh w).rau.demand = (replaceDemand steps dh w).rau.sought := if_neg hregime
  rw [hrun, evaluateShort_record]
  refine ⟨rfl, rfl, hdemand, fun f => ?_⟩
  rw [State.held, evaluateShort_rauFans]
  rfl

section Auto

variable (hauto : w.rau.regime = .auto)

include hauto

theorem demandServed_auto : demandServed steps dh w = run [.reevaluate] (replaceDemand steps dh w) := by
  rw [demandServed, if_pos hauto]

theorem replaceDemand_nextDemand : (replaceDemand steps dh w).nextDemand =
    if w.rau.demand ≤ (replaceDemand steps dh w).rau.sought ∨ w.holdPassed = true then (replaceDemand steps dh w).rau.sought
    else w.rau.demand := by
  have hhold : (replaceDemand steps dh w).holdPassed = w.holdPassed := rfl
  rw [State.nextDemand, replaceDemand_demand hauto, hhold]

/-- With the CAL IDLE the re-evaluation is applied. -/
theorem demandServed_idle (hphase : w.cal.phase = .none) :
    Allocated (replaceDemand steps dh w).nextDemand (replaceDemand steps dh w) (demandServed steps dh w) := by
  obtain ⟨t, hrun, hallocated⟩ := run_reevaluate (s := replaceDemand steps dh w) hauto (.inl hphase) (rest := []) rfl
  rw [demandServed_auto hauto, hrun, run_nil]
  exact hallocated

theorem demandServed_deferred (hair : w.cal.phase.airOn = true) (hcalm : ¬(replaceDemand steps dh w).rau.stepUrgent) :
    demandServed steps dh w = evaluateShort (replaceDemand steps dh w).deferred := by
  have hheld : (replaceDemand steps dh w).heldBack = true := (heldBack_iff (s := replaceDemand steps dh w) hauto hair).mpr hcalm
  rw [demandServed_auto hauto, run_reevaluate_deferred (s := replaceDemand steps dh w) hauto hheld]

/-- An urgent step to the capacity or above: the record that it puts in force stands, and due starts are made. -/
theorem demandServed_urgent (hurgent : (replaceDemand steps dh w).rau.stepUrgent)
    (hrise : w.rau.demand ≤ (replaceDemand steps dh w).rau.sought)
    (hfull : 3 * (allFans.filter w.available).length ≤ (replaceDemand steps dh w).rau.sought)
    (hapart : ∀ x ∈ w.cal.queue, (w.ch x.channel).cfg.participates = false) :
    (demandServed steps dh w).rau.demand = (replaceDemand steps dh w).rau.sought ∧ (demandServed steps dh w).rau.fallWaiting = false ∧
      ∀ f : FanNo, ((demandServed steps dh w).held f).req = (if w.available f then 3 else 0) ∧
        ((demandServed steps dh w).held f).dir = w.rau.autoDir ∧
        ((w.fan f).dueToStart → (w.fan f).reqDir = w.rau.autoDir → w.rau.doorOpen = false ∨ 0 < w.rau.doorCap →
          ((demandServed steps dh w).fan f).state = some .starting) := by
  obtain ⟨hforce, hstanding, hgrant⟩ := reevaluate_urgent (s := replaceDemand steps dh w) hauto (urgent_iff.mpr hurgent)
    ((replaceDemand_demand hauto).trans_le hrise) hfull hapart
  have hhanded := reevaluate_handedOn (replaceDemand steps dh w)
  have halters := reevaluate_alters (replaceDemand steps dh w)
  have hrun : demandServed steps dh w = run (reevaluate (replaceDemand steps dh w)).2 (reevaluate (replaceDemand steps dh w)).1 := by
    rw [demandServed_auto hauto, run_singleton]
    rfl
  have hsought : (reevaluate (replaceDemand steps dh w)).1.rau.sought = (replaceDemand steps dh w).rau.sought := by
    simp only [reevaluate]
    split_ifs <;> rfl
  have hfan : ∀ f, (reevaluate (replaceDemand steps dh w)).1.fan f = w.fan f := fun f => by
    rw [State.fan, halters.1 .fans (by decide)]
    rfl
  have havailable : ∀ f, (reevaluate (replaceDemand steps dh w)).1.available f = w.available f := fun f => by
    rw [State.available, hfan, State.available]
  have hend := run_standing hforce hstanding
  have hdone := hend.inForce hforce
  obtain ⟨b, hrau⟩ := hend.rau
  rw [← hrun] at hend hdone hrau
  refine ⟨?_, hdone.noFall, fun f => ⟨?_, ?_, fun hdue hdir hcap => ?_⟩⟩
  · rw [hdone.demand, hrau]
    exact hsought
  · rw [hend.held, hforce.req, havailable]
  · rw [hend.held, hforce.dir, hhanded.autoDir]
    rfl
  · have hopen : 0 < (reevaluate (replaceDemand steps dh w)).1.rau.effective 3 := by
      rw [effective_auto hforce.auto, hhanded.doorOpen, hhanded.doorCap]
      change 0 < if w.rau.doorOpen = true then min 3 w.rau.doorCap else 3
      split
      · next hdoor => exact lt_min (by decide) (hcap.resolve_left (by simp [hdoor]))
      · decide
    have hfree : (reevaluate (replaceDemand steps dh w)).1.available f = true := by
      rw [havailable, State.available, hdue.1]
      rfl
    rw [hrun]
    refine run_startsIn hforce hfree hopen hstanding hgrant (by rw [hfan]; exact hdue) ?_
    rw [hfan, hdir, hhanded.autoDir]
    rfl

end Auto

end Served

/-! ### The statement -/

section Contact

variable (s : State)

theorem sameRanking_contact : SameRanking s (contact s) :=
  ⟨(contact_alters s).1 .fans (by decide), contact_tb s, by rw [contact_rau]⟩

theorem allocationChanges_contact : (contact s).allocationChanges = s.allocationChanges :=
  (sameRanking_contact s).allocationChanges (by rw [contact_rau])

theorem holdPassed_contact : (contact s).holdPassed = s.holdPassed := by
  unfold State.holdPassed State.stampPassed State.passed State.age
  rw [contact_rau, contact_tb]

theorem held_contact (f : FanNo) : (contact s).held f = s.held f := by rw [State.held, contact_rau, State.held]

theorem available_contact : (contact s).available = s.available := by
  funext f
  rw [State.available, contact_fan, State.available]

end Contact

theorem thrustOf_congr {r k : Rau} (h : r.steps = k.steps) : r.thrustOf = k.thrustOf := by
  funext n
  unfold Rau.thrustOf
  rw [h]

/-- SET DEMAND in AUTO with the CAL IDLE. -/
theorem demandServed_inForce {steps : List DemandStep} {dh : Nat} {w : State} (hauto : w.rau.regime = .auto)
    (hphase : w.cal.phase = .none) {D : Nat} (hD : D = if w.rau.demand ≤ (demandServed steps dh w).rau.sought ∨ w.holdPassed = true then
      (demandServed steps dh w).rau.sought else w.rau.demand) :
    (demandServed steps dh w).rau.demand = D ∧
      (demandServed steps dh w).rau.fallWaiting = decide ((demandServed steps dh w).rau.sought < D) ∧
      (demandServed steps dh w).rau.lastChange = (if w.allocationChanges D then some ⟨w.tb.uptime, false⟩ else w.rau.lastChange) ∧
      ∀ f : FanNo, ((demandServed steps dh w).held f).req = w.allocatedStage D f ∧
        ((demandServed steps dh w).held f).dir = w.rau.autoDir := by
  have hallocated := demandServed_idle (steps := steps) (dh := dh) hauto hphase
  have hsame := replaceDemand_ranking (steps := steps) (dh := dh) (w := w)
  rw [hallocated.sought, ← replaceDemand_nextDemand hauto] at hD
  subst hD
  refine ⟨hallocated.demand, by rw [hallocated.waiting, hallocated.sought], ?_, fun f => ⟨?_, hallocated.dir f⟩⟩
  · rw [hallocated.change, hsame.allocationChanges rfl]
    rfl
  · rw [hallocated.req, hsame.allocatedStage]

/-- SET DEMAND in AUTO that the deferral holds back. -/
theorem demandServed_heldBack {steps : List DemandStep} {dh : Nat} {w : State} (hauto : w.rau.regime = .auto)
    (hair : w.cal.phase.airOn = true) (hcalm : ¬(replaceDemand steps dh w).rau.stepUrgent) {sought : Nat}
    (hsought : (replaceDemand steps dh w).rau.sought = sought) :
    sameBut [.evq, .rau] w (demandServed steps dh w) ∧ (∀ f : FanNo, (demandServed steps dh w).held f = w.held f) ∧
      (demandServed steps dh w).rau.step = (replaceDemand steps dh w).rau.step ∧ (demandServed steps dh w).rau.sought = sought ∧
      (demandServed steps dh w).rau.lastChange = w.rau.lastChange ∧
      (w.rau.demand ≤ sought → (demandServed steps dh w).rau.demand = sought ∧ (demandServed steps dh w).rau.fallWaiting = false) ∧
      (sought < w.rau.demand → w.holdPassed = true → w.allocationChanges sought = false →
        (demandServed steps dh w).rau.demand = sought ∧ (demandServed steps dh w).rau.fallWaiting = false) ∧
      (sought < w.rau.demand → w.holdPassed = true → w.allocationChanges sought = true →
        (demandServed steps dh w).rau.demand = w.rau.demand ∧ (demandServed steps dh w).rau.fallWaiting = w.rau.fallWaiting) ∧
      (sought < w.rau.demand → w.holdPassed = false →
        (demandServed steps dh w).rau.demand = w.rau.demand ∧ (demandServed steps dh w).rau.fallWaiting = true) := by
  have hchanges : (replaceDemand steps dh w).allocationChanges = w.allocationChanges := replaceDemand_ranking.allocationChanges rfl
  have hdemand := replaceDemand_demand (steps := steps) (dh := dh) hauto
  obtain ⟨hparts, hheld, hstep, hkept, hchange, hforce, hwaiting⟩ := evaluateShort_deferred (replaceDemand steps dh w)
  subst hsought
  have hhold : (replaceDemand steps dh w).holdPassed = w.holdPassed := rfl
  rw [demandServed_deferred hauto hair hcalm, hforce, hwaiting, ← hdemand, ← hchanges, ← hhold]
  have hreplaced : sameBut [.evq, .rau] w (replaceDemand steps dh w) := (replaceDemand_alters_rau steps dh w).1
  exact ⟨hreplaced.trans hparts, hheld, hstep, hkept, hchange, deferred_rise, fun _ => deferred_applied,
    fun hfall hpassed hne => by rw [deferred_stands hfall hpassed hne]; exact ⟨rfl, rfl⟩, deferred_waits⟩

/-- Settles O44: SET DEMAND by the regime, the phase of the CAL and the urgency of the step; the hold's expiry with the CAL left
where it is, and under the deferral. -/
theorem demandSetAndHoldExpires : Obligations.DemandSetAndHoldExpires := by
  refine fun s => ⟨fun fields steps hready hlength hsteps => ?_, fun t0 hauto hwaiting hchange hpassed hfall hunmoved => ?_,
    fun t0 hauto hwaiting hchange hpassed hfall hair hcalm => ?_, exec_autoHoldExpiry_idle⟩
  · have htaken : takenSteps fields = steps := hsteps.symm
    rw [exec_setDemand hready hlength]
    refine ⟨fun hchain => ?_, fun hchain => ?_⟩
    · have hconsistent := (consistentSteps_iff _).mpr (htaken ▸ hchain)
      obtain ⟨htable, hdh, hregime, hfloor, hfans, hchannels, hparts⟩ := demandServed_apart steps (min (u8 fields 13) 50) (contact s)
      refine ⟨demandServed steps (min (u8 fields 13) 50) (contact s), clampedDemand fields (takenSteps fields), ?_,
        clampedDemand_iff hlength, htable, hdh, ?_, ?_, fun f => ?_, fun c => ?_, hparts, fun hquiet => ?_, fun houtside => ?_,
        fun hauto hphase D hD => ?_, ?_⟩
      · rw [serveSetDemand_accepted hconsistent, beginService_answer, htaken]
        rfl
      · rw [hregime, contact_rau]
      · rw [hfloor, contact_rau]
      · rw [hfans, contact_fan]
      · rw [hchannels, contact_ch]
      · rw [← contact_rau s] at hquiet ⊢
        by_cases hauto : (contact s).rau.regime = .auto
        · have hallocated := demandServed_idle (steps := steps) (dh := min (u8 fields 13) 50) hauto
            ((congrArg Cal.phase (contact_cal s)).trans (hquiet.resolve_left (fun h => h hauto)))
          refine ⟨hallocated.step, hallocated.sought.trans ?_⟩
          rw [hallocated.step, thrustOf_congr (k := (replaceDemand steps (min (u8 fields 13) 50) (contact s)).rau)
            htable]
          rfl
        · obtain ⟨hstep, hsought, -⟩ := demandServed_outside (steps := steps) (dh := min (u8 fields 13) 50) hauto
          exact ⟨hstep, hsought⟩
      · rw [← contact_rau s] at houtside
        obtain ⟨-, -, hdemand, hheld⟩ := demandServed_outside (steps := steps) (dh := min (u8 fields 13) 50) houtside
        exact ⟨hdemand, fun f => (hheld f).trans (held_contact s f)⟩
      · rw [← contact_rau s] at hauto hD ⊢
        rw [← holdPassed_contact] at hD
        rw [← allocationChanges_contact, ← (sameRanking_contact s).allocatedStage, ← contact_tb s]
        exact demandServed_inForce hauto ((congrArg Cal.phase (contact_cal s)).trans hphase) hD
      · rintro hauto hair k rfl sought rfl
        rw [← contact_rau s] at hauto ⊢
        rw [← allocationChanges_contact, ← holdPassed_contact, ← available_contact, ← contact_cal s]
        refine ⟨fun hcalm => ?_, fun hurgent hrise hfull hapart => ?_⟩
        · obtain ⟨hparts, hheld, hrest⟩ := demandServed_heldBack (steps := steps) (dh := min (u8 fields 13) 50) hauto
            ((congrArg (·.phase.airOn) (contact_cal s)).trans hair) hcalm rfl
          exact ⟨hparts, fun f => (hheld f).trans (held_contact s f), hrest⟩
        · obtain ⟨hdemand, hwaiting, hfans⟩ := demandServed_urgent (steps := steps) (dh := min (u8 fields 13) 50) hauto hurgent hrise
            hfull (fun x hx => by rw [contact_ch]; exact hapart x hx)
          refine ⟨hdemand, hwaiting, fun f => ?_⟩
          obtain ⟨hreq, hdir, hstarts⟩ := hfans f
          refine ⟨hreq, hdir, fun hstate hdue hholds hheld hcap => hstarts ?_ ?_ hcap⟩
          · rw [contact_fan]
            exact ⟨hstate, hdue⟩
          · rw [contact_fan, ← hheld]
            exact (congrArg (·.2.2) (holds_iff.mp hholds) :)
    · rw [serveSetDemand_refused (fun h => hchain (htaken ▸ (consistentSteps_iff _).mp h)), beginService_refuse]
  · obtain ⟨t, hrun, hallocated⟩ := autoHoldExpiry_applies hauto hwaiting hchange hpassed hunmoved
    refine ⟨t, hrun, hallocated.handedOn, hallocated.cal, hallocated.sought, hallocated.demand, ?_, ?_,
      fun f => ⟨hallocated.req f, hallocated.dir f⟩, fun hchanges f => ⟨?_, hallocated.holds hchanges f⟩⟩
    · rw [hallocated.waiting]
      exact decide_eq_false (Nat.lt_irrefl _)
    · rw [hallocated.change, hchange]
      rfl
    · exact hallocated.formed_auto hauto hchanges f
  · have hhold := holdPassed_of hchange hpassed
    obtain ⟨hparts, hheld, -, hsought, hkept, hdemand, hwaits⟩ := evaluateShort_deferred s
    refine ⟨_, autoHoldExpiry_deferred hauto hwaiting hchange hpassed hair hcalm, hparts, hheld, hsought, hkept.trans hchange, ?_⟩
    rw [hdemand, hwaits]
    cases hchanges : s.allocationChanges s.rau.sought with
    | true =>
      rw [deferred_stands hfall hhold hchanges]
      exact ⟨rfl, hwaiting⟩
    | false => exact deferred_applied hhold hchanges

end Sys2Proof.Machine

end

/-! PROOFS. An entry into a regime up to the fans (R146): the regime and its parameters stored, and handed to the CAL and the doors.
The entries into MANUAL and AUTO (R147, R148). -/

section

namespace Sys2Proof.Machine

/-! ### The regime stored and handed on -/

/-- The regime stored and handed to the CAL and the doors, the fans still to be set. -/
def regimeHanded (r : Regime) (params : Rau → Rau) (w : State) : State := handRegime w.rau.regime (storeRegime r params w)

theorem enterRegime_eq (r : Regime) (params : Rau → Rau) (w : State) : enterRegime r params w = setFans (regimeHanded r params w) := rfl

theorem clearQueue_cases (s : State) : clearQueue s = clearForIncident s ∨ ∃ c, clearQueue s = takeContribution c (clearForIncident s) := by
  unfold clearQueue
  split
  · exact .inl rfl
  · next e _ =>
    split
    · exact .inr ⟨e.channel, rfl⟩
    · exact .inl rfl

theorem clearSession_cases {s : State} {sp : SpanSession} (hspan : s.cal.span = some sp) :
    clearSession s = (endSession sp .spanAborted sp.entryG s).1 ∨
      ∃ c, clearSession s = takeContribution c (endSession sp .spanAborted sp.entryG s).1 := by
  unfold clearSession
  simp only [hspan]
  split
  · exact .inr ⟨sp.channel, rfl⟩
  · exact .inl rfl

theorem clearSession_none {s : State} (hspan : s.cal.span = none) : clearSession s = s := by
  unfold clearSession
  simp only [hspan]

/-- Two records of the RAU that agree on all but the demand and what it rests on. -/
abbrev SameRecord (k k' : Rau) : Prop := k'.fixed = k.fixed ∧ k'.fans = k.fans

theorem clearWork_record (s : State) : SameRecord s.rau (clearWork s).rau := by
  have htake : ∀ c u, SameRecord u.rau (takeContribution c u).rau := fun c u => ⟨(takeContribution_handedOn c u).rau, rfl⟩
  have hqueue : SameRecord s.rau (clearQueue s).rau := by
    have hclear : (clearForIncident s).rau = s.rau := (clearForIncident_alters s).1 .rau (by decide)
    rcases clearQueue_cases s with h | ⟨c, h⟩
    · rw [h, hclear]
      exact ⟨rfl, rfl⟩
    · rw [h, ← hclear]
      exact htake c _
  rw [clearWork_eq]
  cases hspan : (clearQueue s).cal.span with
  | none =>
    rw [clearSession_none hspan]
    exact hqueue
  | some sp =>
    have hended : (endSession sp .spanAborted sp.entryG (clearQueue s)).1.rau = (clearQueue s).rau :=
      (endSession_alters sp .spanAborted sp.entryG _).1 .rau (by decide)
    rcases clearSession_cases hspan with h | ⟨c, h⟩
    · rw [h, hended]
      exact hqueue
    · obtain ⟨hfixed, hfans⟩ := htake c (endSession sp .spanAborted sp.entryG (clearQueue s)).1
      rw [hended] at hfixed hfans
      rw [h]
      exact ⟨hfixed.trans hqueue.1, hfans.trans hqueue.2⟩

section Handed

variable (r : Regime) (params : Rau → Rau) (w : State)

theorem regimeHanded_fans : (regimeHanded r params w).fans = w.fans := by
  have hstored : (storeRegime r params w).fans = w.fans := (storeRegime_alters r params w).1 .fans (by decide)
  rw [← hstored]
  exact (handRegime_altersOwn w.rau.regime (storeRegime r params w)).1 .fans (by decide)

theorem regimeHanded_tb : (regimeHanded r params w).tb = w.tb := by
  have hstored : (storeRegime r params w).tb = w.tb := (storeRegime_alters r params w).1 .tb (by decide)
  rw [← hstored]
  exact (handRegime_altersOwn w.rau.regime (storeRegime r params w)).1 .tb (by decide)

/-- REGIME CHANGED is the first entry. -/
theorem regimeHanded_evq : Appended (w.evq.push ⟨w.tb.clock, .node, .regimeChanged, some r.code,
    if r = .incident then (params w.rau).role.map fun x => (x.code : Int) else none, false⟩) (regimeHanded r params w).evq :=
  (handRegime_altersOwn w.rau.regime (storeRegime r params w)).2.appended

theorem regimeDoors_or (before : Regime) (v : State) : handRegime before v = handedToCal v ∨
    handRegime before v = regimeDoors (handedToCal v) := by
  rw [handRegime_eq]
  split
  · exact .inl rfl
  · exact .inr rfl

theorem regimeDoors_lockMode (v : State) (k : DoorNo) : ((regimeDoors v).door k).lockMode = (v.door k).lockMode := by
  have hone : ∀ d u, ((regimeDoor d u).door k).lockMode = (u.door k).lockMode := fun d u => by
    rw [door_regimeDoor]
    split
    · next hk =>
      obtain ⟨-, -, hmode, -⟩ := followedDoor_outputs (u.modDoor d fun x => (x.carryDrive u.rau.regime).carrySign u.rau.regime)
        (((u.door d).carryDrive u.rau.regime).carrySign u.rau.regime)
      obtain ⟨-, -, -, hdrive, -⟩ := carryDrive_state (u.door d) u.rau.regime
      rw [hmode, hk]
      exact hdrive
    · rfl
  have hbuzzer : ∀ u : State, (updateBuzzer u).door k = u.door k := fun _ => rfl
  rw [regimeDoors, hbuzzer, hone, hone]

theorem regimeHanded_lockMode (k : DoorNo) : ((regimeHanded r params w).door k).lockMode = (w.door k).lockMode := by
  have hcal : (handedToCal (storeRegime r params w)).doors = w.doors := by
    have hstored : (storeRegime r params w).doors = w.doors := (storeRegime_alters r params w).1 .doors (by decide)
    rw [← hstored]
    unfold handedToCal
    split
    · exact (clearWork_altersOwn _).1 .doors (by decide)
    · rfl
  rcases regimeDoors_or w.rau.regime (storeRegime r params w) with h | h
  · rw [regimeHanded, h, State.door, hcal, State.door]
  · rw [regimeHanded, h, regimeDoors_lockMode, State.door, hcal, State.door]

/-- The record with which the fans are set: the regime, its parameters and the door open condition. -/
theorem regimeHanded_record : ∃ d : Bool,
    SameRecord { params w.rau with regime := r, doorOpen := d } (regimeHanded r params w).rau := by
  have hcal : SameRecord { params w.rau with regime := r } (handedToCal (storeRegime r params w)).rau := by
    unfold handedToCal
    split
    · obtain ⟨hfixed, hfans⟩ := clearWork_record
        { storeRegime r params w with rau := { (storeRegime r params w).rau with fallWaiting := false } }
      exact ⟨hfixed.trans rfl, hfans.trans rfl⟩
    · exact ⟨rfl, rfl⟩
  rcases regimeDoors_or w.rau.regime (storeRegime r params w) with h | h
  · refine ⟨(params w.rau).doorOpen, ?_⟩
    rw [regimeHanded, h]
    exact hcal
  · have hdoors : (regimeDoors (handedToCal (storeRegime r params w))).rau = _ := regimeDoors_doorRau _
    rw [regimeHanded, h]
    generalize (regimeDoors (handedToCal (storeRegime r params w))).rau = k at hdoors
    refine ⟨k.doorOpen, ?_, ?_⟩
    · rw [hdoors]
      exact (congrArg (fun x : Rau => { x with doorOpen := k.doorOpen }) hcal.1 :)
    · rw [hdoors]
      exact hcal.2

/-- Outside INCIDENT the fall-waiting mark and the door open condition are all that the regime's handing on touches. -/
theorem regimeHanded_rau (hr : r ≠ .incident) : ∃ d : Bool,
    (regimeHanded r params w).rau = { params w.rau with regime := r, fallWaiting := false, doorOpen := d } := by
  have hcal : handedToCal (storeRegime r params w) =
      { storeRegime r params w with rau := { (storeRegime r params w).rau with fallWaiting := false } } := if_neg hr
  rcases regimeDoors_or w.rau.regime (storeRegime r params w) with h | h
  · refine ⟨(params w.rau).doorOpen, ?_⟩
    rw [regimeHanded, h, hcal]
    rfl
  · have hdoors : (regimeDoors (handedToCal (storeRegime r params w))).rau = _ := regimeDoors_doorRau _
    rw [hcal] at hdoors
    rw [regimeHanded, h, hcal]
    exact ⟨_, hdoors⟩

theorem regimeHanded_cal (hr : r ≠ .incident) : (regimeHanded r params w).cal = w.cal := by
  have hcal : handedToCal (storeRegime r params w) =
      { storeRegime r params w with rau := { (storeRegime r params w).rau with fallWaiting := false } } := if_neg hr
  rcases regimeDoors_or w.rau.regime (storeRegime r params w) with h | h
  · rw [regimeHanded, h, hcal]
    rfl
  · have hdoors : (regimeDoors (handedToCal (storeRegime r params w))).cal = (handedToCal (storeRegime r params w)).cal :=
      (regimeDoors_alters _).1 .cal (by decide)
    rw [regimeHanded, h, hdoors, hcal]
    rfl

end Handed

/-! ### The fans set -/

theorem setFans_handedOn (v : State) : HandedOn v (setFans v) := by
  have hclosed : ∀ t, HandedOn t (evaluateShort (seekDemand t)) := fun t => (seekDemand_handedOn t).trans (evaluateShort_handedOn _)
  unfold setFans
  split
  · exact ((setRequests_handedOn _ v).trans (run_handedOn _ _)).trans (hclosed _)
  · exact enterAuto_handedOn v
  · exact ((setRequests_handedOn _ v).trans (run_handedOn _ _)).trans (hclosed _)

theorem evaluateShort_fans (s : State) : (evaluateShort s).fans = s.fans := (evaluateShort_alters s).1 .fans (by decide)

/-- DEMAND SHORT once evaluated is as the thrust delivered and sought give it (R164). -/
theorem evaluateShort_short (s : State) :
    (evaluateShort s).rau.short = true ↔ (evaluateShort s).delivered < (evaluateShort s).thrustSought := by
  have hfan : ∀ f, (evaluateShort s).fan f = s.fan f := fun f => by rw [State.fan, evaluateShort_fans, State.fan]
  have hheld : ∀ f, (evaluateShort s).held f = s.held f := fun f => by rw [State.held, evaluateShort_rauFans, State.held]
  have havailable : (evaluateShort s).available = s.available := by
    funext f
    rw [State.available, hfan, State.available]
  have hdelivered : (evaluateShort s).delivered = s.delivered := by simp only [State.delivered, havailable, hheld]
  have hsought : (evaluateShort s).thrustSought = s.thrustSought := by
    simp only [State.thrustSought, State.presentFans, hfan, hheld]
    rw [evaluateShort_record]
  rw [hdelivered, hsought, evaluateShort_record]
  exact decide_eq_true_iff

/-! ### MANUAL (R147) -/

theorem setFans_manual {v : State} (hmanual : v.rau.regime = .manual) :
    (∀ k, ((setFans v).held k).req = (v.held k).eff) ∧
      ((setFans v).rau.short = true ↔ (setFans v).delivered < (setFans v).thrustSought) := by
  have hset : setFans v = evaluateShort (seekDemand (enterManual v)) := by
    unfold setFans
    simp only [hmanual]
  have hregime : (setRequests (fun _ r => { r with req := r.eff }) v).rau.regime ≠ .auto := by
    change v.rau.regime ≠ .auto
    rw [hmanual]
    decide
  rw [hset]
  refine ⟨fun k => ?_, evaluateShort_short _⟩
  have hheld : (evaluateShort (seekDemand (enterManual v))).held k = (enterManual v).held k := by
    rw [State.held, evaluateShort_rauFans]
    rfl
  rw [hheld, enterManual, run_handing_held hregime rfl, setRequests_held]

/-! ### AUTO (R148) -/

/-- In AUTO every fan is held in the auto direction. -/
abbrev State.autoDirs (s : State) : Prop := s.rau.regime = .auto ∧ ∀ k, (s.held k).dir = s.rau.autoDir

theorem State.autoDirs.of_rauFans {s t : State} (h : s.autoDirs) (hhanded : HandedOn s t) (hfans : t.rau.fans = s.rau.fans) : t.autoDirs := by
  refine ⟨hhanded.regime.trans h.1, fun k => ?_⟩
  rw [hhanded.autoDir, ← h.2 k, State.held, hfans, State.held]

theorem perform_autoDirs (w : Work) {s : State} (h : s.autoDirs) : (perform w s).1.autoDirs := by
  have hhanded := perform_handedOn w s
  cases w with
  | startAttempt f | handFan f | handRegime f | grant f =>
    exact h.of_rauFans hhanded (congrArg Rau.fans (perform_rau s (.inl ⟨f, rfl⟩)))
  | fanMoved f a b => exact h.of_rauFans hhanded (congrArg Rau.fans (perform_rau s (.inr (.inl ⟨f, a, b, rfl⟩))))
  | nextHead | quietTest | availability | grantDue =>
    exact h.of_rauFans hhanded (congrArg Rau.fans (perform_rau s (.inr (.inr (by decide)))))
  | contribution c => exact h.of_rauFans hhanded rfl
  | calEnded c => exact h.of_rauFans hhanded (receiveCalEnd_rauFans c s)
  | demandShort => exact h.of_rauFans hhanded (evaluateShort_rauFans s)
  | giveRole f =>
    have hnone : perform (.giveRole f) s = (s, []) := if_neg fun e => by rw [h.1] at e; exact nomatch e.1
    rw [hnone]
    exact h
  | reform =>
    refine ⟨hhanded.regime.trans h.1, fun k => ?_⟩
    rw [hhanded.autoDir, ← h.2 k]
    exact (congrArg RauFan.dir (formEffective_held s k) :)
  | reevaluate =>
    have hperform : (perform .reevaluate s).1 = (reevaluate s).1 := rfl
    rw [hperform] at hhanded ⊢
    rcases reevaluate_cases s with hsame | ⟨d, v, heq, -, -⟩
    · exact h.of_rauFans hhanded hsame
    · rw [heq] at hhanded ⊢
      exact ⟨hhanded.regime.trans h.1, fun k => applyAllocation_dir d v k⟩

theorem run_autoDirs (ws : List Work) {s : State} (h : s.autoDirs) : (run ws s).autoDirs :=
  run_keeps State.autoDirs (fun w _ => perform_autoDirs w) ws s h

/-- The demand sought, in force in the record that enters AUTO. -/
abbrev autoDemand (v : State) : State := setDemandInForce (seekDemand v).rau.sought false (seekDemand v)

theorem autoRecord_held (v : State) (k : FanNo) :
    (autoRecord v).held k = (applyAllocation (seekDemand v).rau.sought (autoDemand v)).held k := rfl

section Auto

variable {v : State} (hauto : v.rau.regime = .auto)

include hauto

theorem setFans_auto : setFans v = run (handAll ++ [.demandShort]) (autoRecord v) := by
  rw [← enterAuto_eq]
  unfold setFans
  simp only [hauto]

theorem setFans_autoDirs : (setFans v).autoDirs := by
  rw [setFans_auto hauto]
  refine run_autoDirs _ ⟨(autoRecord_handedOn v).regime.trans hauto, fun k => ?_⟩
  rw [autoRecord_held, applyAllocation_dir]
  rfl

/-- With the CAL IDLE the allocation of what is sought is in force at once. -/
theorem setFans_auto_idle (hphase : v.cal.phase = .none) {D : Nat} (hD : max (v.rau.thrustOf v.rau.step) v.rau.floor = D) :
    (setFans v).rau.sought = D ∧ (setFans v).rau.demand = D ∧ (setFans v).rau.fallWaiting = false ∧
      (setFans v).rau.lastChange = some v.stampNow ∧
      (∀ k, ((setFans v).held k).req = v.allocatedStage D k ∧
        ((setFans v).held k).eff = if (setFans v).rau.doorOpen then min ((setFans v).held k).req (setFans v).rau.doorCap
          else ((setFans v).held k).req) ∧
      ((setFans v).rau.short = true ↔ (setFans v).delivered < (setFans v).thrustSought) := by
  subst hD
  obtain ⟨t, hrun, hhanded⟩ := run_handFans (s := autoRecord v) (.inl hphase) [0, 1, 2, 3] [.demandShort]
  have hset : setFans v = evaluateShort t := by
    have hshort : run [.demandShort] t = evaluateShort t := by
      rw [run_singleton, perform, run_nil]
    rw [setFans_auto hauto, ← hshort, ← hrun]
    rfl
  have hheld : ∀ k, (evaluateShort t).held k = (autoRecord v).held k := fun k => by
    rw [State.held, evaluateShort_rauFans, hhanded.rau, State.held]
  have hrank : SameRanking v (autoDemand v) := ⟨rfl, rfl, rfl⟩
  have hreq : ∀ k, ((autoRecord v).held k).req = v.allocatedStage (max (v.rau.thrustOf v.rau.step) v.rau.floor) k := fun k => by
    rw [autoRecord_held, applyAllocation_req, hrank.allocatedStage]
    rfl
  have heff : ∀ k, ((autoRecord v).held k).eff = v.rau.effective ((autoRecord v).held k).req := fun k => by
    rw [autoRecord_held, applyAllocation_formed]
    rfl
  have hdoor := (setFans_handedOn v).doorOpen
  have hcap := (setFans_handedOn v).doorCap
  rw [hset] at hdoor hcap ⊢
  refine ⟨?_, ?_, ?_, ?_, fun k => ⟨?_, ?_⟩, evaluateShort_short t⟩
  · rw [evaluateShort_record, hhanded.rau]; rfl
  · rw [evaluateShort_record, hhanded.rau]; rfl
  · rw [evaluateShort_record, hhanded.rau]; rfl
  · rw [evaluateShort_record, hhanded.rau]; rfl
  · rw [hheld, hreq]
  · rw [hheld, heff, effective_auto hauto, hdoor, hcap]

end Auto

end Sys2Proof.Machine

end

/-! PROOFS. The entry into INCIDENT (R92, R104, R149): the calibration work cleared, and every fan given the role. -/

section

namespace Sys2Proof.Machine

/-! ### The queue emptied (R92) -/

theorem clearQueue_leaves (s : State) : (clearQueue s).cal = (clearForIncident s).cal ∧
    (clearQueue s).channels = (clearForIncident s).channels ∧ (clearQueue s).evq = (clearForIncident s).evq ∧
    (clearQueue s).tb = s.tb := by
  have htb : (clearForIncident s).tb = s.tb := (clearForIncident_alters s).1 .tb (by decide)
  rcases clearQueue_cases s with h | ⟨c, h⟩
  · rw [h]
    exact ⟨rfl, rfl, rfl, htb⟩
  · rw [h]
    exact ⟨rfl, rfl, rfl, htb⟩

theorem clearForIncident_none {s : State} (hqueue : s.cal.queue = []) : clearForIncident s = s := by
  unfold clearForIncident
  simp only [Cal.head, hqueue, List.head?_nil]

theorem clearForIncident_head {s : State} {e : CalEntry} {rest : List CalEntry} (hqueue : s.cal.queue = e :: rest) :
    clearForIncident s = { (if s.cal.phase.airOn then closeCalibration e.channel (abortEntry e.channel .incident false s)
        else abortEntry e.channel .incident false s) with
      cal := { (if s.cal.phase.airOn then closeCalibration e.channel (abortEntry e.channel .incident false s)
        else abortEntry e.channel .incident false s).cal with queue := [], phase := .none } } := by
  unfold clearForIncident
  simp only [Cal.head, hqueue, List.head?_cons]

/-- CAL ABORTED, cause INCIDENT, is the entry of an emptied queue. -/
theorem clearForIncident_evq (s : State) : (clearForIncident s).evq = match s.cal.queue with
    | [] => s.evq
    | x :: _ => s.evq.push ⟨s.tb.clock, .cal x.channel, .calAborted, some 4, some 0, false⟩ := by
  cases hqueue : s.cal.queue with
  | nil => rw [clearForIncident_none hqueue]
  | cons e rest =>
    rw [clearForIncident_head hqueue]
    cases s.cal.phase.airOn <;> rfl

theorem clearForIncident_span (s : State) : (clearForIncident s).cal.span = s.cal.span := by
  cases hqueue : s.cal.queue with
  | nil => rw [clearForIncident_none hqueue]
  | cons e rest =>
    rw [clearForIncident_head hqueue]
    cases s.cal.phase.airOn <;> rfl

theorem clearForIncident_cfg (s : State) (c : ChanNo) : ((clearForIncident s).ch c).cfg = (s.ch c).cfg := by
  cases hqueue : s.cal.queue with
  | nil => rw [clearForIncident_none hqueue]
  | cons e rest =>
    rw [clearForIncident_head hqueue]
    cases s.cal.phase.airOn with
    | false => rfl
    | true =>
      change ((closeCalibration e.channel (abortEntry e.channel .incident false s)).ch c).cfg = _
      rw [closeCalibration_ch]
      split <;> rfl

/-- A head in PURGING or ACCUMULATING is closed. -/
theorem clearForIncident_closes {s : State} {e : CalEntry} {rest : List CalEntry} (hqueue : s.cal.queue = e :: rest)
    (hair : s.cal.phase.airOn = true) : (clearForIncident s).cal.valve = false ∧
      ((clearForIncident s).ch e.channel).flags.calibrating = false ∧ ((clearForIncident s).ch e.channel).filterInit = false := by
  have hch : (clearForIncident s).ch e.channel = { (s.ch e.channel).setCalibrating false with filterInit := false } := by
    rw [clearForIncident_head hqueue, hair]
    change (closeCalibration e.channel (abortEntry e.channel .incident false s)).ch e.channel = _
    rw [closeCalibration_ch, if_pos rfl]
    rfl
  rw [hch]
  refine ⟨?_, rfl, rfl⟩
  rw [clearForIncident_head hqueue, hair]
  rfl

theorem clearForIncident_idle {s : State} (hempty : s.cal.phase = .none ↔ s.cal.queue = []) : (clearForIncident s).cal.phase = .none := by
  rw [clearForIncident_phase]
  split
  · rfl
  · next hhead =>
    refine hempty.mpr ?_
    simpa [Cal.head] using hhead

/-! ### The session ended (R104) -/

/-- What the end of the session leaves, whether or not its channel participates. -/
theorem clearSession_leaves {s : State} {sp : SpanSession} (hspan : s.cal.span = some sp) :
    (clearSession s).cal = { s.cal with span := none } ∧
      (∀ c, (clearSession s).ch c = (endSession sp .spanAborted sp.entryG s).1.ch c) ∧
      (clearSession s).evq = s.evq.push ⟨s.tb.clock, .cal sp.channel, .spanAborted, none, some (sp.entryG : Int), false⟩ := by
  rcases clearSession_cases hspan with h | ⟨c, h⟩
  · rw [h]
    exact ⟨rfl, fun _ => rfl, rfl⟩
  · rw [h]
    exact ⟨rfl, fun _ => rfl, rfl⟩

/-- The calibrating flags and the filters stand under the end of the session. -/
theorem clearSession_marks (s : State) (c : ChanNo) : ((clearSession s).ch c).flags.calibrating = (s.ch c).flags.calibrating ∧
    ((clearSession s).ch c).filterInit = (s.ch c).filterInit ∧ (clearSession s).cal.phase = s.cal.phase ∧
    (clearSession s).cal.valve = s.cal.valve := by
  cases hspan : s.cal.span with
  | none =>
    rw [clearSession_none hspan]
    exact ⟨rfl, rfl, rfl, rfl⟩
  | some sp =>
    obtain ⟨hcal, hch, -⟩ := clearSession_leaves hspan
    rw [hcal, hch, endSession_ch]
    split <;> exact ⟨rfl, rfl, rfl, rfl⟩

/-! ### Both, with their entries -/

section Cleared

variable (s : State)

theorem clearWork_evq : (clearWork s).evq = match s.cal.span with
    | none => (clearForIncident s).evq
    | some sp => (clearForIncident s).evq.push ⟨s.tb.clock, .cal sp.channel, .spanAborted, none, some (sp.entryG : Int), false⟩ := by
  obtain ⟨hcal, -, hevq, htb⟩ := clearQueue_leaves s
  have hsame : (clearQueue s).cal.span = s.cal.span := by rw [hcal, clearForIncident_span]
  rw [clearWork_eq]
  cases hspan : s.cal.span with
  | none => rw [clearSession_none (hsame.trans hspan), hevq]
  | some sp =>
    obtain ⟨-, -, hentry⟩ := clearSession_leaves (hsame.trans hspan)
    rw [hentry, hevq, htb]

theorem clearWork_session {sp : SpanSession} (hspan : s.cal.span = some sp) :
    ((clearWork s).ch sp.channel).cfg = { (s.ch sp.channel).cfg with span := sp.entryG } ∧
      ((clearWork s).ch sp.channel).flags.trim = false ∧ ((clearWork s).ch sp.channel).flags.unsettled = false := by
  obtain ⟨hcal, hchannels, -, -⟩ := clearQueue_leaves s
  have hsame : (clearQueue s).cal.span = some sp := by rw [hcal, clearForIncident_span, hspan]
  have hcfg : ((clearQueue s).ch sp.channel).cfg = (s.ch sp.channel).cfg := by
    rw [State.ch, hchannels, ← State.ch, clearForIncident_cfg]
  obtain ⟨-, hch, -⟩ := clearSession_leaves hsame
  rw [clearWork_eq, hch, endSession_ch, if_pos rfl, ← hcfg]
  exact ⟨rfl, rfl, rfl⟩

theorem clearWork_closes {e : CalEntry} {rest : List CalEntry} (hqueue : s.cal.queue = e :: rest) (hair : s.cal.phase.airOn = true) :
    (clearWork s).cal.valve = false ∧ ((clearWork s).ch e.channel).flags.calibrating = false ∧
      ((clearWork s).ch e.channel).filterInit = false := by
  obtain ⟨hcal, hchannels, -, -⟩ := clearQueue_leaves s
  obtain ⟨hvalve, hmark, hfilter⟩ := clearForIncident_closes hqueue hair
  obtain ⟨hmark', hfilter', -, hvalve'⟩ := clearSession_marks (clearQueue s) e.channel
  have hch : (clearQueue s).ch e.channel = (clearForIncident s).ch e.channel := by rw [State.ch, hchannels, State.ch]
  rw [hch] at hmark' hfilter'
  rw [clearWork_eq]
  exact ⟨hvalve'.trans ((congrArg Cal.valve hcal).trans hvalve), hmark'.trans hmark, hfilter'.trans hfilter⟩

theorem clearWork_idle (hempty : s.cal.phase = .none ↔ s.cal.queue = []) : (clearWork s).cal.phase = .none := by
  obtain ⟨hcal, -⟩ := clearQueue_leaves s
  obtain ⟨-, -, hphase, -⟩ := clearSession_marks (clearQueue s) 0
  rw [clearWork_eq, hphase, hcal]
  exact clearForIncident_idle hempty

end Cleared

/-- The state in which the CAL is handed INCIDENT. -/
abbrev incidentStored (params : Rau → Rau) (w : State) : State :=
  { storeRegime .incident params w with rau := { (storeRegime .incident params w).rau with fallWaiting := false } }

/-- What the regime's handing on leaves of the CAL, the channels and the entries. -/
theorem regimeHanded_incident (params : Rau → Rau) (w : State) :
    (regimeHanded .incident params w).cal = (clearWork (incidentStored params w)).cal ∧
      (regimeHanded .incident params w).channels = (clearWork (incidentStored params w)).channels ∧
      Appended (clearWork (incidentStored params w)).evq (regimeHanded .incident params w).evq := by
  have hcal : handedToCal (storeRegime .incident params w) = clearWork (incidentStored params w) := if_pos rfl
  rcases regimeDoors_or w.rau.regime (storeRegime .incident params w) with h | h
  · rw [regimeHanded, h, hcal]
    exact ⟨rfl, rfl, .refl _⟩
  · have halters := regimeDoors_alters (clearWork (incidentStored params w))
    rw [regimeHanded, h, hcal]
    exact ⟨halters.1 .cal (by decide), halters.1 .channels (by decide), halters.2.appended⟩

/-! ### Hand-overs with an empty calibration queue -/

theorem CalMove.ofEmpty {s t : State} (h : CalMove s t) (hqueue : s.cal.queue = []) :
    t.cal = s.cal ∧ ∀ c, (t.ch c).flags = (s.ch c).flags ∧ (t.ch c).filterInit = (s.ch c).filterInit := by
  cases h with
  | kept hcal hmarks => exact ⟨hcal, hmarks⟩
  | waits hne | purges hne => exact absurd hqueue hne
  | lost e rest hcons =>
    rw [hqueue] at hcons
    exact nomatch hcons

theorem run_empty (ws : List Work) {s : State} (hqueue : s.cal.queue = []) :
    (run ws s).cal = s.cal ∧ ∀ c, ((run ws s).ch c).flags = (s.ch c).flags ∧ ((run ws s).ch c).filterInit = (s.ch c).filterInit := by
  refine run_keeps (fun t => t.cal = s.cal ∧ ∀ c, (t.ch c).flags = (s.ch c).flags ∧ (t.ch c).filterInit = (s.ch c).filterInit)
    (fun w t ht => ?_) ws s ⟨rfl, fun _ => ⟨rfl, rfl⟩⟩
  obtain ⟨hcal, hmarks⟩ := ht
  obtain ⟨hcal', hmarks'⟩ := (perform_calMove w t).ofEmpty (by rw [hcal]; exact hqueue)
  exact ⟨hcal'.trans hcal, fun c => ⟨(hmarks' c).1.trans (hmarks c).1, (hmarks' c).2.trans (hmarks c).2⟩⟩

theorem quietTest_empty {s : State} (hqueue : s.cal.queue = []) : quietTest s = (s, []) := by
  unfold quietTest
  simp only [Cal.head, hqueue, List.head?_nil]

theorem quietLost_empty {s : State} (hqueue : s.cal.queue = []) : quietLost s = (s, []) := by
  unfold quietLost
  simp only [Cal.head, hqueue, List.head?_nil]

/-- A change inside the operating states loads at most the countdowns where no channel is queued. -/
theorem run_fanMoved_empty {a b : Option FanState} (hfixed : fixedState b = fixedState a) {s : State} (hqueue : s.cal.queue = [])
    (f : FanNo) (rest : List Work) :
    run (.fanMoved f a b :: rest) s = run rest (if loadsCountdown a b then loadCountdowns s else s) := by
  have hloaded : (if loadsCountdown a b then loadCountdowns s else s).cal.queue = [] := by rw [loadedIf_cal]; exact hqueue
  have hmoved : perform (.fanMoved f a b) s = fanMoved a b s := rfl
  rw [run_cons (postponed_of_ne (by simp) rest), hmoved]
  simp only [fanMoved, rauHears_fixed hfixed, List.append_nil]
  generalize (if loadsCountdown a b then loadCountdowns s else s) = u at hloaded
  unfold calHears
  split
  · rw [quietLost_empty hloaded]
    rfl
  · dsimp only
    split
    · rw [List.cons_append, List.nil_append, run_cons (postponed_of_ne (by decide) rest), perform, quietTest_empty hloaded]
      rfl
    · rfl

theorem run_act_empty {w : Work} {f : FanNo} (hw : w.actsOn = some f) {s : State} (hqueue : s.cal.queue = []) (rest : List Work) :
    ∃ b : Bool, run (w :: rest) s = run rest (if b then loadCountdowns (perform w s).1 else (perform w s).1) := by
  have hact := perform_act hw s
  have hfixed := state_of_fixed ((perform_handedOn w s).fan f)
  rw [run_cons (postponed_of_ne (by rintro rfl; exact nomatch hw) rest)]
  rcases hact.works with ⟨hnone, -⟩ | hmoved
  · exact ⟨false, by rw [hnone]; rfl⟩
  · exact ⟨_, by rw [hmoved]; exact run_fanMoved_empty hfixed (by rw [hact.cal]; exact hqueue) f rest⟩

end Sys2Proof.Machine

end

/-! PROOFS. The fans as they take the incident's role (R149): a fan that waits on its budget starts, or stops (R138, R140). -/

section

namespace Sys2Proof.Machine

/-! ### One fan -/

/-- From the one event queue to the other this entry has been made, among others. -/
def Entered (ev : Event) (q r : EventQueue) : Prop := ∃ es : List Event, r = es.foldl EventQueue.push q ∧ ev ∈ es

theorem Entered.push (ev : Event) (q : EventQueue) : Entered ev q (q.push ev) := ⟨[ev], rfl, List.mem_singleton_self ev⟩

theorem Entered.after {ev : Event} {q r u : EventQueue} (h : Appended q r) (k : Entered ev r u) : Entered ev q u := by
  obtain ⟨es, rfl⟩ := h
  obtain ⟨fs, rfl, hmem⟩ := k
  exact ⟨es ++ fs, List.foldl_append.symm, List.mem_append_right _ hmem⟩

theorem Entered.before {ev : Event} {q r u : EventQueue} (h : Entered ev q r) (k : Appended r u) : Entered ev q u := by
  obtain ⟨es, rfl, hmem⟩ := h
  obtain ⟨fs, rfl⟩ := k
  exact ⟨es ++ fs, List.foldl_append.symm, List.mem_append_left _ hmem⟩

section One

variable {f : FanNo} {s : State} (hwaits : (s.fan f).state = some .waitingBudget)

include hwaits

/-- INCIDENT starts a fan that waits on its budget. -/
theorem receiveHandover_starts (hincident : s.rau.regime = .incident) (hpos : 0 < (s.held f).eff) :
    (receiveHandover f s).1.fan f = { (s.fan f).store (s.held f) with history := s.windowStamps f }.toStarting s.tb.uptime := by
  have hfan := State.fan_modFan_same s f (·.store (s.held f))
  have hstate : ((s.modFan f (·.store (s.held f))).fan f).state = some .waitingBudget := by rw [hfan]; exact hwaits
  have hstage : ((s.modFan f (·.store (s.held f))).fan f).effStage ≠ 0 := by rw [hfan]; exact hpos.ne'
  have hregime : (s.modFan f (·.store (s.held f))).rau.regime = .incident := hincident
  have hattempts : receiveHandover f s = budgetAttempt f (s.modFan f (·.store (s.held f))) := by
    rw [receiveHandover]
    simp only [followHandover, hstate, if_neg hstage, if_pos hregime]
  rw [hattempts, budgetAttempt_permitted (.inl hregime), windowStamps_modFan (g := (·.store (s.held f))) rfl rfl, hfan]
  rfl

theorem receiveHandover_stops (hzero : (s.held f).eff = 0) :
    (receiveHandover f s).1.fan f = ((s.fan f).store (s.held f)).toStopped ∧
      (receiveHandover f s).1.evq = s.evq.push ⟨s.tb.clock, .fan f, .fanStop, none, none, false⟩ := by
  have hfan := State.fan_modFan_same s f (·.store (s.held f))
  have hstops : receiveHandover f s = stopFan f (s.modFan f (·.store (s.held f))) :=
    followHandover_stops (s := s.modFan f (·.store (s.held f))) (.inl (by rw [hfan]; exact hwaits)) (by rw [hfan]; exact hzero) _
  rw [hstops, stopFan_fan, hfan]
  exact ⟨rfl, rfl⟩

end One

/-! ### Every fan -/

/-- The fans of the list have been handed the regime and what the RAU holds for them. -/
structure RoleTaken (fs : List FanNo) (s t : State) : Prop where
  cal : t.cal = s.cal
  rau : t.rau = s.rau
  handedOn : HandedOn s t
  others : ∀ k, k ∉ fs → t.fan k = s.fan k
  starts : ∀ k ∈ fs, (s.fan k).state = some .waitingBudget → 0 < (s.held k).eff →
    t.fan k = { (s.fan k).store (s.held k) with history := s.windowStamps k }.toStarting s.tb.uptime
  stops : ∀ k ∈ fs, (s.fan k).state = some .waitingBudget → (s.held k).eff = 0 →
    t.fan k = ((s.fan k).store (s.held k)).toStopped ∧
      Entered ⟨s.tb.clock, .fan k, .fanStop, none, none, false⟩ s.evq t.evq

namespace RoleTaken

variable {s t u : State}

theorem nil (s : State) : RoleTaken [] s s := ⟨rfl, rfl, .refl s, fun _ _ => rfl, nofun, nofun⟩

theorem held {fs : List FanNo} (h : RoleTaken fs s t) (k : FanNo) : t.held k = s.held k := by rw [State.held, h.rau, State.held]

theorem cons {f : FanNo} {fs : List FanNo} (hf : f ∉ fs) (h : RoleTaken [f] s t) (k : RoleTaken fs t u) : RoleTaken (f :: fs) s u where
  cal := k.cal.trans h.cal
  rau := k.rau.trans h.rau
  handedOn := h.handedOn.trans k.handedOn
  others g hg := by
    rw [List.mem_cons, not_or] at hg
    rw [k.others g hg.2, h.others g (by simpa using hg.1)]
  starts g hg hwaits hpos := by
    by_cases hgf : g = f
    · rw [hgf] at hwaits hpos ⊢
      rw [k.others f hf]
      exact h.starts f (.head _) hwaits hpos
    · have hfan := h.others g (by simpa using hgf)
      rw [k.starts g ((List.mem_cons.mp hg).resolve_left hgf) (by rw [hfan]; exact hwaits) (by rw [h.held]; exact hpos), hfan, h.held,
        windowStamps_congr h.handedOn.tb (by rw [hfan]) (by rw [hfan]), h.handedOn.tb]
  stops g hg hwaits hzero := by
    by_cases hgf : g = f
    · rw [hgf] at hwaits hzero ⊢
      rw [k.others f hf]
      obtain ⟨hstops, hentry⟩ := h.stops f (.head _) hwaits hzero
      exact ⟨hstops, hentry.before k.handedOn.2⟩
    · have hfan := h.others g (by simpa using hgf)
      obtain ⟨hstops, hentry⟩ := k.stops g ((List.mem_cons.mp hg).resolve_left hgf) (by rw [hfan]; exact hwaits)
        (by rw [h.held]; exact hzero)
      rw [hfan, h.held] at hstops
      rw [h.handedOn.tb] at hentry
      exact ⟨hstops, hentry.after h.handedOn.2⟩

end RoleTaken

theorem roleTaken_one (f : FanNo) {s : State} (hincident : s.rau.regime = .incident) (b : Bool) :
    RoleTaken [f] s (if b then loadCountdowns (receiveHandover f s).1 else (receiveHandover f s).1) := by
  have hact := receiveHandover_act f s
  have hfan : ∀ g, (if b then loadCountdowns (receiveHandover f s).1 else (receiveHandover f s).1).fan g =
      (receiveHandover f s).1.fan g := fun g => by
    rw [State.fan, loadedIf_fans, State.fan]
  have hevq : (if b then loadCountdowns (receiveHandover f s).1 else (receiveHandover f s).1).evq = (receiveHandover f s).1.evq := by
    cases b <;> rfl
  refine ⟨(loadedIf_cal b _).trans hact.cal, ?_, (receiveHandover_handedOn f s).trans (loadedIf_handedOn b _), fun g hg => ?_,
    fun g hg hwaits hpos => ?_, fun g hg hwaits hzero => ?_⟩
  · rw [← hact.rau]
    cases b <;> rfl
  · rw [hfan, hact.others g (by simpa using hg)]
  · rw [hfan]
    rw [List.mem_singleton] at hg
    subst hg
    exact receiveHandover_starts hwaits hincident hpos
  · rw [hfan, hevq]
    rw [List.mem_singleton] at hg
    subst hg
    obtain ⟨hstops, hentry⟩ := receiveHandover_stops hwaits hzero
    rw [hentry]
    exact ⟨hstops, .push _ _⟩

theorem run_handRegimes {s : State} (hincident : s.rau.regime = .incident) (hqueue : s.cal.queue = []) {fs : List FanNo}
    (hnodup : fs.Nodup) : RoleTaken fs s (run (fs.map Work.handRegime) s) := by
  induction fs generalizing s with
  | nil =>
    rw [List.map_nil, run_nil]
    exact .nil s
  | cons f fs ih =>
    obtain ⟨hf, hrest⟩ := List.nodup_cons.mp hnodup
    obtain ⟨b, hrun⟩ := run_act_empty (w := .handRegime f) rfl hqueue (fs.map Work.handRegime)
    have hone := roleTaken_one f hincident b
    rw [List.map_cons, hrun]
    exact hone.cons hf (ih (by rw [hone.rau]; exact hincident) (by rw [hone.cal]; exact hqueue) hrest)

/-! ### The entry into INCIDENT -/

/-- The requests that the role gives, with the stages formed. -/
def roleRequests (v : State) : State := setRequests (fun f r => v.rau.roleRequest (v.fan f).state.isSome r) v

section Incident

variable {v : State} (hincident : v.rau.regime = .incident) (hqueue : v.cal.queue = [])

include hincident

theorem setFans_incident : setFans v = evaluateShort (seekDemand (run handRegimeAll (roleRequests v))) := by
  unfold setFans
  simp only [hincident]
  rfl

theorem setFans_incident_fan (k : FanNo) : (setFans v).fan k = (run handRegimeAll (roleRequests v)).fan k := by
  rw [setFans_incident hincident, State.fan, evaluateShort_fans]
  rfl

theorem setFans_incident_held (k : FanNo) : (setFans v).held k = (roleRequests v).held k := by
  have hregime : (roleRequests v).rau.regime ≠ .auto := by
    change v.rau.regime ≠ .auto
    rw [hincident]
    decide
  have hclosed : (setFans v).held k = (run handRegimeAll (roleRequests v)).held k := by
    rw [setFans_incident hincident, State.held, evaluateShort_rauFans]
    rfl
  rw [hclosed, run_handing_held hregime rfl]

theorem setFans_incident_short : (setFans v).rau.short = true ↔ (setFans v).delivered < (setFans v).thrustSought := by
  rw [setFans_incident hincident]
  exact evaluateShort_short _

include hqueue

/-- The calibration work that the entry has cleared stays so. -/
theorem setFans_incident_work : (setFans v).cal = v.cal ∧
    ∀ c, ((setFans v).ch c).flags = (v.ch c).flags ∧ ((setFans v).ch c).filterInit = (v.ch c).filterInit ∧
      ((setFans v).ch c).cfg = (v.ch c).cfg := by
  obtain ⟨hcal, hmarks⟩ := run_empty handRegimeAll (s := roleRequests v) hqueue
  have halters := evaluateShort_alters (seekDemand (run handRegimeAll (roleRequests v)))
  have hch : ∀ c, (setFans v).ch c = (run handRegimeAll (roleRequests v)).ch c := fun c => by
    rw [setFans_incident hincident, State.ch, halters.1 .channels (by decide)]
    rfl
  refine ⟨?_, fun c => ⟨?_, ?_, (congrArg Channel.cfg ((setFans_handedOn v).ch c) :)⟩⟩
  · rw [setFans_incident hincident, halters.1 .cal (by decide)]
    exact hcal
  · rw [hch]
    exact (hmarks c).1
  · rw [hch]
    exact (hmarks c).2

theorem setFans_incident_taken : RoleTaken allFans (roleRequests v) (run handRegimeAll (roleRequests v)) :=
  run_handRegimes (s := roleRequests v) hincident hqueue allFans_nodup

/-- A fan that waits on its budget starts in the role's direction, whatever its budget. -/
theorem setFans_incident_starts {k : FanNo} (hwaits : (v.fan k).state = some .waitingBudget) (hpos : 0 < ((setFans v).held k).eff) :
    (setFans v).fan k =
      { (v.fan k).store ((setFans v).held k) with history := v.windowStamps k }.toStarting v.tb.uptime := by
  rw [setFans_incident_held hincident] at hpos ⊢
  rw [setFans_incident_fan hincident]
  exact (setFans_incident_taken hincident hqueue).starts k (mem_allFans k) hwaits hpos

/-- Handed stage 0 it stops, with FAN STOP. -/
theorem setFans_incident_stops {k : FanNo} (hwaits : (v.fan k).state = some .waitingBudget) (hzero : ((setFans v).held k).eff = 0) :
    (setFans v).fan k = ((v.fan k).store ((setFans v).held k)).toStopped ∧
      Entered ⟨v.tb.clock, .fan k, .fanStop, none, none, false⟩ v.evq (setFans v).evq := by
  rw [setFans_incident_held hincident] at hzero ⊢
  obtain ⟨hstops, hentry⟩ := (setFans_incident_taken hincident hqueue).stops k (mem_allFans k) hwaits hzero
  have hclosed : Appended (run handRegimeAll (roleRequests v)).evq (setFans v).evq := by
    rw [setFans_incident hincident]
    exact ((seekDemand_handedOn _).trans (evaluateShort_handedOn _)).2
  rw [setFans_incident_fan hincident]
  exact ⟨hstops, hentry.before hclosed⟩

end Incident

end Sys2Proof.Machine

end

/-! PROOFS. REGIME as its request is answered (R145–R149). -/

section

namespace Sys2Proof.Machine

/-! ### What every entry leaves -/

section Entered

variable (r : Regime) (params : Rau → Rau) (w : State)

/-- The regime and its parameters are what an entry leaves of the RAU's record, but for the demand and the fans. -/
theorem enterRegime_record : ∃ d : Bool,
    (enterRegime r params w).rau.fixed = { params w.rau with regime := r, doorOpen := d }.fixed := by
  obtain ⟨d, hfixed, -⟩ := regimeHanded_record r params w
  exact ⟨d, (setFans_handedOn (regimeHanded r params w)).rau.trans hfixed⟩

theorem regimeHanded_fan (k : FanNo) : (regimeHanded r params w).fan k = w.fan k := by
  rw [State.fan, regimeHanded_fans, State.fan]

theorem enterRegime_fan (k : FanNo) : ((enterRegime r params w).fan k).fixed = (w.fan k).fixed := by
  rw [← regimeHanded_fan r params w k]
  exact (setFans_handedOn (regimeHanded r params w)).fan k

theorem enterRegime_lockMode (k : DoorNo) : ((enterRegime r params w).door k).lockMode = (w.door k).lockMode := by
  rw [← regimeHanded_lockMode r params w k, enterRegime_eq, State.door, (setFans_handedOn _).doors, State.door]

theorem enterRegime_evq : Appended (w.evq.push ⟨w.tb.clock, .node, .regimeChanged, some r.code,
    if r = .incident then (params w.rau).role.map fun x => (x.code : Int) else none, false⟩) (enterRegime r params w).evq :=
  (regimeHanded_evq r params w).trans (setFans_handedOn (regimeHanded r params w)).2

end Entered

/-! ### The parameters read (R145) -/

/-- The entry into the regime named, with the parameters it reads. -/
abbrev regimeServed (r : Regime) (fs : List Byte) (w : State) : State := enterRegime r (regimeParams r fs) w

section Served

variable (r : Regime) (fs : List Byte) (w : State)

/-- The regime and its parameters as the entry leaves them. -/
theorem regimeServed_params : (regimeServed r fs w).rau.regime = r ∧
    (regimeServed r fs w).rau.autoDir = (regimeParams r fs w.rau).autoDir ∧
    (regimeServed r fs w).rau.floor = (regimeParams r fs w.rau).floor ∧
    (regimeServed r fs w).rau.role = (regimeParams r fs w.rau).role ∧
    (regimeServed r fs w).rau.incDir = (regimeParams r fs w.rau).incDir ∧
    (regimeServed r fs w).rau.incStage = (regimeParams r fs w.rau).incStage ∧
    (regimeServed r fs w).rau.respectCap = (regimeParams r fs w.rau).respectCap := by
  obtain ⟨d, hfixed⟩ := enterRegime_record r (regimeParams r fs) w
  exact ⟨(congrArg Rau.regime hfixed :), (congrArg Rau.autoDir hfixed :), (congrArg Rau.floor hfixed :), (congrArg Rau.role hfixed :),
    (congrArg Rau.incDir hfixed :), (congrArg Rau.incStage hfixed :), (congrArg Rau.respectCap hfixed :)⟩

/-- No regime reads the demand table, the door cap or the auto hold. -/
theorem regimeServed_keeps : (regimeServed r fs w).rau.steps = w.rau.steps ∧ (regimeServed r fs w).rau.doorCap = w.rau.doorCap ∧
    (regimeServed r fs w).rau.autoHold = w.rau.autoHold := by
  have hparams : (regimeParams r fs w.rau).steps = w.rau.steps ∧ (regimeParams r fs w.rau).doorCap = w.rau.doorCap ∧
      (regimeParams r fs w.rau).autoHold = w.rau.autoHold := by
    cases r <;> exact ⟨rfl, rfl, rfl⟩
  obtain ⟨hsteps, hcap, hhold⟩ := hparams
  obtain ⟨d, hfixed⟩ := enterRegime_record r (regimeParams r fs) w
  exact ⟨(congrArg Rau.steps hfixed :).trans hsteps, (congrArg Rau.doorCap hfixed :).trans hcap,
    (congrArg Rau.autoHold hfixed :).trans hhold⟩

end Served

section Each

variable {fs : List Byte} {w : State}

/-! ### MANUAL (R147) -/

theorem manualServed : (∀ k, ((regimeServed .manual fs w).held k).req = (w.held k).eff) ∧
    ((regimeServed .manual fs w).rau.short = true ↔
      (regimeServed .manual fs w).delivered < (regimeServed .manual fs w).thrustSought) := by
  obtain ⟨d, hrecord⟩ := regimeHanded_rau .manual (regimeParams .manual fs) w (by decide)
  obtain ⟨hreq, hshort⟩ := setFans_manual (v := regimeHanded .manual (regimeParams .manual fs) w) (congrArg Rau.regime hrecord :)
  refine ⟨fun k => (hreq k).trans ?_, hshort⟩
  rw [State.held, hrecord, State.held]
  rfl

/-! ### AUTO (R148) -/

theorem autoServed_dir (k : FanNo) : ((regimeServed .auto fs w).held k).dir = .ofCode (u8 fs 1) := by
  obtain ⟨d, hrecord⟩ := regimeHanded_rau .auto (regimeParams .auto fs) w (by decide)
  obtain ⟨-, hdir⟩ := setFans_autoDirs (v := regimeHanded .auto (regimeParams .auto fs) w) (congrArg Rau.regime hrecord :)
  obtain ⟨-, hauto, -⟩ := regimeServed_params .auto fs w
  exact (hdir k).trans hauto

/-- With the CAL IDLE the allocation of what the step and the new floor seek is in force. -/
theorem autoServed_idle (hphase : w.cal.phase = .none) {D : Nat} (hD : D = max (w.rau.thrustOf w.rau.step) (min (u8 fs 2) 12)) :
    ((regimeServed .auto fs w).rau.sought = D ∧ (regimeServed .auto fs w).rau.demand = D ∧
      (regimeServed .auto fs w).rau.fallWaiting = false ∧ (regimeServed .auto fs w).rau.lastChange = some w.stampNow ∧
      ∀ k, ((regimeServed .auto fs w).held k).req =
          State.allocatedStage { w with rau := { w.rau with autoDir := .ofCode (u8 fs 1) } } D k ∧
        ((regimeServed .auto fs w).held k).eff = if (regimeServed .auto fs w).rau.doorOpen then
            min ((regimeServed .auto fs w).held k).req (regimeServed .auto fs w).rau.doorCap
          else ((regimeServed .auto fs w).held k).req) ∧
      ((regimeServed .auto fs w).rau.short = true ↔
        (regimeServed .auto fs w).delivered < (regimeServed .auto fs w).thrustSought) := by
  obtain ⟨d, hrecord⟩ := regimeHanded_rau .auto (regimeParams .auto fs) w (by decide)
  have hsame : SameRanking { w with rau := { w.rau with autoDir := .ofCode (u8 fs 1) } }
      (regimeHanded .auto (regimeParams .auto fs) w) :=
    ⟨regimeHanded_fans .auto _ w, regimeHanded_tb .auto _ w, by rw [hrecord]; rfl⟩
  have hthrust : (regimeHanded .auto (regimeParams .auto fs) w).rau.thrustOf = w.rau.thrustOf :=
    thrustOf_congr (congrArg Rau.steps hrecord :)
  have hidle : (regimeHanded .auto (regimeParams .auto fs) w).cal.phase = .none := by
    rw [regimeHanded_cal .auto _ w (by decide), hphase]
  have hsought : max ((regimeHanded .auto (regimeParams .auto fs) w).rau.thrustOf (regimeHanded .auto (regimeParams .auto fs) w).rau.step)
      (regimeHanded .auto (regimeParams .auto fs) w).rau.floor = D := by
    rw [hthrust, hrecord, hD]
    rfl
  obtain ⟨hs, hd, hwaiting, hchange, hheld, hshort⟩ := setFans_auto_idle (congrArg Rau.regime hrecord :) hidle hsought
  refine ⟨⟨hs, hd, hwaiting, hchange.trans ?_, fun k => ?_⟩, hshort⟩
  · rw [State.stampNow, regimeHanded_tb, State.stampNow]
  · rw [← hsame.allocatedStage]
    exact hheld k

/-! ### INCIDENT (R149) -/

theorem incidentHanded_regime : (regimeHanded .incident (regimeParams .incident fs) w).rau.regime = .incident := by
  obtain ⟨d, hfixed, -⟩ := regimeHanded_record .incident (regimeParams .incident fs) w
  exact (congrArg Rau.regime hfixed :)

/-- What INCIDENT leaves of the calibration work (R92, R104). -/
theorem incidentServed_work : (regimeServed .incident fs w).cal.queue = [] ∧
    ((w.cal.phase = .none ↔ w.cal.queue = []) → (regimeServed .incident fs w).cal.phase = .none) ∧
    (regimeServed .incident fs w).cal.span = none ∧
    (∀ sp, w.cal.span = some sp →
      ((regimeServed .incident fs w).ch sp.channel).cfg = { (w.ch sp.channel).cfg with span := sp.entryG } ∧
      ((regimeServed .incident fs w).ch sp.channel).flags.trim = false ∧
      ((regimeServed .incident fs w).ch sp.channel).flags.unsettled = false) ∧
    (w.cal.phase.airOn = true → ∀ x rest, w.cal.queue = x :: rest → (regimeServed .incident fs w).cal.valve = false ∧
      ((regimeServed .incident fs w).ch x.channel).flags.calibrating = false ∧
      ((regimeServed .incident fs w).ch x.channel).filterInit = false) := by
  obtain ⟨hcal, hchannels, -⟩ := regimeHanded_incident (regimeParams .incident fs) w
  obtain ⟨hqueue, hspan⟩ := clearWork_workless (incidentStored (regimeParams .incident fs) w)
  obtain ⟨hleft, hmarks⟩ := setFans_incident_work (v := regimeHanded .incident (regimeParams .incident fs) w)
    incidentHanded_regime (by rw [hcal]; exact hqueue)
  have hch : ∀ c, (regimeHanded .incident (regimeParams .incident fs) w).ch c =
      (clearWork (incidentStored (regimeParams .incident fs) w)).ch c := fun c => by rw [State.ch, hchannels, State.ch]
  rw [hcal] at hleft
  simp only [hch] at hmarks
  rw [regimeServed, enterRegime_eq, hleft]
  refine ⟨hqueue, fun hempty => clearWork_idle _ hempty, hspan, fun sp hsp => ?_, fun hair x rest hcons => ?_⟩
  · obtain ⟨hflags, -, hcfg⟩ := hmarks sp.channel
    rw [hflags, hcfg]
    exact clearWork_session (incidentStored (regimeParams .incident fs) w) hsp
  · obtain ⟨hflags, hfilter, -⟩ := hmarks x.channel
    rw [hflags, hfilter]
    exact clearWork_closes (incidentStored (regimeParams .incident fs) w) hcons hair

theorem incidentServed_short : (regimeServed .incident fs w).rau.short = true ↔
    (regimeServed .incident fs w).delivered < (regimeServed .incident fs w).thrustSought :=
  setFans_incident_short incidentHanded_regime

/-- The role's stage and direction for every present fan. -/
theorem incidentServed_held (k : FanNo) :
    ((w.fan k).state.isSome = true → ((regimeServed .incident fs w).held k).dir = .ofCode (u8 fs 4) ∧
      ((regimeServed .incident fs w).held k).req = if Role.ofCode (u8 fs 3) = .fireZone then 0 else min (u8 fs 5) 3) ∧
    ((w.fan k).state = none → ((regimeServed .incident fs w).held k).req = 0) := by
  obtain ⟨d, hfixed, -⟩ := regimeHanded_record .incident (regimeParams .incident fs) w
  have hrole : (regimeHanded .incident (regimeParams .incident fs) w).rau.role = some (.ofCode (u8 fs 3)) :=
    (congrArg Rau.role hfixed :)
  have hdir : (regimeHanded .incident (regimeParams .incident fs) w).rau.incDir = .ofCode (u8 fs 4) :=
    (congrArg Rau.incDir hfixed :)
  have hstage : (regimeHanded .incident (regimeParams .incident fs) w).rau.incStage = min (u8 fs 5) 3 :=
    (congrArg Rau.incStage hfixed :)
  rw [regimeServed, enterRegime_eq, setFans_incident_held incidentHanded_regime, roleRequests, setRequests_held,
    regimeHanded_fan, Rau.roleRequest]
  refine ⟨fun hpresent => ?_, fun habsent => ?_⟩
  · rw [if_pos hpresent, Rau.roleStage, hrole, hdir, hstage]
    simp only [Option.some.injEq, and_self]
  · rw [habsent]
    rfl

/-- A fan that waits on its budget starts, or stops where its effective stage is 0 (R138, R140). -/
theorem incidentServed_waiting {k : FanNo} (hwaits : (w.fan k).state = some .waitingBudget) :
    (0 < ((regimeServed .incident fs w).held k).eff → ((regimeServed .incident fs w).fan k).state = some .starting ∧
      ((regimeServed .incident fs w).fan k).run = true ∧ ((regimeServed .incident fs w).fan k).dirOut = .ofCode (u8 fs 4) ∧
      ((regimeServed .incident fs w).fan k).drive = (w.fan k).cfg.feedForward ((regimeServed .incident fs w).held k).eff ∧
      ((regimeServed .incident fs w).fan k).history = recordStart (w.windowStamps k) w.stampNow) ∧
    (((regimeServed .incident fs w).held k).eff = 0 → ((regimeServed .incident fs w).fan k).state = some .stopped ∧
      ((regimeServed .incident fs w).fan k).run = false ∧
      Entered ⟨w.tb.clock, .fan k, .fanStop, none, none, false⟩ w.evq (regimeServed .incident fs w).evq) := by
  obtain ⟨hcal, -, -⟩ := regimeHanded_incident (regimeParams .incident fs) w
  have hqueue : (regimeHanded .incident (regimeParams .incident fs) w).cal.queue = [] := by
    rw [hcal]
    exact (clearWork_workless _).1
  have hfan := regimeHanded_fan .incident (regimeParams .incident fs) w k
  have htb := regimeHanded_tb .incident (regimeParams .incident fs) w
  have hdir : ((regimeServed .incident fs w).held k).dir = .ofCode (u8 fs 4) :=
    ((incidentServed_held k).1 (by rw [hwaits]; rfl)).1
  have hstill : ((regimeHanded .incident (regimeParams .incident fs) w).fan k).state = some .waitingBudget := by rw [hfan, hwaits]
  refine ⟨fun hpos => ?_, fun hzero => ?_⟩
  · have hstarts := setFans_incident_starts incidentHanded_regime hqueue hstill hpos
    rw [windowStamps_congr htb (by rw [hfan]) (by rw [hfan]), htb, hfan] at hstarts
    rw [regimeServed, enterRegime_eq, hstarts]
    exact ⟨rfl, rfl, hdir, rfl, rfl⟩
  · obtain ⟨hstops, hentry⟩ := setFans_incident_stops incidentHanded_regime hqueue hstill hzero
    rw [htb] at hentry
    rw [regimeServed, enterRegime_eq, hstops]
    exact ⟨rfl, rfl, .after (.trans ⟨[_], rfl⟩ (regimeHanded_evq .incident (regimeParams .incident fs) w)) hentry⟩

/-- CAL ABORTED and then SPAN ABORTED follow REGIME CHANGED (R92, R104). -/
theorem incidentServed_evq {q q1 q2 : EventQueue} (hq : q = w.evq.push ⟨w.tb.clock, .node, .regimeChanged, some Regime.incident.code,
      (regimeParams .incident fs w.rau).role.map fun x => (x.code : Int), false⟩)
    (hq1 : q1 = match w.cal.queue with
      | [] => q
      | x :: _ => q.push ⟨w.tb.clock, .cal x.channel, .calAborted, some 4, some 0, false⟩)
    (hq2 : q2 = match w.cal.span with
      | none => q1
      | some sp => q1.push ⟨w.tb.clock, .cal sp.channel, .spanAborted, none, some sp.entryG, false⟩) :
    Appended q2 (regimeServed .incident fs w).evq := by
  obtain ⟨-, -, hevq⟩ := regimeHanded_incident (regimeParams .incident fs) w
  have hcleared : (clearWork (incidentStored (regimeParams .incident fs) w)).evq = q2 := by
    rw [clearWork_evq, clearForIncident_evq, hq2, hq1, hq]
    rfl
  rw [← hcleared]
  exact hevq.trans (setFans_handedOn _).2

end Each

/-! ### The statement -/

theorem ofCode_incident {n : Nat} (h : 2 ≤ n) : Regime.ofCode n = .incident := by
  match n, h with
  | n + 2, _ => rfl

theorem ofCode_auto {n : Nat} (h : Regime.ofCode n = .auto) : n = 1 := by
  match n, h with
  | 1, _ => rfl

theorem clampedRegime_eq (a b c d e f g : Byte) : clampedRegime [a, b, c, d, e, f, g] = (decide (2 < a.toNat) ||
    (if a.toNat = 0 then false else if a.toNat = 1 then decide (1 < b.toNat ∨ 12 < c.toNat)
      else decide (d.toNat = 0 ∨ 3 < d.toNat ∨ 1 < e.toNat ∨ 3 < f.toNat ∨ 1 < g.toNat))) := by
  rw [clampedRegime, u8_cons_zero]
  congr 1
  match a.toNat with
  | 0 => rfl
  | 1 =>
    rw [Bool.eq_iff_iff, if_neg Nat.one_ne_zero, if_pos rfl]
    simp only [Regime.ofCode, Bool.or_eq_true, decide_eq_true_iff]
    rfl
  | n + 2 =>
    rw [Bool.eq_iff_iff, if_neg (by omega), if_neg (by omega)]
    simp only [Regime.ofCode, Bool.or_eq_true, decide_eq_true_iff, or_assoc]
    rfl

/-- DEMAND SHORT as every entry leaves it, into AUTO with the CAL IDLE. -/
theorem regimeServed_short {r : Regime} {fs : List Byte} {w : State} (h : r ≠ .auto ∨ w.cal.phase = .none) :
    (regimeServed r fs w).rau.short = true ↔ (regimeServed r fs w).delivered < (regimeServed r fs w).thrustSought := by
  cases r with
  | manual => exact manualServed.2
  | auto => exact (autoServed_idle (h.resolve_left (fun hne => hne rfl)) rfl).2
  | incident => exact incidentServed_short

/-- Settles O42: what every entry leaves, then regime by regime, with the entries that INCIDENT makes. -/
theorem regimeEntered : Obligations.RegimeEntered := by
  intro a b c d e f g s hready
  have hserved : exec (.regime .addressed [a, b, c, d, e, f, g]) s = .next
      ((regimeServed (Regime.ofCode a.toNat) [a, b, c, d, e, f, g] (contact s)).replies 0x28
        (taken (clampedRegime [a, b, c, d, e, f, g]))
        (regimeBytes (regimeServed (Regime.ofCode a.toNat) [a, b, c, d, e, f, g] (contact s)).rau)) := by
    rw [exec_served (i := .regime .addressed [a, b, c, d, e, f, g]) (r := ⟨0x28, true, 7, .addressed, [a, b, c, d, e, f, g]⟩)
      hready rfl rfl rfl, ← beginService_answer]
    rfl
  rw [clampedRegime_eq] at hserved
  obtain ⟨hregime, hautoDir, hfloor, hrole, hincDir, hincStage, hrespect⟩ :=
    regimeServed_params (Regime.ofCode a.toNat) [a, b, c, d, e, f, g] (contact s)
  obtain ⟨hsteps, hcap, hhold⟩ := regimeServed_keeps (Regime.ofCode a.toNat) [a, b, c, d, e, f, g] (contact s)
  refine ⟨_, hserved, (enterRegime_alters _ _ _).1, by rw [hsteps, contact_rau], by rw [hcap, contact_rau],
    by rw [hhold, contact_rau], fun k => (enterRegime_fan _ _ _ k).trans (by rw [contact_fan]),
    fun k => (enterRegime_lockMode _ _ _ k).trans (by rw [contact_door]), fun ha => ?_, fun ha => ?_, fun ha hphase D hD => ?_,
    fun h => ?_, fun ha => ?_, ?_⟩
  · rw [hautoDir, hfloor, hrole, hincStage, hregime, ha, contact_rau]
    exact ⟨rfl, rfl, rfl, rfl, rfl, fun k => (manualServed.1 k).trans (by rw [contact_held])⟩
  · rw [hautoDir, hfloor, hrole, hregime, ha, contact_rau]
    exact ⟨rfl, rfl, rfl, rfl, fun k => autoServed_dir k⟩
  · obtain ⟨⟨hsought, hdemand, hwaiting, hchange, hheld⟩, -⟩ := autoServed_idle (fs := [a, b, c, d, e, f, g]) (w := contact s)
      (by rw [contact_cal, hphase]) (D := D) (by rw [contact_rau]; exact hD)
    have hsame : SameRanking { s with rau := { s.rau with autoDir := Dir.ofCode b.toNat } }
        { contact s with rau := { (contact s).rau with autoDir := Dir.ofCode b.toNat } } := ⟨contact_fans s, contact_tb s, rfl⟩
    rw [ha]
    refine ⟨hsought, hdemand, hwaiting, hchange.trans ?_, fun k => ?_⟩
    · rw [State.stampNow, contact_tb]
    · rw [← hsame.allocatedStage]
      exact hheld k
  · refine regimeServed_short (h.imp (fun hne hauto => hne (ofCode_auto hauto)) fun hphase => ?_)
    rw [contact_cal, hphase]
  · obtain ⟨hqueue, hidle, hspan, hsession, hair⟩ := incidentServed_work (fs := [a, b, c, d, e, f, g]) (w := contact s)
    rw [contact_cal] at hidle hsession hair
    rw [hautoDir, hfloor, hrole, hincDir, hincStage, hrespect, hregime, ofCode_incident ha, contact_rau]
    refine ⟨rfl, rfl, rfl, rfl, rfl, rfl, rfl, hqueue, fun ⟨_, hempty, _⟩ => hidle hempty, hspan, fun k hpresent => ?_,
      fun k habsent => ?_, fun sp hsp => ?_, hair, fun k hwaits => ?_⟩
    · exact (incidentServed_held k).1 (by rw [contact_fan]; exact hpresent)
    · exact (incidentServed_held k).2 (by rw [contact_fan]; exact habsent)
    · rw [← contact_ch s]
      exact hsession sp hsp
    · obtain ⟨hstarts, hstops⟩ := incidentServed_waiting (fs := [a, b, c, d, e, f, g]) (w := contact s) (k := k)
        (by rw [contact_fan]; exact hwaits)
      rw [windowStamps_congr (contact_tb s) (by rw [contact_fan]) (by rw [contact_fan]), State.stampNow, contact_tb,
        contact_fan] at hstarts
      rw [contact_tb] at hstops
      exact ⟨hstarts, hstops⟩
  · rintro q hq
    rw [hregime, hrole, ← contact_tb s] at hq
    refine ⟨?_, fun ha q1 q2 hq1 hq2 => ?_⟩
    · rw [hq]
      exact enterRegime_evq _ _ _
    · rw [ofCode_incident ha] at hq ⊢
      rw [← contact_tb s, ← contact_cal s] at hq1 hq2
      exact incidentServed_evq hq hq1 hq2

end Sys2Proof.Machine

end
